-- ==== Sys2Proof/Word.lean ====
section
/-! DEFINITION. The word types of the part and their plainest arithmetic. -/

namespace Sys2Proof

/-- One byte of a frame, a record or a descriptor. -/
abbrev Byte := BitVec 8

/-- A set of lanes, as the one-byte lane set of R174: bit `r` stands for lane `r`. -/
abbrev LaneSet := BitVec 8

/-- Uptime in milliseconds, modulo 2^32 (R160). -/
abbrev Uptime := BitVec 32

/-- The 96 bits of a lane mark (R175), bit 95 sent first. -/
abbrev MarkBits := BitVec 96

/-- A cable port, 0..15. -/
abbrev Port := Fin 16

/-- A physical lane of a port, 0..7. -/
abbrev Lane := Fin 8

/-- A count that holds at its maximum. -/
def satAdd (top a b : Nat) : Nat := min top (a + b)

/-- All ports in ascending order. -/
def allPorts : List Port := [0, 1, 2, 3, 4, 5, 6, 7, 8, 9, 10, 11, 12, 13, 14, 15]

/-- All physical lanes of a port in ascending order. -/
def allLanes : List Lane := [0, 1, 2, 3, 4, 5, 6, 7]

/-- The lane numbers 0..7, used for relative lanes. -/
def laneNumbers : List Nat := [0, 1, 2, 3, 4, 5, 6, 7]

end Sys2Proof
end

