-- ==== Sys2Proof/Syntax.lean ====
section
/-! DEFINITION. The commands of the part: one constructor per row of spec/opcode_table.json. -/

namespace Sys2Proof

/-- A link's half of its port. -/
inductive Half where
  | A
  | B
  deriving DecidableEq, Repr

/-- The level of an input pin. PRES_N is low when a cable is seated. -/
inductive Level where
  | high
  | low
  deriving DecidableEq, Repr

/-- The 13 bytes of one expectation of a PLAN_SET request, as they stand in the frame (Chapter 12,
Management Frame). -/
structure RawExpectation where
  chassis : Byte
  position : Byte
  port : Byte
  half : Byte
  minWidth : Byte
  reversal : Byte
  autoTrain : Byte
  presetCount : Byte
  preset1 : Byte
  preset2 : Byte
  preset3 : Byte
  preset4 : Byte
  minGrade : Byte
  deriving DecidableEq, Repr

/-- The six values of a TIMING request, as they stand in the frame. -/
structure RawTiming where
  debounce : Byte
  window : BitVec 16
  timeout : BitVec 16
  attempts : Byte
  warning : Byte
  recheck : Byte
  deriving DecidableEq, Repr

/-- The commands. Events carry what the pins and the lane front ends deliver; a message carries the
tag of its frame and its parameters as they stand in the frame, in range or not. A port operand of a
message is its byte (R174: 0..15, 0xF0 FOCUS, 0xFE ALL, 0xFF NONE). -/
inductive Instr where
  /-- FULL_RESET (R162), with the levels of POS[1:0] and MSPD at the end of the reset. -/
  | fullReset (pos : BitVec 2) (mspd : Level)
  /-- PRESENCE_SAMPLE (R2): one sample of the port's PRES_N. -/
  | presenceSample (p : Port)
  /-- PRES_N_CHANGE (R3): the level of PRES_N becomes `level`. -/
  | presNChange (p : Port) (level : Level)
  /-- NO_ANSWER (R5): the attempt's 10 ms pass without every byte. -/
  | noAnswer (p : Port)
  /-- DESCRIPTOR_ANSWERED (R5, R6): every byte of the descriptor has arrived. -/
  | descriptorAnswered (p : Port) (b0 b1 b2 b3 b4 : Byte)
  /-- MARK_TRANSMIT (R21): the port's stamp counter passes 0; `quality` is the receive quality figure
  of each receive lane at that moment (R24). -/
  | markTransmit (p : Port) (quality : Vector (BitVec 4) 8)
  /-- SIGNAL_GAINED (R32). -/
  | signalGained (p : Port) (lane : Lane)
  /-- SIGNAL_LOST (R32). -/
  | signalLost (p : Port) (lane : Lane)
  /-- MARK_ARRIVED (R26): a 96-UI block as it stands on the line, ahead of the lane's polarity
  correction, and its stamp. -/
  | markArrived (p : Port) (lane : Lane) (block : MarkBits) (stamp : BitVec 10)
  /-- SYNC_MISSING (R26). -/
  | syncMissing (p : Port) (lane : Lane)
  /-- VIOLATIONS (R126): the reports of the port's eight lanes for the millisecond just ended. -/
  | violations (p : Port) (counts : Vector Nat 8)
  /-- LOCK_LOST (R128). -/
  | lockLost (p : Port) (lane : Lane)
  /-- UPTIME_TICK (R160). -/
  | uptimeTick
  /-- SURVEY_WINDOW_EXPIRY (R57). -/
  | surveyWindowExpiry (p : Port)
  /-- SETTLE_EXPIRY (R58). -/
  | settleExpiry (p : Port)
  /-- CHECK_QUIET_EXPIRY (R74). -/
  | checkQuietExpiry (p : Port) (h : Half)
  /-- CHECK_BOUND_EXPIRY (R74). -/
  | checkBoundExpiry (p : Port) (h : Half)
  /-- RETAINED_DWELL_END (R112). -/
  | retainedDwellEnd (p : Port) (h : Half)
  /-- LIST_DWELL_END (R113). -/
  | listDwellEnd (p : Port) (h : Half)
  /-- TRAINING_TIMER_EXPIRY (R119). -/
  | trainingTimerExpiry (p : Port) (h : Half)
  /-- REGROUP_TIMER_EXPIRY (R92). -/
  | regroupTimerExpiry (p : Port) (h : Half)
  /-- RECHECK_TIMER_EXPIRY (R102). -/
  | recheckTimerExpiry (p : Port) (h : Half)
  /-- PROBE_TIMER_EXPIRY (R136). -/
  | probeTimerExpiry (p : Port) (h : Half)
  /-- LOCATE_BLINK_TOGGLE (R18). -/
  | locateBlinkToggle
  /-- FRAME_GAP_TIMEOUT (R164). -/
  | frameGapTimeout
  /-- FRAMING_ERROR (R164): a bad length byte (`some b`) or a byte error (`none`). -/
  | framingError (badLength : Option Byte)
  /-- CHECK_ERROR (R164): the second check byte arrives and the check disagrees. -/
  | checkError
  /-- FRAME_COMPLETE (R166): a frame with this body and a good check is complete. -/
  | frameComplete (body : List Byte)
  /-- REPLY_SENT (R166). -/
  | replySent
  /-- UNKNOWN_REQUEST (R167): a request body `code :: rest` whose code is no message. -/
  | unknownRequest (code : Byte) (rest : List Byte)
  /-- IDENT (R171). -/
  | ident (tag : Byte)
  /-- STATUS (R171). -/
  | status (tag clear : Byte)
  /-- MODE_ACTIVE (R157). -/
  | modeActive (tag : Byte)
  /-- MODE_SETUP (R158). -/
  | modeSetup (tag : Byte)
  /-- NODE (R55). -/
  | node (tag chassis : Byte)
  /-- TIMING with values (R159). -/
  | timing (tag : Byte) (v : RawTiming)
  /-- TIMING without values (R159). -/
  | timingQuery (tag : Byte)
  /-- PRESET with values (R45). -/
  | preset (tag number amplitude emphasis : Byte)
  /-- PRESET without values (R56). -/
  | presetQuery (tag : Byte)
  /-- TAG (R54). -/
  | planTag (tag value : Byte)
  /-- PLAN_SET (R46); expectation B is carried by a SPLIT body. -/
  | planSet (tag port form : Byte) (a : RawExpectation) (b : Option RawExpectation)
  /-- PLAN_CLEAR (R47). -/
  | planClear (tag port : Byte)
  /-- PLAN_GET (R56). -/
  | planGet (tag port : Byte)
  /-- PORT_ON (R12). -/
  | portOn (tag port : Byte)
  /-- PORT_OFF (R11). -/
  | portOff (tag port : Byte)
  /-- RESURVEY (R13). -/
  | resurvey (tag port : Byte)
  /-- TRAIN (R108). -/
  | train (tag port half : Byte)
  /-- ISOLATE (R134). -/
  | isolate (tag port half : Byte)
  /-- RECOVER (R139). -/
  | recover (tag port half : Byte)
  /-- PORT_GET (R172). -/
  | portGet (tag port sect : Byte)
  /-- LANE_GET (R173). -/
  | laneGet (tag port lane : Byte)
  /-- HISTORY_GET (R155). -/
  | historyGet (tag port : Byte)
  /-- SNAP_ARM (R153). -/
  | snapArm (tag port half mode : Byte)
  /-- SNAP_GET (R153). -/
  | snapGet (tag port half : Byte)
  /-- INDICATE (R15). -/
  | indicate (tag port source invert direct : Byte)
  /-- LOCATE (R18). -/
  | locate (tag port : Byte)
  /-- FILTER (R146). -/
  | filter (tag number enable : Byte) (kinds ports : BitVec 16)
  /-- FETCH (R148). -/
  | fetch (tag count : Byte)
  /-- FOCUS SET (R170). -/
  | focusSet (tag target : Byte)
  /-- FOCUS CLEAR (R170). -/
  | focusClear (tag : Byte)
  /-- FOCUS READ (R170). -/
  | focusRead (tag : Byte)
  /-- RESTART (R161). -/
  | restart (tag : Byte)
  /-- BYTE_RECEIVED (R164): a good byte arrives on MRX. -/
  | byteReceived (b : Byte)
  /-- ACCEPTANCE_AT_ONCE (R19, R3). -/
  | acceptanceAtOnce (p : Port)
  deriving DecidableEq, Repr

end Sys2Proof
end

