-- ==== Sys2Proof/Decode.lean ====
section
/-! DEFINITION. The command a word of the opcode table spells. No row of the table gives bits: a command
reaches the part as an event or as a frame of bytes, which `Machine.readBody` reads. -/

namespace Sys2Proof

/-- The command of a table word: none, for the table gives no row any bits. -/
def decodeTableWord (_nbits _w : Nat) : Option Instr := none

end Sys2Proof
end

