-- ==== Sys2Proof/Config.lean ====
section
/-! DEFINITION. The values the manual leaves open. None has a body, so no proof can rest on one. -/

namespace Sys2Proof

/-- FREE VALUE (DESIGN CHOICE, log entry 20). A byte of a reply whose field is absent and for which
Chapter 12 names no code of absence: the position byte of an absent identity (but for its reserved bit 0, which
is sent as zero), the start of an absent group, the bytes of an absent time, stamp or spread. The first argument is the number of the reply
(`State.replies`), the second the offset of the byte in the reply data. -/
opaque Config.absentByte (reply offset : Nat) : Byte

/-- FREE VALUE (DESIGN CHOICE, log entry 21). The code of the accepted presence in the PORT section of
PORT_GET; Chapter 12 gives no code for it. -/
opaque Config.presenceCode (present : Bool) : Byte

end Sys2Proof
end

