-- ==== Sys2Proof/Machine/State.lean ====
section
/-! DEFINITION. The state of the part: every record the manual gives its blocks, as plain data, with
the value after full reset. Field comments name the rule that gives the field. -/

namespace Sys2Proof.Machine

/-! ### Enumerations, in the code order of Chapter 12 -/

/-- The device mode (R156). -/
inductive Mode where
  | setup
  | active
  deriving DecidableEq, Repr

/-- The form of a cable or a plan entry. -/
inductive Form where
  | full
  | split
  deriving DecidableEq, Repr

/-- The media of a cable descriptor (R176). -/
inductive Media where
  | passiveCopper
  | activeCopper
  | optical
  deriving DecidableEq, Repr

/-- The state of a port (R1). -/
inductive PortState where
  | off
  | empty
  | seating
  | seated
  | survey
  | assigned
  | cableFault
  deriving DecidableEq, Repr

/-- The state of a link (R62). -/
inductive LinkState where
  | checking
  | verified
  | blocked
  | training
  | up
  | isolated
  deriving DecidableEq, Repr

/-- The status of a lane (R30). -/
inductive LaneStatus where
  | quiet
  | signal
  | marked
  | confirmed
  deriving DecidableEq, Repr

/-- The phase a mark carries (R20). -/
inductive Phase where
  | survey
  | hold
  | ready
  | train
  | link
  deriving DecidableEq, Repr

/-- The map class of a link (R64). -/
inductive MapClass where
  | straight
  | reversed
  deriving DecidableEq, Repr

/-- The role of a link's end (R80). -/
inductive Role where
  | senior
  | junior
  | self
  deriving DecidableEq, Repr

/-- The health level of an UP link (R127). -/
inductive HealthLevel where
  | good
  | warned
  | degraded
  deriving DecidableEq, Repr

/-- The stage of a training attempt (R106). -/
inductive Stage where
  | equalize
  | deskew
  | align
  deriving DecidableEq, Repr

/-- Whether a recheck is in flight (R96). -/
inductive RecheckState where
  | idle
  | collecting
  deriving DecidableEq, Repr

/-- The outcome of the latest recheck (R96). -/
inductive RecheckOutcome where
  | none
  | kept
  | shed
  | abandoned
  deriving DecidableEq, Repr

/-- Which computation set a skew-rejected mark (R96). -/
inductive Origin where
  | deskew
  | recheck
  deriving DecidableEq, Repr

/-- The indicator source (R15, R16). -/
inductive IndSource where
  | present
  | upAny
  | upAll
  | attention
  | health
  deriving DecidableEq, Repr

/-- The indicator direct setting (R15). -/
inductive IndDirect where
  | none
  | on
  | off
  deriving DecidableEq, Repr

/-- The mode of a snapshot (R151). -/
inductive SnapMode where
  | off
  | once
  | every
  deriving DecidableEq, Repr

/-- Why a mark is invalid (R28). -/
inductive MarkFailure where
  | sync
  | check
  | code
  | lane
  | span
  deriving DecidableEq, Repr

/-- Reasons, causes and history reasons share one code (Chapter 12, Codes): block reasons, LINK_DOWN
reasons, isolation causes, fault reasons, training causes and port causes. -/
inductive Reason where
  | formMismatch
  | dark
  | crossed
  | scrambled
  | noPlan
  | wrongPeer
  | reversed
  | staleTag
  | oneWay
  | duplicatePeer
  | tooNarrow
  | trainFailed
  | cableOut
  | portOff
  | resurvey
  | planChange
  | farEndChange
  | farEndLeft
  | laneLoss
  | skewDrift
  | health
  | hostIsolate
  | modeSetup
  | restart
  | residue
  | timeout
  | pass
  | laneChange
  | peerReleased
  | start
  | trained
  | train
  | recovered
  | cableIn
  | readGood
  | noAnswer
  | badCheck
  | badContents
  | portOn
  | modeActive
  | surveyEnd
  deriving DecidableEq, Repr

/-- The debounce period (R159). -/
inductive Debounce where
  | none
  | ms2
  | ms8
  | ms32
  deriving DecidableEq, Repr

/-- The recheck interval (R159). -/
inductive RecheckInterval where
  | off
  | s1
  | s4
  | s16
  | s64
  deriving DecidableEq, Repr

/-! ### Identities and groups -/

/-- A far identity or a link identity: chassis, position, port, half. -/
structure FarId where
  chassis : Byte
  position : BitVec 2
  port : BitVec 4
  half : Half
  deriving DecidableEq, Repr

/-- A lane identity without span: what an echo names (R24, R32). -/
structure LaneId where
  far : FarId
  lane : BitVec 3
  deriving DecidableEq, Repr

/-- A received identity: a lane identity with the sender's span (R32). -/
structure HeardId where
  id : LaneId
  span : Nat
  deriving DecidableEq, Repr

/-- A lane group, by width and relative start (R78). -/
structure Group where
  width : Nat
  start : Nat
  deriving DecidableEq, Repr

/-- A running timer: the uptime of its start and its length in ms. A stopped timer is `none`. -/
structure Timer where
  startedAt : Uptime
  length : Nat
  deriving DecidableEq, Repr

/-! ### The Plan Store -/

/-- One link expectation (R42). An absent expected field is ANY; an empty preset list is AUTO. -/
structure Expectation where
  chassis : Option Byte
  position : Option (BitVec 2)
  port : Option (BitVec 4)
  half : Option Half
  minWidth : Nat
  reversal : Bool
  autoTrain : Bool
  presets : List Nat
  minGrade : Nat
  deriving DecidableEq, Repr

/-- A plan entry (R42). -/
structure PlanEntry where
  form : Form
  a : Expectation
  b : Option Expectation
  deriving DecidableEq, Repr

/-- One preset: amplitude in percent and emphasis in dB (R45). -/
structure Preset where
  amplitude : Nat
  emphasis : Nat
  deriving DecidableEq, Repr

/-- A cable descriptor as stored (R6). -/
structure Descriptor where
  form : Form
  lanes : Nat
  media : Media
  length : Nat
  adjusted : Bool
  deriving DecidableEq, Repr

/-! ### Lanes -/

/-- The heard fields (R30), present exactly while an identity is held. -/
structure Heard where
  tag : Byte
  phase : Phase
  grade : Nat
  usable : LaneSet
  proposal : Option Group
  accept : Bool
  deriving DecidableEq, Repr

/-- A held identity with what R30 keeps exactly while it is held. -/
structure Held where
  id : HeardId
  firstHeard : Uptime
  heard : Heard
  stamp : BitVec 10
  deriving DecidableEq, Repr

/-- The receive part of a lane record (R30). -/
structure RxRecord where
  status : LaneStatus := .quiet
  held : Option Held := none
  candidate : Option HeardId := none
  repeats : Nat := 0
  polInverted : Bool := false
  good : Nat := 0
  bad : Nat := 0
  consecBad : Nat := 0
  lastFailure : Option MarkFailure := none
  deriving DecidableEq, Repr

/-- One lane: its front end (signal, polarity correction, the mark being sent or none while the
transmitter is silent), the receive part (R30) and the link part (R39) of its record. The usable field
of R39 is a function of the rest (`PortUnit.laneUsable`). -/
structure LaneUnit where
  signal : Bool := false
  correction : Bool := false
  txMark : Option MarkBits := none
  rx : RxRecord := {}
  preset : Nat := 0
  best : Option Nat := none
  delay : Nat := 0
  active : Bool := false
  deriving DecidableEq, Repr

/-! ### Links -/

/-- The agreement fields (R84), with the regroup timer of R92. -/
structure Agreement where
  role : Option Role := none
  proposal : Option Group := none
  accept : Bool := false
  active : Option Group := none
  shed : LaneSet := 0
  regroupStart : Option Uptime := none
  regroupTimer : Option Timer := none
  deriving DecidableEq, Repr

/-- A stamp collection (R95): the lanes it waits for and the stamps delivered. -/
structure Collection where
  lanes : LaneSet := 0
  stamps : Vector (Option Nat) 8 := Vector.replicate 8 none
  deriving DecidableEq, Repr

/-- The exclusion marks (R82); a skew-rejected mark is kept by its rejection origin (R96). -/
structure Marks where
  weak : LaneSet := 0
  rejDeskew : LaneSet := 0
  rejRecheck : LaneSet := 0
  lockLost : LaneSet := 0
  deriving DecidableEq, Repr

/-- The alignment fields (R96); the recheck set is the lane set of `recheck`. -/
structure Alignment where
  skew : Vector (Option Nat) 8 := Vector.replicate 8 none
  windowLane : Option Nat := none
  spread : Option Nat := none
  recheckState : RecheckState := .idle
  recheck : Collection := {}
  recheckTimer : Option Timer := none
  lastOutcome : RecheckOutcome := .none
  lastTime : Option Uptime := none
  deriving DecidableEq, Repr

/-- A retained context (R122): the presets are by relative lane, `none` outside the group. -/
structure Context where
  far : FarId
  group : Group
  presets : Vector (Option Nat) 8
  deriving DecidableEq, Repr

/-- The dwell in progress (R106). -/
inductive Dwell where
  | retained
  | list (k : Nat)
  deriving DecidableEq, Repr

/-- The training fields (R106), with the 2 ms dwell timer and the DESKEW collection (R115). -/
structure Training where
  stage : Option Stage := none
  timer : Option Timer := none
  attemptLanes : LaneSet := 0
  dwell : Option Dwell := none
  dwellTimer : Option Timer := none
  presets : List Nat := []
  context : Option Context := none
  grades : Vector (Vector (Option Nat) 4) 8 := Vector.replicate 8 (Vector.replicate 4 none)
  deskew : Collection := {}
  lastFailure : Option Reason := none
  deriving DecidableEq, Repr

/-- The supervision fields (R125). `judging` is yes once the interval in progress at the entry to UP
has ended (R126), and `probeChange` while a far-end change on a probe lane waits for the next probe (R77);
both are the model's own. -/
structure Supervision where
  score : Nat := 0
  level : Option HealthLevel := none
  isoCause : Option Reason := none
  probeSet : LaneSet := 0
  probeTimer : Option Timer := none
  probeDirty : Bool := false
  probeChange : Bool := false
  probesMade : Nat := 0
  probesClean : Nat := 0
  violations : Nat := 0
  lockLosses : Nat := 0
  upEntries : Nat := 0
  trainings : Nat := 0
  judging : Bool := false
  deriving DecidableEq, Repr

/-- A link record (R62). -/
structure Link where
  state : LinkState := .checking
  reason : Option Reason := none
  far : Option FarId := none
  map : Option MapClass := none
  polarity : LaneSet := 0
  expWidth : Option Nat := none
  grant : Bool := false
  attempts : Nat := 0
  checkEntry : Option Uptime := none
  quiet : Option Timer := none
  agree : Agreement := {}
  marks : Marks := {}
  align : Alignment := {}
  training : Training := {}
  sup : Supervision := {}
  deriving DecidableEq, Repr

/-! ### Notice Unit records -/

/-- A snapshot record (R152). -/
structure SnapRecord where
  time : Uptime
  left : Option LinkState
  reason : Reason
  width : Nat
  start : Option Nat
  score : Nat
  usable : LaneSet
  far : Option FarId
  noticeLoss : Bool
  deriving DecidableEq, Repr

/-- A snapshot (R151): the record is present exactly while the valid flag is yes. -/
structure Snapshot where
  mode : SnapMode := .off
  record : Option SnapRecord := none
  deriving DecidableEq, Repr

/-- What a history entry records (R154): the subject with its from and to values. -/
inductive Change where
  | port (left entered : PortState)
  | link (h : Half) (left entered : Option LinkState)
  deriving DecidableEq, Repr

/-- A history entry (R154). -/
structure HistEntry where
  time : Uptime
  change : Change
  reason : Reason
  deriving DecidableEq, Repr

/-- The kind of a notice with its detail fields (R144). -/
inductive Detail where
  | cableIn
  | cableOut (left : PortState)
  | cableFault (reason : Reason) (attempts : Nat)
  | verdict (outcome : LinkState) (reason : Option Reason) (far : Option FarId)
      (map : Option MapClass) (inverted : Nat) (width : Option Nat)
  | linkUp (group : Group) (map : Option MapClass)
  | linkDown (reason : Reason) (left : LinkState) (width : Nat)
  | widthChange (group : Group) (shed : LaneSet)
  | health (left entered : HealthLevel) (score : Nat)
  | isolated (cause : Reason) (score : Nat)
  | recovered (far : Option FarId)
  | trainRetry (cause : Reason) (attempts : Nat) (stage : Option Stage)
  | farEndChange (held : Option FarId) (new : LaneId)
  | modeChange (left entered : Mode)
  deriving DecidableEq, Repr

/-- A notice (R143). -/
structure Notice where
  port : Option Port
  half : Option Half
  time : Uptime
  detail : Detail
  deriving DecidableEq, Repr

/-- A notice filter (R145): the kind set and port set by bit. -/
structure Filter where
  enabled : Bool
  kinds : BitVec 16
  ports : BitVec 16
  deriving DecidableEq, Repr

/-! ### Ports -/

/-- What the part keeps for one link position, whatever link stands there: the link record if there is
one (R62), the retained context (R122), the isolation residue (R140) and the snapshot (R151). -/
structure Position where
  link : Option Link := none
  context : Option Context := none
  residue : Option Nat := none
  snap : Snapshot := {}
  deriving DecidableEq, Repr

/-- One port: its PRES_N line, the port record (R1), the start of its sampling grid (R2, R3), the survey
timers (R57), the stamp counter (R21), the plan entry (R41), the lanes, the two link positions and the
history (R154). -/
structure PortUnit where
  presN : Level := .high
  state : PortState := .empty
  enabled : Bool := true
  accepted : Bool := false
  debounceCount : Nat := 0
  gridStart : Uptime := 0
  readAttempt : Nat := 0
  desc : Option Descriptor := none
  fault : Option Reason := none
  indSource : IndSource := .attention
  indInvert : Bool := false
  indDirect : IndDirect := .none
  windowTimer : Option Timer := none
  settleTimer : Option Timer := none
  stampCounter : BitVec 10 := 0
  plan : Option PlanEntry := none
  lanes : Vector LaneUnit 8 := Vector.replicate 8 {}
  posA : Position := {}
  posB : Position := {}
  history : List HistEntry := []
  wrapped : Bool := false
  deriving DecidableEq, Repr

/-! ### Mode Control, the Management Line Interface and the whole part -/

/-- The timing settings (R159), with their values after full reset. -/
structure Timing where
  debounce : Debounce := .ms8
  window : Nat := 500
  timeout : Nat := 200
  maxAttempts : Nat := 3
  warning : Nat := 96
  recheck : RecheckInterval := .s4
  deriving DecidableEq, Repr

/-- The receive frame assembler (R164): in BODY and CHECK it holds the length byte, the body bytes taken
so far and, in CHECK, the first check byte once it has arrived. -/
inductive Assembler where
  | hunt
  | length
  | body (len : Byte) (taken : List Byte)
  | check (len : Byte) (body : List Byte) (first : Option Byte)
  deriving DecidableEq, Repr

/-- The executing frame (R166): the body of the request and the body of its reply. -/
structure ExecFrame where
  request : List Byte
  reply : List Byte
  deriving DecidableEq, Repr

/-- The preset table after full reset (R45). -/
def defaultPresets : Vector Preset 8 :=
  #v[⟨100, 0⟩, ⟨100, 1⟩, ⟨100, 2⟩, ⟨100, 3⟩, ⟨125, 3⟩, ⟨125, 5⟩, ⟨150, 5⟩, ⟨150, 7⟩]

/-- The state of the part. `pending` is the queue of waiting commands, `replies` the count of replies
formed, which keys the free bytes of `Config.absentByte`, and `eventLoss`, while an event is in progress,
whether notices had been lost before it (R152, log entry 27); all three are the model's own. -/
structure State where
  pending : List Instr
  replies : Nat
  eventLoss : Option Bool
  mode : Mode
  timing : Timing
  uptime : Uptime
  chassis : Byte
  position : BitVec 2
  planTag : Byte
  presets : Vector Preset 8
  ports : Vector PortUnit 16
  locate : Option Port
  blinkOn : Bool
  filter1 : Filter
  filter2 : Filter
  queue : List Notice
  overrun : Nat
  lineFast : Bool
  assembler : Assembler
  executing : Option ExecFrame
  waiting : Option (List Byte)
  framingErrors : Nat
  checkErrors : Nat
  dropped : Nat
  focus : Option Port
  deriving DecidableEq, Repr

/-- The part after full reset (R162), with POS[1:0] and MSPD low and no cable seated. -/
def State.reset : State where
  pending := []
  replies := 0
  eventLoss := none
  mode := .setup
  timing := {}
  uptime := 0
  chassis := 0
  position := 0
  planTag := 0
  presets := defaultPresets
  ports := Vector.replicate 16 {}
  locate := none
  blinkOn := false
  filter1 := ⟨true, 0x1FFF, 0xFFFF⟩
  filter2 := ⟨false, 0, 0⟩
  queue := []
  overrun := 0
  lineFast := false
  assembler := .hunt
  executing := none
  waiting := none
  framingErrors := 0
  checkErrors := 0
  dropped := 0
  focus := none

/-- The faults of the part. The manual names no event or request that stops the part: every command has
an effect or is answered with a result code, so the type is empty. -/
inductive Fault where
  deriving DecidableEq, Repr

/-- The refusals of the model. -/
inductive Refusal where
  /-- Raised by `exec` for a command whose meaning is not written; safe, and raised by no arm now. -/
  | notModelled (mnemonic : String)
  deriving DecidableEq, Repr

end Sys2Proof.Machine
end

