-- ==== Sys2Proof/Machine/Frames.lean ====
section
/-! DEFINITION. The management frame (R164, R174, Chapter 12): its check, and the request bodies of the
message catalogue, formed and read. -/

namespace Sys2Proof.Machine

open Sys2Proof

/-! ### The frame check (R174 rule 8) -/

/-- One step of the frame check register: polynomial x^16 + x^12 + x^5 + 1. -/
def crc16Step (r : BitVec 16) (b : Bool) : BitVec 16 := if r.msb != b then (r <<< 1) ^^^ 0x1021#16 else r <<< 1

/-- One byte into the check register, most significant bit first. -/
def crc16Byte (r : BitVec 16) (b : Byte) : BitVec 16 :=
  ((List.range 8).map fun i => b.getMsbD i).foldl crc16Step r

/-- R174 rule 8: the check over the length byte and the body. -/
def crc16 (bytes : List Byte) : BitVec 16 := bytes.foldl crc16Byte 0xFFFF#16

/-- The start byte (Chapter 12, Management Frame). -/
def startByte : Byte := 0xC5

/-- A whole frame with this body. -/
def frameOf (body : List Byte) : List Byte :=
  let len := BitVec.ofNat 8 body.length
  let c := crc16 (len :: body)
  startByte :: len :: body ++ [c.extractLsb' 8 8, c.extractLsb' 0 8]

/-- The frame whose reply is on MTX, none while no request executes (R166). -/
def State.mtx (s : State) : Option (List Byte) := s.executing.map fun x => frameOf x.reply

/-! ### The catalogue (Chapter 12, Management Frame) -/

/-- Whether a code is a message of the catalogue. -/
def isMessage (code : Byte) : Bool :=
  decide (1 ≤ code.toNat ∧ code.toNat ≤ 29) && code != 9 && code != 18

/-- The high byte of a two-byte number. -/
def hiByte (v : BitVec 16) : Byte := v.extractLsb' 8 8

/-- The low byte of a two-byte number. -/
def loByte (v : BitVec 16) : Byte := v.extractLsb' 0 8

/-- The 13 bytes of an expectation. -/
def expectationBytes (e : RawExpectation) : List Byte :=
  [e.chassis, e.position, e.port, e.half, e.minWidth, e.reversal, e.autoTrain, e.presetCount, e.preset1,
   e.preset2, e.preset3, e.preset4, e.minGrade]

/-- The bytes of an optional expectation B. -/
def optExpectationBytes (b : Option RawExpectation) : List Byte :=
  match b with
  | some b => expectationBytes b
  | none => []

/-- The eight bytes of TIMING values. -/
def timingBytes (v : RawTiming) : List Byte :=
  [v.debounce, hiByte v.window, loByte v.window, hiByte v.timeout, loByte v.timeout, v.attempts, v.warning, v.recheck]

/-- The body of the request a message row stands for: code, tag, parameters. Events have none. -/
def requestBody (i : Instr) : List Byte :=
  match i with
  | .unknownRequest code rest => code :: rest
  | .ident tag => [1, tag]
  | .status tag clear => [2, tag, clear]
  | .modeSetup tag => [3, tag, 0]
  | .modeActive tag => [3, tag, 1]
  | .node tag chassis => [4, tag, chassis]
  | .timing tag v => 5 :: tag :: timingBytes v
  | .timingQuery tag => [5, tag]
  | .preset tag number amplitude emphasis => [6, tag, number, amplitude, emphasis]
  | .presetQuery tag => [6, tag]
  | .planTag tag value => [7, tag, value]
  | .planSet tag port form a b => 8 :: tag :: port :: form :: (expectationBytes a ++ optExpectationBytes b)
  | .planGet tag port => [10, tag, port]
  | .planClear tag port => [11, tag, port]
  | .portOn tag port => [12, tag, port]
  | .portOff tag port => [13, tag, port]
  | .resurvey tag port => [14, tag, port]
  | .train tag port half => [15, tag, port, half]
  | .isolate tag port half => [16, tag, port, half]
  | .recover tag port half => [17, tag, port, half]
  | .portGet tag port sect => [19, tag, port, sect]
  | .laneGet tag port lane => [20, tag, port, lane]
  | .historyGet tag port => [21, tag, port]
  | .snapArm tag port half mode => [22, tag, port, half, mode]
  | .snapGet tag port half => [23, tag, port, half]
  | .indicate tag port source invert direct => [24, tag, port, source, invert, direct]
  | .locate tag port => [25, tag, port]
  | .filter tag number enable kinds ports =>
    [26, tag, number, enable, hiByte kinds, loByte kinds, hiByte ports, loByte ports]
  | .fetch tag count => [27, tag, count]
  | .focusSet tag target => [28, tag, 0, target]
  | .focusClear tag => [28, tag, 1]
  | .focusRead tag => [28, tag, 2]
  | .restart tag => [29, tag]
  | .fullReset .. => []
  | .presenceSample _ => []
  | .presNChange .. => []
  | .noAnswer _ => []
  | .descriptorAnswered .. => []
  | .markTransmit .. => []
  | .signalGained .. => []
  | .signalLost .. => []
  | .markArrived .. => []
  | .syncMissing .. => []
  | .violations .. => []
  | .lockLost .. => []
  | .uptimeTick => []
  | .surveyWindowExpiry _ => []
  | .settleExpiry _ => []
  | .checkQuietExpiry .. => []
  | .checkBoundExpiry .. => []
  | .retainedDwellEnd .. => []
  | .listDwellEnd .. => []
  | .trainingTimerExpiry .. => []
  | .regroupTimerExpiry .. => []
  | .recheckTimerExpiry .. => []
  | .probeTimerExpiry .. => []
  | .locateBlinkToggle => []
  | .frameGapTimeout => []
  | .framingError _ => []
  | .checkError => []
  | .frameComplete _ => []
  | .replySent => []
  | .byteReceived _ => []
  | .acceptanceAtOnce _ => []

/-! ### Reading a request body (R168 tests 1 and 2) -/

/-- What the tests of the code and the length make of a request body. -/
inductive Reading where
  /-- The request of a message row, or of UNKNOWN_REQUEST. -/
  | request (i : Instr)
  /-- The length is none the message defines (R168 test 2). -/
  | badLength
  /-- The parameter that selects the message's form is out of range (MODE, FOCUS). -/
  | badSelector
  deriving DecidableEq, Repr

/-- A two-byte number from its bytes. -/
def word (hi lo : Byte) : BitVec 16 := hi ++ lo

/-- A message without parameters. -/
def read0 (params : List Byte) (i : Instr) : Reading :=
  match params with
  | [] => .request i
  | _ => .badLength

/-- A message with one parameter. -/
def read1 (params : List Byte) (f : Byte → Instr) : Reading :=
  match params with
  | [a] => .request (f a)
  | _ => .badLength

/-- A message with two parameters. -/
def read2 (params : List Byte) (f : Byte → Byte → Instr) : Reading :=
  match params with
  | [a, b] => .request (f a b)
  | _ => .badLength

/-- MODE: its value selects the row. -/
def readMode (tag : Byte) (params : List Byte) : Reading :=
  match params with
  | [v] =>
    match v.toNat with
    | 0 => .request (.modeSetup tag)
    | 1 => .request (.modeActive tag)
    | _ => .badSelector
  | _ => .badLength

/-- TIMING, with or without values. -/
def readTiming (tag : Byte) (params : List Byte) : Reading :=
  match params with
  | [] => .request (.timingQuery tag)
  | [d, w1, w0, t1, t0, a, w, r] => .request (.timing tag ⟨d, word w1 w0, word t1 t0, a, w, r⟩)
  | _ => .badLength

/-- PRESET, with or without values. -/
def readPreset (tag : Byte) (params : List Byte) : Reading :=
  match params with
  | [] => .request (.presetQuery tag)
  | [n, a, e] => .request (.preset tag n a e)
  | _ => .badLength

/-- The 13 bytes of an expectation, with the bytes after them. -/
def readExpectation (params : List Byte) : Option (RawExpectation × List Byte) :=
  match params with
  | c :: po :: pt :: h :: w :: rv :: au :: n :: p1 :: p2 :: p3 :: p4 :: g :: rest =>
    some (⟨c, po, pt, h, w, rv, au, n, p1, p2, p3, p4, g⟩, rest)
  | _ => none

/-- PLAN_SET, with one expectation or two. -/
def readPlanSet (tag : Byte) (params : List Byte) : Reading :=
  match params with
  | port :: form :: rest =>
    match readExpectation rest with
    | some (a, []) => .request (.planSet tag port form a none)
    | some (a, more) =>
      match readExpectation more with
      | some (b, []) => .request (.planSet tag port form a (some b))
      | _ => .badLength
    | none => .badLength
  | _ => .badLength

/-- FOCUS: its action selects the row and the length. -/
def readFocus (tag : Byte) (params : List Byte) : Reading :=
  match params with
  | [a] =>
    match a.toNat with
    | 0 => .badLength
    | 1 => .request (.focusClear tag)
    | 2 => .request (.focusRead tag)
    | _ => .badSelector
  | [a, t] =>
    match a.toNat with
    | 0 => .request (.focusSet tag t)
    | 1 => .badLength
    | 2 => .badLength
    | _ => .badSelector
  | _ => .badLength

/-- SNAP_ARM. -/
def readSnapArm (tag : Byte) (params : List Byte) : Reading :=
  match params with
  | [p, h, m] => .request (.snapArm tag p h m)
  | _ => .badLength

/-- INDICATE. -/
def readIndicate (tag : Byte) (params : List Byte) : Reading :=
  match params with
  | [p, s, v, d] => .request (.indicate tag p s v d)
  | _ => .badLength

/-- FILTER. -/
def readFilter (tag : Byte) (params : List Byte) : Reading :=
  match params with
  | [n, e, k1, k0, p1, p0] => .request (.filter tag n e (word k1 k0) (word p1 p0))
  | _ => .badLength

/-- A message body with a tag read by its code; a code that is no message is an UNKNOWN_REQUEST. -/
def readTagged (code tag : Byte) (params : List Byte) : Reading :=
  match code.toNat with
  | 1 => read0 params (.ident tag)
  | 2 => read1 params (.status tag)
  | 3 => readMode tag params
  | 4 => read1 params (.node tag)
  | 5 => readTiming tag params
  | 6 => readPreset tag params
  | 7 => read1 params (.planTag tag)
  | 8 => readPlanSet tag params
  | 10 => read1 params (.planGet tag)
  | 11 => read1 params (.planClear tag)
  | 12 => read1 params (.portOn tag)
  | 13 => read1 params (.portOff tag)
  | 14 => read1 params (.resurvey tag)
  | 15 => read2 params (.train tag)
  | 16 => read2 params (.isolate tag)
  | 17 => read2 params (.recover tag)
  | 19 => read2 params (.portGet tag)
  | 20 => read2 params (.laneGet tag)
  | 21 => read1 params (.historyGet tag)
  | 22 => readSnapArm tag params
  | 23 => read2 params (.snapGet tag)
  | 24 => readIndicate tag params
  | 25 => read1 params (.locate tag)
  | 26 => readFilter tag params
  | 27 => read1 params (.fetch tag)
  | 28 => readFocus tag params
  | 29 => read0 params (.restart tag)
  | _ => .request (.unknownRequest code (tag :: params))

/-- R167, R168: a request body read; a body of one byte holds a code and no tag. -/
def readBody (body : List Byte) : Reading :=
  match body with
  | [] => .badLength
  | [code] => if isMessage code then .badLength else .request (.unknownRequest code [])
  | code :: tag :: params => readTagged code tag params

end Sys2Proof.Machine
end

