-- ==== Sys2Proof/Machine/Ops.lean ====
section
/-! DEFINITION. The named operations over the state: access to ports, lanes and link positions, lane
sets, timers, and the Notice Unit's three records (notices, histories, snapshots). -/

namespace Sys2Proof.Machine

open Sys2Proof

/-! ### Lane sets -/

/-- The bit of one lane in a lane set. -/
def laneBit (r : Nat) (b : Bool) : LaneSet := if b then (1#8) <<< r else 0#8

/-- The set of the lanes 0..7 for which `f` holds. -/
def laneSet (f : Nat → Bool) : LaneSet :=
  laneBit 0 (f 0) ||| laneBit 1 (f 1) ||| laneBit 2 (f 2) ||| laneBit 3 (f 3) |||
  laneBit 4 (f 4) ||| laneBit 5 (f 5) ||| laneBit 6 (f 6) ||| laneBit 7 (f 7)

/-- Whether lane `r` is a member. -/
def LaneSet.has (S : LaneSet) (r : Nat) : Bool := BitVec.getLsbD S r

/-- The members of a lane set in ascending order. -/
def LaneSet.members (S : LaneSet) : List Nat := laneNumbers.filter fun r => LaneSet.has S r

/-- The number of members. -/
def LaneSet.count (S : LaneSet) : Nat := (LaneSet.members S).length

/-- Whether every member of `S` is a member of `T`. -/
def LaneSet.within (S T : LaneSet) : Bool := (S &&& ~~~T) == 0#8

/-- The lowest member. -/
def LaneSet.lowest (S : LaneSet) : Option Nat := (LaneSet.members S).head?

/-! ### Ports, lanes and positions -/

/-- The port `p`. -/
def State.port (s : State) (p : Port) : PortUnit := s.ports[p]

/-- The state with port `p` replaced. -/
def State.setPort (s : State) (p : Port) (q : PortUnit) : State := { s with ports := s.ports.set p q }

/-- The state with port `p` changed by `f`. -/
def State.modPort (s : State) (p : Port) (f : PortUnit → PortUnit) : State := s.setPort p (f (s.port p))

/-- The link position of a half. -/
def PortUnit.pos (q : PortUnit) (h : Half) : Position :=
  match h with
  | .A => q.posA
  | .B => q.posB

/-- The port with the position of a half replaced. -/
def PortUnit.setPos (q : PortUnit) (h : Half) (x : Position) : PortUnit :=
  match h with
  | .A => { q with posA := x }
  | .B => { q with posB := x }

/-- The position (`p`, `h`) of the part. -/
def State.pos (s : State) (p : Port) (h : Half) : Position := (s.port p).pos h

/-- The state with the position (`p`, `h`) changed by `f`. -/
def State.modPos (s : State) (p : Port) (h : Half) (f : Position → Position) : State :=
  s.modPort p fun q => q.setPos h (f (q.pos h))

/-- The link at a position, if there is one. -/
def State.link (s : State) (p : Port) (h : Half) : Option Link := (s.pos p h).link

/-- The state with the link at a position replaced. -/
def State.setLink (s : State) (p : Port) (h : Half) (l : Option Link) : State :=
  s.modPos p h fun x => { x with link := l }

/-- A lane of a port. -/
def PortUnit.lane (q : PortUnit) (i : Lane) : LaneUnit := q.lanes[i]

/-- The port with one lane changed by `f`. -/
def PortUnit.modLane (q : PortUnit) (i : Lane) (f : LaneUnit → LaneUnit) : PortUnit :=
  { q with lanes := q.lanes.set i (f (q.lane i)) }

/-- The port with every lane changed. -/
def PortUnit.mapLanes (q : PortUnit) (f : Lane → LaneUnit → LaneUnit) : PortUnit :=
  { q with lanes := #v[f 0 (q.lane 0), f 1 (q.lane 1), f 2 (q.lane 2), f 3 (q.lane 3),
                       f 4 (q.lane 4), f 5 (q.lane 5), f 6 (q.lane 6), f 7 (q.lane 7)] }

/-- The state with one lane changed. -/
def State.modLane (s : State) (p : Port) (i : Lane) (f : LaneUnit → LaneUnit) : State :=
  s.modPort p fun q => q.modLane i f

/-- `f` done on every port in ascending order. -/
def State.forPorts (s : State) (f : State → Port → State) : State := allPorts.foldl f s

/-- Every link position, in ascending port order, half A before half B. -/
def allPositions : List (Port × Half) := allPorts.flatMap fun p => [(p, Half.A), (p, Half.B)]

/-- `f` done on every link position, in ascending port order, half A before half B. -/
def State.forPositions (s : State) (f : State → Port → Half → State) : State :=
  allPositions.foldl (fun t x => f t x.1 x.2) s

/-! ### Geometry of a port (R1, R22, R63) -/

/-- Whether the port's descriptor has form SPLIT. -/
def PortUnit.isSplit (q : PortUnit) : Bool :=
  match q.desc with
  | some d => d.form == .split
  | none => false

/-- The half a physical lane belongs to (R22). -/
def PortUnit.laneHalf (q : PortUnit) (i : Lane) : Half := if q.isSplit && 4 ≤ i.val then .B else .A

/-- The span of a half (R1): the lane count of a FULL port, 4 for each half of a SPLIT port. -/
def PortUnit.span (q : PortUnit) (h : Half) : Nat :=
  match q.desc with
  | none => 0
  | some d =>
    match d.form, h with
    | .full, .A => d.lanes
    | .full, .B => 0
    | .split, _ => 4

/-- Whether a physical lane lies within a span of the port (R20). -/
def PortUnit.inSpan (q : PortUnit) (i : Lane) : Bool :=
  match q.desc with
  | none => false
  | some d =>
    match d.form with
    | .full => i.val < d.lanes
    | .split => true

/-- The lowest physical lane of a half. -/
def halfBase (h : Half) : Nat :=
  match h with
  | .A => 0
  | .B => 4

/-- The relative lane of a physical lane of a half. -/
def relLane (h : Half) (i : Lane) : Nat := i.val - halfBase h

/-- The physical lane of a relative lane. -/
def physLane (h : Half) (r : Nat) : Lane := Fin.ofNat 8 (halfBase h + r)

/-- The lane at a relative lane of a half. -/
def PortUnit.rel (q : PortUnit) (h : Half) (r : Nat) : LaneUnit := q.lane (physLane h r)

/-- The set of the relative lanes of a half's span. -/
def PortUnit.spanSet (q : PortUnit) (h : Half) : LaneSet := laneSet fun r => decide (r < q.span h)

/-- Whether a physical lane is one of a half's span. -/
def PortUnit.ofHalf (q : PortUnit) (h : Half) (i : Lane) : Bool := q.inSpan i && q.laneHalf i == h

/-- Whether the lane may send and is received (R20, R26): ACTIVE mode, port in SURVEY or ASSIGNED, lane
within a span. -/
def State.processed (s : State) (p : Port) (i : Lane) : Bool :=
  s.mode == .active && ((s.port p).state == .survey || (s.port p).state == .assigned) && (s.port p).inSpan i

/-! ### Timers -/

/-- A timer started now with the given length. -/
def State.timer (s : State) (ms : Nat) : Option Timer := some ⟨s.uptime, ms⟩

/-! ### Notices (R143 to R150) -/

/-- The code of a notice's kind (Chapter 12). -/
def Detail.kind (d : Detail) : Nat :=
  match d with
  | .cableIn => 0
  | .cableOut .. => 1
  | .cableFault .. => 2
  | .verdict .. => 3
  | .linkUp .. => 4
  | .linkDown .. => 5
  | .widthChange .. => 6
  | .health .. => 7
  | .isolated .. => 8
  | .recovered .. => 9
  | .trainRetry .. => 10
  | .farEndChange .. => 11
  | .modeChange .. => 12

/-- R145: whether a filter accepts a notice. -/
def Filter.accepts (f : Filter) (n : Notice) : Bool :=
  f.enabled && f.kinds.getLsbD n.detail.kind &&
    (match n.port with
     | some p => f.ports.getLsbD p.val
     | none => true)

/-- R147: a notice offered to the queue is appended, or discarded and counted when the queue is full. -/
def State.enqueue (s : State) (n : Notice) : State :=
  if s.queue.length < 64 then { s with queue := s.queue ++ [n] }
  else { s with overrun := satAdd 255 s.overrun 1 }

/-- R143, R145: a notice posted now is offered to the queue when a filter accepts it, else refused. -/
def State.post (s : State) (port : Option Port) (half : Option Half) (d : Detail) : State :=
  let n : Notice := ⟨port, half, s.uptime, d⟩
  if s.filter1.accepts n || s.filter2.accepts n then s.enqueue n else s

/-- A notice that concerns a port. -/
def State.postPort (s : State) (p : Port) (d : Detail) : State := s.post (some p) none d

/-- A notice that concerns a link. -/
def State.postLink (s : State) (p : Port) (h : Half) (d : Detail) : State := s.post (some p) (some h) d

/-! ### Port history (R154) -/

/-- R154: an append to a history; the ninth discards the oldest and sets the wrapped flag. -/
def PortUnit.append (q : PortUnit) (e : HistEntry) : PortUnit :=
  if q.history.length < 8 then { q with history := q.history ++ [e] }
  else { q with history := q.history.drop 1 ++ [e], wrapped := true }

/-- A history entry recorded now for port `p`. -/
def State.log (s : State) (p : Port) (c : Change) (r : Reason) : State :=
  s.modPort p fun q => q.append ⟨s.uptime, c, r⟩

/-- R14: a change of a port's state, with its history entry. -/
def State.portTo (s : State) (p : Port) (entered : PortState) (cause : Reason) : State :=
  (s.modPort p fun q => { q with state := entered }).log p (.port (s.port p).state entered) cause

/-! ### Snapshots (R151) -/

/-- R152: whether notices had been lost before the event in progress, or by now where none is. -/
def State.noticeLoss (s : State) : Bool := s.eventLoss.getD (decide (0 < s.overrun))

/-- R151: what `f` does is one event: every capture in it reads the notice loss as it stood before the notices
of the event. An event within another is part of it. -/
def State.inEvent (s : State) (f : State → State) : State :=
  { f { s with eventLoss := some s.noticeLoss } with eventLoss := s.eventLoss }

/-- R151: a capture attempt acts by the snapshot's mode. -/
def Snapshot.attempt (x : Snapshot) (r : SnapRecord) : Snapshot :=
  match x.mode with
  | .off => x
  | .once => { mode := .off, record := some r }
  | .every => { mode := .every, record := some r }

/-- A capture attempt at a position. -/
def State.capture (s : State) (p : Port) (h : Half) (r : SnapRecord) : State :=
  s.modPos p h fun x => { x with snap := x.snap.attempt r }

end Sys2Proof.Machine
end

