-- ==== Sys2Proof/Machine/Align.lean ====
section
/-! DEFINITION. The alignment arithmetic: stamp collections, wrapped differences, the window choice and
the deskew delays (Chapter 6). -/

namespace Sys2Proof.Machine

open Sys2Proof

/-- An optional value per relative lane, made by a function. -/
def laneVector {α : Type} (f : Nat → α) : Vector α 8 := #v[f 0, f 1, f 2, f 3, f 4, f 5, f 6, f 7]

/-- The entry of relative lane `r`. -/
def laneAt {α : Type} (v : Vector α 8) (r : Nat) : α := v[Fin.ofNat 8 r]

/-! ### Stamp collections (R95) -/

/-- A collection begun over a set of lanes. -/
def Collection.begin (L : LaneSet) : Collection := { lanes := L }

/-- R95: the first stamp report of a lane of the set is taken, later ones are not. -/
def Collection.take (c : Collection) (r stamp : Nat) : Collection :=
  if LaneSet.has c.lanes r && (laneAt c.stamps r).isNone then
    { c with stamps := laneVector fun i => if i = r then some stamp else laneAt c.stamps i }
  else c

/-- R95: the lanes outside `L` leave the collection and their stamps are discarded. -/
def Collection.restrict (c : Collection) (L : LaneSet) : Collection :=
  { lanes := c.lanes &&& L
    stamps := laneVector fun i => if LaneSet.has (c.lanes &&& L) i then laneAt c.stamps i else none }

/-- R95: every remaining lane has delivered its stamp. -/
def Collection.complete (c : Collection) : Bool :=
  (LaneSet.members c.lanes).all fun r => (laneAt c.stamps r).isSome

/-- The remaining lanes with their stamps, in ascending order. -/
def Collection.stamped (c : Collection) : List (Nat × Nat) :=
  (LaneSet.members c.lanes).filterMap fun r => (laneAt c.stamps r).map fun a => (r, a)

/-! ### The computation (R97 to R99) -/

/-- R97: the wrapped difference of a stamp from the pivot's, in -512..511. -/
def wrapDiff (a pivot : Nat) : Int := ((a : Int) - (pivot : Int) + 512) % 1024 - 512

/-- R97: the lanes with their wrapped differences from the lowest lane's stamp. -/
def wrapDiffs (L : List (Nat × Nat)) : List (Nat × Int) :=
  match L with
  | [] => []
  | (r, a) :: rest => ((r, a) :: rest).map fun x => (x.1, wrapDiff x.2 a)

/-- Whether `d` lies in the window that starts at `base`. -/
def inWindow (base d : Int) : Bool := decide (base ≤ d) && decide (d ≤ base + 63)

/-- R98: the count of the window that starts at `base`. -/
def windowCount (ds : List (Nat × Int)) (base : Int) : Nat := (ds.filter fun x => inWindow base x.2).length

/-- R98: the window lane with its `d`: greatest count, then smallest `d`, then lowest lane. -/
def chooseWindow (ds : List (Nat × Int)) : Option (Nat × Int) :=
  ds.foldl (fun best x =>
    match best with
    | none => some x
    | some b =>
      if windowCount ds x.2 > windowCount ds b.2 then some x
      else if windowCount ds x.2 = windowCount ds b.2 ∧ x.2 < b.2 then some x
      else some b) none

/-- The greatest of the differences. -/
def greatest (ds : List (Nat × Int)) : Int := ds.foldl (fun m x => max m x.2) (-512)

/-- The least of the differences. -/
def least (ds : List (Nat × Int)) : Int := ds.foldl (fun m x => min m x.2) 511

/-- The result of a computation: the skew of each retained lane, the rejected set, the window lane and the
measured spread. -/
structure AlignResult where
  skew : Vector (Option Nat) 8
  rejected : LaneSet
  windowLane : Option Nat
  spread : Option Nat
  deriving DecidableEq, Repr

/-- R97 to R99: the computation over the lanes of a collection. -/
def alignment (L : List (Nat × Nat)) : AlignResult :=
  let ds := wrapDiffs L
  match chooseWindow ds with
  | none => ⟨Vector.replicate 8 none, 0, none, none⟩
  | some (j, base) =>
    { skew := laneVector fun r =>
        match ds.find? fun x => x.1 == r with
        | some x => if inWindow base x.2 then some (x.2 - base).toNat else none
        | none => none
      rejected := laneSet fun r => ds.any fun x => x.1 == r && !inWindow base x.2
      windowLane := some j
      spread := some (greatest ds - least ds).toNat }

/-! ### Delays (R100) -/

/-- The skew of a lane, 0 where there is none. -/
def skewAt (skew : Vector (Option Nat) 8) (r : Nat) : Nat := (laneAt skew r).getD 0

/-- R100: the greatest skew over the active lanes. -/
def greatestSkew (skew : Vector (Option Nat) 8) (active : LaneSet) : Nat :=
  (LaneSet.members active).foldl (fun m r => max m (skewAt skew r)) 0

/-- R100: the delay of a lane: `S - s` for an active lane, 0 for any other. -/
def deskewDelay (skew : Vector (Option Nat) 8) (active : LaneSet) (r : Nat) : Nat :=
  if LaneSet.has active r then greatestSkew skew active - skewAt skew r else 0

end Sys2Proof.Machine
end

