-- ==== Sys2Proof/Machine/Groups.lean ====
section
/-! DEFINITION. Lane groups: candidate groups, the selection rule, seniority and translation between
numberings (Chapter 5). -/

namespace Sys2Proof.Machine

open Sys2Proof

/-- The lanes of a group. -/
def Group.lanes (g : Group) : LaneSet := laneSet fun r => decide (g.start ≤ r) && decide (r < g.start + g.width)

/-- R78: the candidate groups of a span, greatest width first and lowest start first. -/
def candidateGroups (n : Nat) : List Group :=
  ([8, 4, 2, 1].filter fun w => decide (w ≤ n)).flatMap fun w =>
    (laneNumbers.filter fun s => s % w == 0 && decide (s + w ≤ n)).map fun s => ⟨w, s⟩

/-- R79: the greatest allowed width with a candidate group inside the set, at its lowest start; `none` is
width 0. -/
def select (n : Nat) (S : LaneSet) : Option Group :=
  (candidateGroups n).find? fun g => LaneSet.within g.lanes S

/-- The width of a selection, 0 for no group. -/
def groupWidth (g : Option Group) : Nat :=
  match g with
  | some g => g.width
  | none => 0

/-- R81: a relative lane under a map class. -/
def MapClass.lane (m : MapClass) (n r : Nat) : Nat :=
  match m with
  | .straight => r
  | .reversed => n - 1 - r

/-- R81: a set of relative lanes translated lane by lane. -/
def MapClass.set (m : MapClass) (n : Nat) (S : LaneSet) : LaneSet :=
  match m with
  | .straight => S
  | .reversed => laneSet fun r => decide (r < n) && LaneSet.has S (n - 1 - r)

/-- R81: a group translated; a heard group that does not lie in the span has no mirror. -/
def MapClass.group (m : MapClass) (n : Nat) (g : Group) : Option Group :=
  match m with
  | .straight => some g
  | .reversed => if g.start + g.width ≤ n then some ⟨g.width, n - g.start - g.width⟩ else none

/-- The order number of a half: A below B. -/
def halfRank (h : Half) : Nat :=
  match h with
  | .A => 0
  | .B => 1

/-- The fields of an identity in the order in which R80 compares them. -/
def FarId.fields (f : FarId) : List Nat := [f.chassis.toNat, f.position.toNat, f.port.toNat, halfRank f.half]

/-- R80: whether the first field that differs is lower on the left. -/
def lowerFields (a b : List Nat) : Bool :=
  match a, b with
  | x :: xs, y :: ys => if x = y then lowerFields xs ys else decide (x < y)
  | _, _ => false

/-- R80: the role of this end, from its link identity and the far identity. -/
def roleOf (own far : FarId) : Role :=
  if own = far then .self
  else if lowerFields own.fields far.fields then .senior
  else .junior

/-- The link identity of a position of this part (R80). -/
def State.linkId (s : State) (p : Port) (h : Half) : FarId :=
  ⟨s.chassis, s.position, BitVec.ofNat 4 p.val, h⟩

end Sys2Proof.Machine
end

