-- ==== Sys2Proof/Machine/Marks.lean ====
section
/-! DEFINITION. Lane marks: the 96-bit layout, its check, the polarity of a block and the validity tests
(Chapter 2 and Chapter 12, Lane Mark). -/

namespace Sys2Proof.Machine

open Sys2Proof

/-- The contents of a lane mark (R20), less sync, check and reserved bits. -/
structure Mark where
  id : HeardId
  tag : Byte
  phase : Phase
  grade : BitVec 4
  usable : LaneSet
  proposal : Option Group
  accept : Bool
  echo : Option LaneId
  deriving DecidableEq, Repr

/-- The upright sync pattern (R175). -/
def syncUpright : Byte := 0x5C

/-- The inverted sync pattern (R175). -/
def syncInverted : Byte := 0xA3

/-- The bits of a vector, most significant first. -/
def msbBits {n : Nat} (v : BitVec n) : List Bool := (List.range n).map fun i => v.getMsbD i

/-- One step of the mark check register: polynomial x^8 + x^2 + x + 1. -/
def crc8Step (r : Byte) (b : Bool) : Byte :=
  if r.msb != b then (r <<< 1) ^^^ 0x07#8 else r <<< 1

/-- R175: the check of the mark's bits 87..8. -/
def crc8 (v : BitVec 80) : Byte := (msbBits v).foldl crc8Step 0xFF#8

/-! ### Codes -/

/-- The bit of a half: 0 for A and 1 for B. -/
def halfBit (h : Half) : BitVec 1 :=
  match h with
  | .A => 0
  | .B => 1

/-- The half of a bit. -/
def halfOfBit (b : BitVec 1) : Half := if b = 0 then .A else .B

/-- R175: the width code of 1, 2, 4 and 8. -/
def widthCode (w : Nat) : BitVec 2 :=
  match w with
  | 1 => 0
  | 2 => 1
  | 4 => 2
  | _ => 3

/-- R175: the width of a code. -/
def widthOfCode (c : BitVec 2) : Nat := 1 <<< c.toNat

/-- The code of a phase (Chapter 12). -/
def Phase.code (x : Phase) : Nat :=
  match x with
  | .survey => 0
  | .hold => 1
  | .ready => 2
  | .train => 3
  | .link => 4

/-- The phase of a code, none for the codes 5..7. -/
def phaseOfCode (c : BitVec 3) : Option Phase :=
  match c.toNat with
  | 0 => some .survey
  | 1 => some .hold
  | 2 => some .ready
  | 3 => some .train
  | 4 => some .link
  | _ => none

/-- A yes/no bit. -/
def boolBit (b : Bool) : BitVec 1 := if b then 1 else 0

/-! ### Forming a mark -/

/-- The six proposal bits 44..39 (R175). -/
def proposalBits (g : Option Group) : BitVec 6 :=
  match g with
  | none => 0
  | some g => 1#1 ++ widthCode g.width ++ BitVec.ofNat 3 g.start

/-- The nineteen echo bits 37..19 (R175). -/
def echoBits (e : Option LaneId) : BitVec 19 :=
  match e with
  | none => 0
  | some e => 1#1 ++ e.far.chassis ++ e.far.position ++ e.far.port ++ halfBit e.far.half ++ e.lane

/-- The bits 87..8 of a mark (R175); the reserved bits are zero. -/
def Mark.bits (m : Mark) : BitVec 80 :=
  m.id.id.far.chassis ++ m.id.id.far.position ++ m.id.id.far.port ++ halfBit m.id.id.far.half ++ m.id.id.lane ++
    widthCode m.id.span ++ m.tag ++ BitVec.ofNat 3 m.phase.code ++ m.grade ++ m.usable ++
    proposalBits m.proposal ++ boolBit m.accept ++ echoBits m.echo ++ 0#11

/-- R175: the 96 bits of a mark, with upright sync and its check. -/
def Mark.encode (m : Mark) : MarkBits := syncUpright ++ m.bits ++ crc8 m.bits

/-! ### Reading a mark -/

/-- The identity bits of a block from bit `at` of its half down: chassis, position, port, half, lane are
the 18 bits that end at bit `low`. -/
def readLaneId (b : MarkBits) (low : Nat) : LaneId :=
  ⟨⟨b.extractLsb' (low + 10) 8, b.extractLsb' (low + 8) 2, b.extractLsb' (low + 4) 4,
    halfOfBit (b.extractLsb' (low + 3) 1)⟩, b.extractLsb' low 3⟩

/-- The proposal of a block: absent when bit 44 is 0 (R175). -/
def readProposal (b : MarkBits) : Option Group :=
  if b.getLsbD 44 then some ⟨widthOfCode (b.extractLsb' 42 2), (b.extractLsb' 39 3).toNat⟩ else none

/-- The echo of a block: absent when bit 37 is 0 (R175). -/
def readEcho (b : MarkBits) : Option LaneId := if b.getLsbD 37 then some (readLaneId b 19) else none

/-- R28, test 4: the source lane lies in the source half. -/
def HeardId.laneInHalf (x : HeardId) : Bool :=
  match x.id.far.half with
  | .A => decide (x.id.lane.toNat < x.span)
  | .B => decide (4 ≤ x.id.lane.toNat)

/-- R28, test 5: a half B has span 4. -/
def HeardId.spanInHalf (x : HeardId) : Bool :=
  match x.id.far.half with
  | .A => true
  | .B => x.span == 4

/-- R28: a decoded block tested for validity, the first test it fails deciding. -/
def readMark (b : MarkBits) : Except MarkFailure Mark :=
  let id : HeardId := ⟨readLaneId b 70, widthOfCode (b.extractLsb' 68 2)⟩
  if b.extractLsb' 88 8 ≠ syncUpright then .error .sync
  else if crc8 (b.extractLsb' 8 80) ≠ b.extractLsb' 0 8 then .error .check
  else
    match phaseOfCode (b.extractLsb' 57 3) with
    | none => .error .code
    | some ph =>
      if id.id.far.chassis = 0 ∨ 250 < id.id.far.chassis.toNat then .error .code
      else if !id.laneInHalf then .error .lane
      else if !id.spanInHalf then .error .span
      else .ok
        { id := id, tag := b.extractLsb' 60 8, phase := ph, grade := b.extractLsb' 53 4
          usable := b.extractLsb' 45 8, proposal := readProposal b, accept := b.getLsbD 38
          echo := readEcho b }

/-- A block framed by the sync search (R26, R27): whether it was decoded inverted, and its decoded
contents; none when it begins with neither sync pattern. -/
def frameBlock (b : MarkBits) : Option (Bool × MarkBits) :=
  if b.extractLsb' 88 8 = syncUpright then some (false, b)
  else if b.extractLsb' 88 8 = syncInverted then some (true, ~~~b)
  else none

end Sys2Proof.Machine
end

