-- ==== Sys2Proof/Machine/Operands.lean ====
section
/-! DEFINITION. Operands: port operands and halves of requests, the checks of a PLAN_SET expectation, of
TIMING and PRESET values, and the evaluation of a cable descriptor. -/

namespace Sys2Proof.Machine

open Sys2Proof

/-! ### Results (R167) -/

/-- The result codes of a reply. -/
inductive Result where
  | ok
  | adjusted
  | unknown
  | length
  | badPort
  | noFocus
  | noLink
  | range
  | wrongMode
  | wrongState
  | noIdentity
  deriving DecidableEq, Repr

/-- The code of a result (Chapter 12, Management Frame). -/
def Result.code (r : Result) : Byte :=
  match r with
  | .ok => 0
  | .adjusted => 1
  | .unknown => 2
  | .length => 3
  | .badPort => 4
  | .noFocus => 5
  | .noLink => 6
  | .range => 7
  | .wrongMode => 8
  | .wrongState => 9
  | .noIdentity => 10

/-! ### The port operand (R169, R174) -/

/-- What a port operand names. -/
inductive PortOperand where
  | one (p : Port)
  | all
  | none
  deriving DecidableEq, Repr

/-- R168 tests 3 and 4, R169: a port operand byte, for a message that accepts ALL or NONE as said. -/
def portOperand (s : State) (acceptsAll acceptsNone : Bool) (b : Byte) : Except Result PortOperand :=
  if h : b.toNat < 16 then .ok (.one ⟨b.toNat, h⟩)
  else if b = 0xF0 then
    match s.focus with
    | some p => .ok (.one p)
    | none => .error .noFocus
  else if b = 0xFE ∧ acceptsAll = true then .ok .all
  else if b = 0xFF ∧ acceptsNone = true then .ok .none
  else .error .badPort

/-- A port operand of a message that accepts 0..15 and FOCUS alone. -/
def onePort (s : State) (b : Byte) : Except Result Port :=
  match portOperand s false false b with
  | .ok (.one p) => .ok p
  | .ok _ => .error .badPort
  | .error r => .error r

/-- R174 rule 5: a half byte; none for a value that answers RANGE. -/
def halfOperand (b : Byte) : Option Half :=
  match b.toNat with
  | 0 => some .A
  | 1 => some .B
  | _ => none

/-- R174 rule 5: a yes/no byte; none for a value that answers RANGE. -/
def yesNo (b : Byte) : Option Bool :=
  match b.toNat with
  | 0 => some false
  | 1 => some true
  | _ => none

/-! ### Expectations (R42, R46) -/

/-- An expected field: 0xFF is ANY, a value that passes `ok` is itself, any other is out of range. -/
def expectedField {α : Type} (b : Byte) (ok : Bool) (v : α) : Option (Option α) :=
  if b = 0xFF then some none else if ok then some (some v) else none

/-- R46 check 4: the preset list: count 0 is AUTO, counts 1..4 take that many presets, each in 0..7 and
none repeated. -/
def presetList (r : RawExpectation) : Option (List Nat) :=
  let l := ([r.preset1, r.preset2, r.preset3, r.preset4].map fun b => b.toNat).take r.presetCount.toNat
  if r.presetCount.toNat ≤ 4 ∧ (l.all fun x => decide (x ≤ 7)) = true ∧ l.Nodup then some l else none

/-- R46 check 5 and R42: the minimum grade; DEFAULT (0xFF) is stored as 6. -/
def minGradeValue (b : Byte) : Option Nat :=
  if b = 0xFF then some 6 else if b.toNat ≤ 15 then some b.toNat else none

/-- R46 check 3: the minimum width, at most 4 in a SPLIT entry. -/
def minWidthValue (form : Form) (b : Byte) : Option Nat :=
  if b.toNat = 1 ∨ b.toNat = 2 ∨ b.toNat = 4 ∨ (b.toNat = 8 ∧ form = .full) then some b.toNat else none

/-- R46 checks 2 to 5: an expectation carried by PLAN_SET; none when a value is out of range. -/
def expectationOf (form : Form) (r : RawExpectation) : Option Expectation := do
  let chassis ← expectedField r.chassis (decide (1 ≤ r.chassis.toNat ∧ r.chassis.toNat ≤ 250)) r.chassis
  let position ← expectedField r.position (decide (r.position.toNat ≤ 3)) (BitVec.ofNat 2 r.position.toNat)
  let port ← expectedField r.port (decide (r.port.toNat ≤ 15)) (BitVec.ofNat 4 r.port.toNat)
  let half ← expectedField r.half (decide (r.half.toNat ≤ 1)) (if r.half = 0 then Half.A else Half.B)
  let minWidth ← minWidthValue form r.minWidth
  let reversal ← yesNo r.reversal
  let autoTrain ← yesNo r.autoTrain
  let presets ← presetList r
  let minGrade ← minGradeValue r.minGrade
  pure { chassis, position, port, half, minWidth, reversal, autoTrain, presets, minGrade }

/-- The form of a form byte. -/
def formOfByte (b : Byte) : Option Form :=
  match b.toNat with
  | 0 => some .full
  | 1 => some .split
  | _ => none

/-- R46 checks 1 to 5: the entry a PLAN_SET carries; none when a value is out of range. -/
def entryOf (form : Byte) (a : RawExpectation) (b : Option RawExpectation) : Option PlanEntry :=
  match formOfByte form, b with
  | some .full, none => (expectationOf .full a).map fun x => ⟨.full, x, none⟩
  | some .split, some b =>
    match expectationOf .split a, expectationOf .split b with
    | some x, some y => some ⟨.split, x, some y⟩
    | _, _ => none
  | _, _ => none

/-- R168 test 2: whether the body length of a PLAN_SET fits its form byte. -/
def planLengthFits (form : Byte) (b : Option RawExpectation) : Bool :=
  match formOfByte form with
  | some .full => b.isNone
  | some .split => b.isSome
  | none => true

/-- R43: whether an expectation is satisfied by a far identity; an absent field is ANY. -/
def Expectation.satisfied (e : Expectation) (f : FarId) : Bool :=
  (match e.chassis with
   | some c => c == f.chassis
   | none => true) &&
  (match e.position with
   | some c => c == f.position
   | none => true) &&
  (match e.port with
   | some c => c == f.port
   | none => true) &&
  (match e.half with
   | some c => c == f.half
   | none => true)

/-- The expectation of a half of a port (R42). -/
def PortUnit.expectation (q : PortUnit) (h : Half) : Option Expectation :=
  match q.plan, h with
  | some e, .A => some e.a
  | some e, .B => e.b
  | none, _ => none

/-- R49: the plan form of a port. -/
def PortUnit.planForm (q : PortUnit) : Option Form :=
  match q.plan with
  | some e => some e.form
  | none => q.desc.map fun d => d.form

/-- R44: the AUTO list of a port; the list 0 when it holds no descriptor. -/
def PortUnit.autoList (q : PortUnit) : List Nat :=
  match q.desc with
  | none => [0]
  | some d =>
    match d.media with
    | .passiveCopper =>
      if 1 ≤ d.length ∧ d.length ≤ 20 then [1, 2]
      else if 21 ≤ d.length ∧ d.length ≤ 50 then [3, 4]
      else [5, 6, 7]
    | .activeCopper => [0]
    | .optical => [0]

/-- R44: the effective preset list of an expectation at a port. -/
def PortUnit.effectiveList (q : PortUnit) (e : Option Expectation) : List Nat :=
  match e with
  | some e => if e.presets = [] then q.autoList else e.presets
  | none => q.autoList

/-! ### Descriptors (R5, R6, R176) -/

/-- R176: the check: the sum of the five bytes modulo 256 is 0. -/
def descriptorSum (b0 b1 b2 b3 b4 : Byte) : Byte := b0 + b1 + b2 + b3 + b4

/-- R6: the stored lane count of a received one, none for 0. -/
def storedLanes (n : Nat) : Option Nat :=
  if n = 0 then none
  else if n = 1 then some 1
  else if n ≤ 3 then some 2
  else if n ≤ 7 then some 4
  else some 8

/-- R176: the form of a descriptor's form code. -/
def formOfCode (b : Byte) : Option Form :=
  match b.toNat with
  | 1 => some .full
  | 2 => some .split
  | _ => none

/-- R176: the media of a descriptor's media code. -/
def mediaOfCode (b : Byte) : Option Media :=
  match b.toNat with
  | 1 => some .passiveCopper
  | 2 => some .activeCopper
  | 3 => some .optical
  | _ => none

/-- R6: the descriptor of usable contents, none for BAD_CONTENTS. -/
def descriptorOf (b0 b1 b2 b3 : Byte) : Option Descriptor :=
  let received := (b1.extractLsb' 0 4).toNat
  match formOfCode b0, storedLanes received, mediaOfCode b2 with
  | some form, some n, some media =>
    if form = .split ∧ n ≠ 8 then none
    else some ⟨form, n, media, b3.toNat, n != received⟩
  | _, _, _ => none

/-! ### Timing and preset values (R45, R159) -/

/-- The debounce period of its byte. -/
def debounceOf (b : Byte) : Option Debounce :=
  match b.toNat with
  | 0 => some .none
  | 2 => some .ms2
  | 8 => some .ms8
  | 32 => some .ms32
  | _ => none

/-- The byte of a debounce period. -/
def Debounce.byte (d : Debounce) : Byte :=
  match d with
  | .none => 0
  | .ms2 => 2
  | .ms8 => 8
  | .ms32 => 32

/-- The recheck interval of its byte. -/
def recheckOf (b : Byte) : Option RecheckInterval :=
  match b.toNat with
  | 0 => some .off
  | 1 => some .s1
  | 4 => some .s4
  | 16 => some .s16
  | 64 => some .s64
  | _ => none

/-- The seconds of a recheck interval, 0 for OFF. -/
def RecheckInterval.seconds (r : RecheckInterval) : Nat :=
  match r with
  | .off => 0
  | .s1 => 1
  | .s4 => 4
  | .s16 => 16
  | .s64 => 64

/-- A clamped value is the nearest in-range value. -/
def clamp (lo hi v : Nat) : Nat := if v < lo then lo else if hi < v then hi else v

/-- R159: the survey window stored: clamped, then the next lower multiple of 10. -/
def windowStored (v : Nat) : Nat := clamp 100 5000 v / 10 * 10

/-- R159: the settings a TIMING request stores; none when an enumerated one is out of range. -/
def timingOf (v : RawTiming) : Option Timing :=
  match debounceOf v.debounce, recheckOf v.recheck with
  | some d, some r =>
    some { debounce := d, window := windowStored v.window.toNat, timeout := clamp 20 2000 v.timeout.toNat
           maxAttempts := clamp 1 7 v.attempts.toNat, warning := clamp 1 127 v.warning.toNat, recheck := r }
  | _, _ => none

/-- R159: whether every value is stored as carried. -/
def timingExact (v : RawTiming) (t : Timing) : Bool :=
  t.window == v.window.toNat && t.timeout == v.timeout.toNat && t.maxAttempts == v.attempts.toNat &&
    t.warning == v.warning.toNat

/-- R45 conditions 2 to 4: the preset values are in range. -/
def presetInRange (number amplitude emphasis : Byte) : Bool :=
  decide (number.toNat ≤ 7) && [50, 75, 100, 125, 150].contains amplitude.toNat && decide (emphasis.toNat ≤ 7)

end Sys2Proof.Machine
end

