-- ==== Sys2Proof/Machine/Lanes.lean ====
section
/-! DEFINITION. Lane records: clearing, the far view of a link, its usable set and the items of a lane
change event (R31, R37, R39, R82, R83). -/

namespace Sys2Proof.Machine

open Sys2Proof

/-! ### Clearing (R31, R39) -/

/-- R39: the preset of a cleared link part: the first of the AUTO list. -/
def PortUnit.clearedPreset (q : PortUnit) : Nat := q.autoList.headD 0

/-- R39: a lane with its link part cleared. -/
def PortUnit.clearLinkPart (q : PortUnit) (x : LaneUnit) : LaneUnit :=
  { x with preset := q.clearedPreset, best := none, delay := 0, active := false }

/-- R31, R27, R39: a lane cleared, receive part with the given status, polarity correction off. -/
def PortUnit.clearLane (q : PortUnit) (st : LaneStatus) (x : LaneUnit) : LaneUnit :=
  q.clearLinkPart { x with rx := { status := st }, correction := false }

/-- R31: the port's lanes cleared while they are not processed. -/
def PortUnit.clearLanes (q : PortUnit) : PortUnit := q.mapLanes fun _ x => q.clearLane .quiet x

/-- R31: the port's lanes cleared at its entry to SURVEY: a lane within a span takes SIGNAL while its
front end has signal. -/
def PortUnit.clearForSurvey (q : PortUnit) : PortUnit :=
  q.mapLanes fun i x => q.clearLane (if q.inSpan i && x.signal then .signal else .quiet) x

/-- R20: the port's transmitters send no signal. -/
def PortUnit.silence (q : PortUnit) : PortUnit := q.mapLanes fun _ x => { x with txMark := none }

/-! ### The far view (R82, R83) -/

/-- The far identity a lane holds. -/
def LaneUnit.heldFar (x : LaneUnit) : Option FarId := x.rx.held.map fun k => k.id.id.far

/-- The heard fields of a lane. -/
def LaneUnit.heard (x : LaneUnit) : Option Heard := x.rx.held.map fun k => k.heard

/-- R82 condition (1): CONFIRMED with the far identity, or CONFIRMED while there is none. -/
def LaneUnit.confirmedWith (x : LaneUnit) (far : Option FarId) : Bool :=
  x.rx.status == .confirmed &&
    (match far with
     | some f => x.heldFar == some f
     | none => true)

/-- The relative lanes of a half that are CONFIRMED with a far identity. -/
def PortUnit.confirmedSet (q : PortUnit) (h : Half) (far : Option FarId) : LaneSet :=
  laneSet fun r => decide (r < q.span h) && (q.rel h r).confirmedWith far

/-- R82: the lanes that carry an exclusion mark. -/
def Marks.excluded (m : Marks) : LaneSet := m.weak ||| m.rejDeskew ||| m.rejRecheck ||| m.lockLost

/-- The lanes that carry the skew-rejected mark. -/
def Marks.skewRejected (m : Marks) : LaneSet := m.rejDeskew ||| m.rejRecheck

/-- Whether a link is live: TRAINING or UP. -/
def Link.live (l : Link) : Bool := l.state == .training || l.state == .up

/-- R82: the usable set of a link; the exclusion marks apply while it is live. -/
def PortUnit.usable (q : PortUnit) (h : Half) (l : Link) : LaneSet :=
  if l.live then q.confirmedSet h l.far &&& ~~~l.marks.excluded else q.confirmedSet h l.far

/-- R82: the usable field of a lane (R39): yes exactly while the lane is in its link's usable set. -/
def PortUnit.laneUsable (q : PortUnit) (i : Lane) : Bool :=
  match (q.pos (q.laneHalf i)).link with
  | some l => q.ofHalf (q.laneHalf i) i && LaneSet.has (q.usable (q.laneHalf i) l) (relLane (q.laneHalf i) i)
  | none => false

/-- R83 (1): the intersection of the heard usable sets of a set of relative lanes, empty for no lane. -/
def PortUnit.heardUsable (q : PortUnit) (h : Half) (S : LaneSet) : LaneSet :=
  if S = 0 then 0
  else (LaneSet.members S).foldl (fun acc r =>
    acc &&& (match (q.rel h r).heard with
             | some k => k.usable
             | none => 0)) 0xFF#8

/-- R83 (1): the far usable set of a link. -/
def PortUnit.farUsable (q : PortUnit) (h : Half) (l : Link) : LaneSet :=
  q.heardUsable h (q.confirmedSet h l.far)

/-- R83 (2), (3): the heard fields of the reference lane. -/
def PortUnit.reference (q : PortUnit) (h : Half) (l : Link) : Option Heard :=
  match LaneSet.lowest (q.confirmedSet h l.far) with
  | some r => (q.rel h r).heard
  | none => none

/-- The heard phase of a lane is one of a list. -/
def LaneUnit.hears (x : LaneUnit) (phases : List Phase) : Bool :=
  match x.heard with
  | some k => phases.contains k.phase
  | none => false

/-- R109 (2): some lane is CONFIRMED with the far identity, and every such lane hears READY or TRAIN. -/
def PortUnit.farReady (q : PortUnit) (h : Half) (l : Link) : Bool :=
  q.confirmedSet h l.far != 0 &&
    (LaneSet.members (q.confirmedSet h l.far)).all fun r => (q.rel h r).hears [.ready, .train]

/-- R120: some lane CONFIRMED with the far identity hears SURVEY or HOLD. -/
def PortUnit.farFellBack (q : PortUnit) (h : Half) (l : Link) : Bool :=
  (LaneSet.members (q.confirmedSet h l.far)).any fun r => (q.rel h r).hears [.survey, .hold]

/-- R130: some lane that holds the far identity, MARKED or CONFIRMED, hears SURVEY, HOLD or READY. -/
def PortUnit.farLeft (q : PortUnit) (h : Half) (l : Link) : Bool :=
  (LaneSet.members (q.spanSet h)).any fun r =>
    l.far.isSome && (q.rel h r).heldFar == l.far && (q.rel h r).hears [.survey, .hold, .ready]

/-! ### Lane change events (R37, R75, R89) -/

/-- The items of a lane change event. -/
structure LaneItems where
  status : Bool
  identity : Bool
  tag : Bool
  phase : Bool
  grade : Bool
  usable : Bool
  proposal : Bool
  accept : Bool
  deriving DecidableEq, Repr

/-- The heard fields of a receive record. -/
def RxRecord.heard (x : RxRecord) : Option Heard := x.held.map fun k => k.heard

/-- R37: the items that differ between two receive records. -/
def changedItems (a b : RxRecord) : LaneItems :=
  { status := a.status != b.status
    identity := (a.held.map fun k => k.id) != (b.held.map fun k => k.id)
    tag := (a.heard.map fun k => k.tag) != (b.heard.map fun k => k.tag)
    phase := (a.heard.map fun k => k.phase) != (b.heard.map fun k => k.phase)
    grade := (a.heard.map fun k => k.grade) != (b.heard.map fun k => k.grade)
    usable := (a.heard.map fun k => k.usable) != (b.heard.map fun k => k.usable)
    proposal := (a.heard.bind fun k => k.proposal) != (b.heard.bind fun k => k.proposal)
    accept := (a.heard.map fun k => k.accept) != (b.heard.map fun k => k.accept) }

/-- R37: an event is produced when an item changed. -/
def LaneItems.any (x : LaneItems) : Bool :=
  x.status || x.identity || x.tag || x.phase || x.grade || x.usable || x.proposal || x.accept

/-- R75: a verdict change. -/
def LaneItems.verdictChange (x : LaneItems) : Bool := x.status || x.identity || x.tag || x.usable

/-- R89 (2): an event on which the agreement protocol runs. -/
def LaneItems.runsProtocol (x : LaneItems) : Bool :=
  x.status || x.identity || x.usable || x.proposal || x.accept

end Sys2Proof.Machine
end

