-- ==== Sys2Proof/Machine/Flags.lean ====
section
/-! DEFINITION. The output pins that follow the state: the port indicators and ATTN (R16, R17, R149). -/

namespace Sys2Proof.Machine

open Sys2Proof

/-- The links of a port. -/
def PortUnit.links (q : PortUnit) : List Link :=
  (match q.posA.link with
   | some l => [l]
   | none => []) ++
  (match q.posB.link with
   | some l => [l]
   | none => [])

/-- R16: the source signal of a port. -/
def PortUnit.sourceSignal (q : PortUnit) : Bool :=
  match q.indSource with
  | .present => q.state != .off && q.accepted
  | .upAny => q.state == .assigned && q.links.any fun l => l.state == .up
  | .upAll => q.state == .assigned && q.links.all fun l => l.state == .up
  | .attention =>
    q.state == .cableFault ||
      (q.state == .assigned && q.links.any fun l => l.state == .blocked || l.state == .isolated)
  | .health =>
    q.state == .assigned && q.links.any fun l =>
      l.state == .up && (l.sup.level == some .warned || l.sup.level == some .degraded)

/-- R17: the IND output of a port that does not hold the locate selection. -/
def PortUnit.indicator (q : PortUnit) : Bool :=
  match q.indDirect with
  | .on => true
  | .off => false
  | .none => q.sourceSignal != q.indInvert

/-- Whether a port holds the locate selection (R18). -/
def State.holdsLocate (s : State) (p : Port) : Bool := s.locate == some p

/-- R17: the level of a port's IND output. -/
def State.ind (s : State) (p : Port) : Bool :=
  if s.holdsLocate p then s.blinkOn else (s.port p).indicator

/-- R149: ATTN is driven low while the queue holds an entry. -/
def State.attn (s : State) : Level := if s.queue = [] then .high else .low

end Sys2Proof.Machine
end

