-- ==== Sys2Proof/Machine/Verdict.lean ====
section
/-! DEFINITION. The verdict: the observations drawn from the lane records and the ordered checks
(R63 to R66, R51). -/

namespace Sys2Proof.Machine

open Sys2Proof

/-- R63: the observations of a verdict. -/
structure Obs where
  marked : LaneSet
  confirmed : LaneSet
  far : Option FarId
  span : Option Nat
  map : Option MapClass
  polarity : LaneSet
  farUsable : LaneSet
  usable : Option LaneSet
  width : Option Nat
  deriving DecidableEq, Repr

/-- The common value of a non-empty list whose entries agree. -/
def agreed {α : Type} [DecidableEq α] (L : List α) : Option α :=
  match L with
  | [] => none
  | x :: xs => if xs.all (fun y => decide (y = x)) then some x else none

/-- R63: a marked lane holds an identity. -/
def LaneUnit.isMarked (x : LaneUnit) : Bool := x.rx.status == .marked || x.rx.status == .confirmed

/-- R63: the relative far lane of a held identity. -/
def HeardId.relLane (x : HeardId) : Nat := x.id.lane.toNat - halfBase x.id.far.half

/-- R63: the marked lanes of a half. -/
def PortUnit.markedSet (q : PortUnit) (h : Half) : LaneSet :=
  laneSet fun r => decide (r < q.span h) && (q.rel h r).isMarked

/-- The identities held on a half's marked lanes, each with its relative lane. -/
def PortUnit.heldIds (q : PortUnit) (h : Half) : List (Nat × HeardId) :=
  (LaneSet.members (q.markedSet h)).filterMap fun r => (q.rel h r).rx.held.map fun k => (r, k.id)

/-- R64: the map class over the marked lanes, given the span. -/
def mapClassOf (n : Nat) (ids : List (Nat × HeardId)) : Option MapClass :=
  if ids.all fun x => x.2.relLane == x.1 then some .straight
  else if ids.all fun x => x.2.relLane + x.1 + 1 == n then some .reversed
  else none

/-- R63 to R65: the observations of a half of a port. -/
def PortUnit.observe (q : PortUnit) (h : Half) : Obs :=
  let n := q.span h
  let ids := q.heldIds h
  let far := agreed (ids.map fun x => x.2.id.far)
  let span := agreed (ids.map fun x => x.2.span)
  let map := if far.isSome && span == some n then mapClassOf n ids else none
  let confirmed := q.confirmedSet h none
  let farUsable := q.heardUsable h confirmed
  let usable := map.map fun m => confirmed &&& m.set n farUsable
  { marked := q.markedSet h
    confirmed := confirmed
    far := far
    span := span
    map := map
    polarity := laneSet fun r => LaneSet.has (q.markedSet h) r && (q.rel h r).rx.polInverted
    farUsable := farUsable
    usable := usable
    width := usable.map fun u => groupWidth (select n u) }

/-- The states whose links hold their far identity against others (R71). -/
def LinkState.holding (x : LinkState) : Bool :=
  match x with
  | .verified => true
  | .training => true
  | .up => true
  | .checking => false
  | .blocked => false
  | .isolated => false

/-- Whether an optional link holds its far identity. -/
def holds (l : Option Link) : Bool :=
  match l with
  | some l => l.state.holding
  | none => false

/-- R66 check 10: another link of the part, holding, has the far identity. -/
def State.duplicate (s : State) (p : Port) (h : Half) (f : FarId) : Bool :=
  allPositions.any fun x =>
    (x.1, x.2) != (p, h) &&
      (match s.link x.1 x.2 with
       | some l => l.state.holding && l.far == some f
       | none => false)

/-- R66 check 8: some marked lane hears another tag. -/
def State.staleTag (s : State) (p : Port) (h : Half) : Bool :=
  (LaneSet.members ((s.port p).markedSet h)).any fun r =>
    match ((s.port p).rel h r).heard with
    | some k => k.tag != s.planTag
    | none => false

/-- R66: the ordered checks; `upWidth` is the width of the active group of a link that is UP, which
takes the place of the expected width in check 11 (R51). None is a pass. -/
def State.checks (s : State) (p : Port) (h : Half) (o : Obs) (upWidth : Option Nat) : Option Reason :=
  let q := s.port p
  if q.plan.isSome && q.planForm != q.desc.map (fun d => d.form) then some .formMismatch
  else if o.marked = 0 then some .dark
  else
    match o.far with
    | none => some .crossed
    | some f =>
      if o.span ≠ some (q.span h) ∨ o.map = none then some .scrambled
      else if q.plan.isNone then some .noPlan
      else
        match q.expectation h with
        | none => some .wrongPeer
        | some e =>
          if !e.satisfied f then some .wrongPeer
          else if o.map = some .reversed ∧ e.reversal = false then some .reversed
          else if s.staleTag p h then some .staleTag
          else if o.confirmed = 0 then some .oneWay
          else if s.duplicate p h f then some .duplicatePeer
          else if upWidth.getD (o.width.getD 0) < e.minWidth then some .tooNarrow
          else none

/-- R67, R80: a link that passes takes the observations and the role, and its reason is cleared. -/
def State.passed (s : State) (p : Port) (h : Half) (o : Obs) (l : Link) : Link :=
  { l with
    reason := none, far := o.far, map := o.map, polarity := o.polarity, expWidth := o.width
    agree := { l.agree with role := o.far.map fun f => roleOf (s.linkId p h) f } }

/-- R68, R80: a link that fails takes the observations and enters BLOCKED; its grant and role go. -/
def Link.failed (l : Link) (o : Obs) (r : Reason) : Link :=
  { l with
    state := .blocked, reason := some r, far := o.far, map := o.map, polarity := o.polarity
    expWidth := o.width, grant := false, agree := { l.agree with role := none } }

/-- R69: the VERDICT notice. -/
def Obs.notice (o : Obs) (outcome : LinkState) (r : Option Reason) : Detail :=
  .verdict outcome r o.far o.map (LaneSet.count o.polarity) o.width

/-- R70: a verdict that observes another far identity invalidates the retained context. -/
def State.verdictContext (s : State) (p : Port) (h : Half) (o : Obs) : State :=
  s.modPos p h fun x =>
    match o.far, x.context with
    | some f, some c => if c.far = f then x else { x with context := none }
    | _, _ => x

end Sys2Proof.Machine
end

