-- ==== Sys2Proof/Machine/Links.lean ====
section
/-! DEFINITION. Changes of link state: the one operation that every change goes through, with its
snapshot, history entry and release of duplicates (R72, R132, R151, R154), and what a link clears when
it leaves a state. -/

namespace Sys2Proof.Machine

open Sys2Proof

/-- `f` done with the link at a position; nothing where there is none. -/
def State.withLink (s : State) (p : Port) (h : Half) (f : Link → State) : State :=
  match s.link p h with
  | some l => f l
  | none => s

/-- The link at a position changed in place, its state kept. -/
def State.modLink (s : State) (p : Port) (h : Half) (f : Link → Link) : State :=
  s.modPos p h fun x => { x with link := x.link.map f }

/-- The port with the lanes of a half's span changed, by relative lane. -/
def PortUnit.mapHalf (q : PortUnit) (h : Half) (f : Nat → LaneUnit → LaneUnit) : PortUnit :=
  q.mapLanes fun i x => if q.ofHalf h i then f (relLane h i) x else x

/-- R90, R100, R117: the active flags and deskew delays of a half's lanes set for a group. -/
def PortUnit.applyGroup (q : PortUnit) (h : Half) (active : LaneSet) (skew : Vector (Option Nat) 8) : PortUnit :=
  q.mapHalf h fun r x => { x with active := LaneSet.has active r, delay := deskewDelay skew active r }

/-- R132 (2): every active flag cleared and every delay 0 on a half's lanes. -/
def PortUnit.releaseLanes (q : PortUnit) (h : Half) : PortUnit :=
  q.mapHalf h fun _ x => { x with active := false, delay := 0 }

/-! ### What a link clears when it leaves a state -/

/-- R106: the training fields cleared when the link leaves TRAINING; the attempt lanes and the last
failure are kept. -/
def Training.ended (t : Training) : Training :=
  { attemptLanes := t.attemptLanes, lastFailure := t.lastFailure }

/-- R84: the agreement fields cleared when the link leaves TRAINING or UP; role and shed set are kept. -/
def Agreement.ended (a : Agreement) : Agreement := { role := a.role, shed := a.shed }

/-- R96, R103: the recheck stopped when the link is not UP; one in flight is abandoned. -/
def Alignment.ended (a : Alignment) (now : Uptime) : Alignment :=
  { a with
    recheckState := .idle, recheck := {}, recheckTimer := none
    lastOutcome := if a.recheckState = .collecting then .abandoned else a.lastOutcome
    lastTime := if a.recheckState = .collecting then some now else a.lastTime }

/-- R82, R84, R96, R106, R125: what a link clears when it leaves TRAINING or UP for another state. DEDUCED: the
rejection origins go with the skew-rejected marks, where another sentence of R96 keeps them (log entry 17). -/
def Link.endLive (l : Link) (now : Uptime) : Link :=
  { l with
    agree := l.agree.ended, marks := {}, align := l.align.ended now, training := l.training.ended
    sup := { l.sup with level := none, judging := false } }

/-- R125: what a link clears when it leaves ISOLATED. -/
def Link.endIsolated (l : Link) : Link :=
  { l with sup := { l.sup with
      isoCause := none, probeSet := 0, probeTimer := none, probeDirty := false, probeChange := false } }

/-- What a link clears when it leaves the state it is in. -/
def Link.leave (l : Link) (now : Uptime) : Link :=
  match l.state with
  | .checking => { l with checkEntry := none, quiet := none }
  | .verified => l
  | .blocked => { l with reason := none }
  | .training => l.endLive now
  | .up => l.endLive now
  | .isolated => l.endIsolated

/-- R73: the link as it enters CHECKING. -/
def Link.toChecking (l : Link) (now : Uptime) : Link :=
  { l.leave now with state := .checking, checkEntry := some now, quiet := some ⟨now, 20⟩ }

/-- The link as it returns to VERIFIED. -/
def Link.toVerified (l : Link) (now : Uptime) : Link := { l.leave now with state := .verified }

/-- R135 (2): the link as it enters ISOLATED. -/
def Link.toIsolated (l : Link) (now : Uptime) (probes : LaneSet) (cause : Reason) (score : Nat) : Link :=
  { l.leave now with
    state := .isolated
    sup := { (l.leave now).sup with
      score := score, isoCause := some cause, probeSet := probes, probeTimer := some ⟨now, 10⟩
      probeDirty := false, probeChange := false, probesMade := 0, probesClean := 0 } }

/-! ### The change of link state -/

/-- R152: the snapshot record of a change of link state that makes a capture attempt, by R151. -/
def State.snapOf (s : State) (p : Port) (h : Half) (old new : Option Link) (down : Reason) : Option SnapRecord :=
  let q := s.port p
  let loss := s.noticeLoss
  match old, new with
  | some l, none =>
    if l.state = .up then
      some ⟨s.uptime, some .up, down, groupWidth l.agree.active, l.agree.active.map (fun g => g.start),
        l.sup.score, q.usable h l, l.far, loss⟩
    else none
  | old, some k =>
    let left := old.map fun l => l.state
    if left = some .up ∧ k.state ≠ .up then
      old.map fun l =>
        ⟨s.uptime, some .up, down, groupWidth l.agree.active, l.agree.active.map (fun g => g.start),
          l.sup.score, q.usable h l, k.far, loss⟩
    else if k.state = .blocked ∧ left ≠ some .blocked then
      some ⟨s.uptime, left, k.reason.getD down, 0, none, k.sup.score, q.usable h k, k.far, loss⟩
    else if k.state = .isolated ∧ left ≠ some .isolated then
      some ⟨s.uptime, left, k.sup.isoCause.getD down, 0, none, k.sup.score, q.usable h k, k.far, loss⟩
    else none
  | none, none => none

/-- R69, R154: whether a change of link state appends a history entry: the state changes, or a BLOCKED link
takes another reason. -/
def changesHistory (old new : Option Link) : Bool :=
  (old.map fun l => l.state) != (new.map fun l => l.state) ||
    (old.bind fun l => l.reason) != (new.bind fun l => l.reason)

/-- Whether a change takes a link out of UP. -/
def leavesUp (old new : Option Link) : Bool :=
  (match old with
   | some l => l.state == .up
   | none => false) &&
  (match new with
   | some l => l.state != .up
   | none => true)

/-- A change of the link at a position from `old` to `new`: the capture attempt (R151), the lanes released
when it leaves UP (R132), the new record and the history entry (R154). `down` is the LINK_DOWN reason. -/
def State.storeMove (s : State) (p : Port) (h : Half) (old new : Option Link) (down hist : Reason) : State :=
  let s1 := match s.snapOf p h old new down with
    | some r => s.capture p h r
    | none => s
  let s2 := if leavesUp old new then s1.modPort p fun q => q.releaseLanes h else s1
  let s3 := s2.setLink p h new
  if changesHistory old new then
    s3.log p (.link h (old.map fun l => l.state) (new.map fun l => l.state)) hist
  else s3

/-- R72: a link BLOCKED with DUPLICATE_PEER enters CHECKING. DEDUCED: a link already in CHECKING is left alone, its
quiet timer runs on (R74; log entry 31). -/
def State.releasePosition (s : State) (p : Port) (h : Half) : State :=
  s.withLink p h fun l =>
    if l.state = .blocked ∧ l.reason = some .duplicatePeer then
      s.storeMove p h (some l) (some (l.toChecking s.uptime)) .peerReleased .peerReleased
    else s

/-- R72: every link of the part that is BLOCKED with DUPLICATE_PEER when the link at (`p`, `h`) departs enters
CHECKING. -/
def State.releaseDuplicates (s : State) (p : Port) (h : Half) : State :=
  s.forPositions fun t p' h' => if p' = p ∧ h' = h then t else t.releasePosition p' h'

/-- A change of link state with the release of R72 where the link leaves VERIFIED, TRAINING and UP. -/
def State.moveLink (s : State) (p : Port) (h : Half) (old new : Option Link) (down hist : Reason) : State :=
  let t := s.storeMove p h old new down hist
  if holds old && !holds new then t.releaseDuplicates p h else t

/-- R132 (5): the LINK_DOWN notice of a link that was TRAINING or UP. -/
def Link.downNotice (l : Link) (reason : Reason) : Detail :=
  .linkDown reason l.state (if l.state = .up then groupWidth l.agree.active else 0)

/-- R132, R120, R121: a TRAINING or UP link goes down to `new` with its LINK_DOWN notice. -/
def State.linkDown (s : State) (p : Port) (h : Half) (l new : Link) (reason hist : Reason) : State :=
  (s.moveLink p h (some l) (some new) reason hist).postLink p h (l.downNotice reason)

/-- R73: a link enters CHECKING. -/
def State.enterChecking (s : State) (p : Port) (h : Half) (l : Link) (hist : Reason) : State :=
  s.moveLink p h (some l) (some (l.toChecking s.uptime)) hist hist

/-! ### Removal -/

/-- A link is removed with its port's links: LINK_DOWN for a live link, but none for RESTART (R9, R11, R13, R49,
R158, R161). The residue of its position stays where nothing else clears it: DEDUCED from R141 for an
ISOLATED link that a change of plan form removes, against a sentence of R49 (log entry 35). -/
def State.removeLink (s : State) (p : Port) (h : Half) (reason : Reason) : State :=
  s.withLink p h fun l =>
    let t := s.moveLink p h (some l) none reason reason
    if l.live && reason != .restart then t.postLink p h (l.downNotice reason) else t

/-- The port's links removed, half A before half B. -/
def State.removeLinks (s : State) (p : Port) (reason : Reason) : State :=
  s.inEvent fun t => (t.removeLink p .A reason).removeLink p .B reason

end Sys2Proof.Machine
end

