-- ==== Sys2Proof/Machine/Agreement.lean ====
section
/-! DEFINITION. The agreement protocol (R85 to R88) as one function of a link and its port's records,
and the pending regroup (R92). -/

namespace Sys2Proof.Machine

open Sys2Proof

/-- The minimum width of a half's expectation, read now (R43). -/
def PortUnit.minWidth (q : PortUnit) (h : Half) : Nat :=
  match q.expectation h with
  | some e => e.minWidth
  | none => 0

/-- The minimum grade of a half's expectation, read now (R43). -/
def PortUnit.minGrade (q : PortUnit) (h : Half) : Nat :=
  match q.expectation h with
  | some e => e.minGrade
  | none => 0

/-- The lanes of an optional group. -/
def groupLanes (g : Option Group) : LaneSet :=
  match g with
  | some g => g.lanes
  | none => 0

/-- The map class a link translates by (R81). -/
def Link.mapping (l : Link) : MapClass := l.map.getD .straight

/-- R85: the candidate set, confined to the active group while UP. -/
def PortUnit.candidates (q : PortUnit) (h : Half) (l : Link) : LaneSet :=
  let c := q.usable h l &&& l.mapping.set (q.span h) (q.farUsable h l)
  if l.state = .up then c &&& groupLanes l.agree.active else c

/-- R85: the group the selection rule gives, none where it is narrow by R88. -/
def PortUnit.selected (q : PortUnit) (h : Half) (l : Link) : Option Group :=
  match select (q.span h) (q.candidates h l) with
  | some g => if g.width < q.minWidth h then none else some g
  | none => none

/-- R83 (3): the far proposal of a link, translated into this end's numbering (R81). -/
def PortUnit.farProposal (q : PortUnit) (h : Half) (l : Link) : Option Group :=
  match (q.reference h l).bind fun k => k.proposal with
  | some g => l.mapping.group (q.span h) g
  | none => none

/-- R83 (3): the far accept is yes. -/
def PortUnit.farAccept (q : PortUnit) (h : Half) (l : Link) : Bool :=
  match q.reference h l with
  | some k => k.accept
  | none => false

/-- R85, R87: the steps of a SENIOR or SELF end with the group `g` selected. -/
def Link.seniorSteps (l : Link) (g : Group) (farProposal : Option Group) (farAccept : Bool) : Link :=
  let kept := l.agree.accept && l.agree.proposal == some g
  let adopts := farProposal == some g && (farAccept || l.agree.role == some .self)
  { l with agree := { l.agree with
      proposal := some g
      accept := adopts || kept
      active := if adopts then some g else l.agree.active } }

/-- R86: the far proposal passes the junior's test; the group is the translated one. -/
def PortUnit.juniorTest (q : PortUnit) (h : Half) (l : Link) : Option Group :=
  match (q.reference h l).bind fun k => k.proposal, q.farProposal h l with
  | some heard, some g =>
    if (candidateGroups (q.span h)).contains heard && LaneSet.within g.lanes (q.usable h l) &&
        decide (q.minWidth h ≤ g.width) &&
        (l.state != .up || LaneSet.within g.lanes (groupLanes l.agree.active))
    then some g else none
  | _, _ => none

/-- R86: the steps of a JUNIOR end. -/
def Link.juniorSteps (l : Link) (test : Option Group) : Link :=
  match test with
  | some g => { l with agree := { l.agree with proposal := some g, accept := true, active := some g } }
  | none =>
    if l.state = .up then { l with agree := { l.agree with proposal := l.agree.active, accept := false } }
    else { l with agree := { l.agree with proposal := none, accept := false, active := none } }

/-- R85 to R88: one run of the protocol; none when the narrow condition holds at this end. DESIGN CHOICE: that
condition is tested before a JUNIOR end adopts (log entry 9). DEDUCED: it holds at the junior end of R92's last
example, which goes down at once, where the example speaks of the regroup timer (log entry 32). -/
def PortUnit.runProtocol (q : PortUnit) (h : Half) (l : Link) : Option Link :=
  match q.selected h l with
  | none => none
  | some g =>
    match l.agree.role with
    | some .junior => some (l.juniorSteps (q.juniorTest h l))
    | some _ => some (l.seniorSteps g (q.farProposal h l) (q.farAccept h l))
    | none => some l

/-- R92: whether a regroup is pending at an UP link, by the role. DEDUCED: a SENIOR or SELF end reads its own
proposal and active group alone, so the far end's withdrawal of proposal or accept makes nothing pending there,
where R93 says that an UP far end that hears it enters a pending regroup (log entry 34). -/
def PortUnit.regroupPending (q : PortUnit) (h : Half) (l : Link) : Bool :=
  match l.agree.role with
  | some .junior =>
    !l.agree.accept || !q.farAccept h l || q.farProposal h l != l.agree.active
  | some _ => l.agree.proposal.isNone || l.agree.proposal != l.agree.active
  | none => false

/-- R92: the regroup start and timer set when a regroup becomes pending, cleared when it ceases. -/
def State.updateRegroup (s : State) (p : Port) (h : Half) : State :=
  s.modLink p h fun l =>
    if (s.port p).regroupPending h l then
      if l.agree.regroupStart.isSome then l
      else { l with agree := { l.agree with
               regroupStart := some s.uptime, regroupTimer := s.timer s.timing.timeout } }
    else { l with agree := { l.agree with regroupStart := none, regroupTimer := none } }

end Sys2Proof.Machine
end

