-- ==== Sys2Proof/Machine/Training.lean ====
section
/-! DEFINITION. Training: the start test, EQUALIZE, DESKEW, ALIGN, entry to UP and the counted failure
(Chapter 7); and the agreement protocol while UP with the recheck (Chapters 5 and 6).

A counted failure may start the next attempt in the same event (R119). The functions that can end in
one take `restart`, what is done with the link that has returned to VERIFIED. -/

namespace Sys2Proof.Machine

open Sys2Proof

/-- What is done with a link that a counted failure has returned to VERIFIED. -/
abbrev Restart := State → Port → Half → State

/-! ### Health level (R127) -/

/-- R127: the level of a score under the warning limit. -/
def levelOf (w score : Nat) : HealthLevel :=
  if score < w then .good else if score ≤ 127 then .warned else .degraded

/-- The order of the levels. -/
def HealthLevel.rank (x : HealthLevel) : Nat :=
  match x with
  | .good => 0
  | .warned => 1
  | .degraded => 2

/-- R127: a HEALTH notice is posted on a rise of the level and on the return to GOOD. -/
def healthNotice (left entered : HealthLevel) : Bool :=
  decide (left.rank < entered.rank) || (entered == .good && left != .good)

/-- R127: the score of an UP link set, its level computed again, and the HEALTH notice where one is due.
An absent level counts as GOOD, as at the entry to UP. -/
def State.setScore (s : State) (p : Port) (h : Half) (score : Nat) : State :=
  s.withLink p h fun l =>
    let old := l.sup.level.getD .good
    let new := levelOf s.timing.warning score
    let t := s.modLink p h fun k => { k with sup := { k.sup with score := score, level := some new } }
    if healthNotice old new then t.postLink p h (.health old new score) else t

/-! ### Counted failure (R119) -/

/-- R119: a counted failure of a TRAINING link. -/
def State.countFailure (restart : Restart) (s : State) (p : Port) (h : Half) (cause : Reason) : State :=
  s.withLink p h fun l =>
    let count := l.attempts + 1
    let notice : Detail := .trainRetry cause count l.training.stage
    let ended := l.leave s.uptime
    let base := { ended with
      attempts := count, training := { ended.training with lastFailure := some cause } }
    if count < s.timing.maxAttempts then
      restart ((s.moveLink p h (some l) (some { base with state := .verified }) cause cause).postLink p h notice) p h
    else
      (s.moveLink p h (some l)
        (some { base with state := .blocked, reason := some .trainFailed, grant := false })
        .trainFailed .trainFailed).postLink p h notice

/-! ### Entry to UP (R117) -/

/-- R122: the retained context of a link as it enters UP. -/
def PortUnit.contextOf (q : PortUnit) (h : Half) (far : FarId) (g : Group) : Context :=
  { far := far, group := g
    presets := laneVector fun r => if LaneSet.has g.lanes r then some (q.rel h r).preset else none }

/-- R122: the context stored at a position. -/
def State.storeContext (s : State) (p : Port) (h : Half) (far : Option FarId) (g : Group) : State :=
  match far with
  | some f => s.modPos p h fun x => { x with context := some ((s.port p).contextOf h f g) }
  | none => s

/-- R102: the recheck timer, not started with the setting OFF. -/
def State.recheckTimer (s : State) : Option Timer :=
  match s.timing.recheck with
  | .off => none
  | r => s.timer (r.seconds * 1000)

/-- R117: the link record as the link enters UP. -/
def Link.toUp (l : Link) (recheck : Option Timer) : Link :=
  { l with
    state := .up, attempts := 0, training := l.training.ended
    align := { l.align with recheckTimer := recheck }
    sup := { l.sup with upEntries := satAdd 65535 l.sup.upEntries 1, judging := false } }

/-- R117: a TRAINING link with an adopted group enters UP. -/
def State.enterUp (s : State) (p : Port) (h : Half) : State :=
  s.withLink p h fun l =>
    match l.agree.active with
    | none => s
    | some g =>
      let s1 := s.modPort p fun q => q.applyGroup h g.lanes l.align.skew
      let s2 := s1.storeContext p h l.far g
      let s3 := s2.moveLink p h (some l) (some (l.toUp s.recheckTimer)) .trained .trained
      let s4 := s3.postLink p h (.linkUp g l.map)
      (s4.setScore p h l.sup.score).updateRegroup p h

/-! ### ALIGN (R116) -/

/-- R116: whether a link in ALIGN enters UP: a SENIOR or SELF end that has adopted, a JUNIOR end that has
adopted and whose reference lane hears LINK. -/
def PortUnit.alignDone (q : PortUnit) (h : Half) (l : Link) : Bool :=
  l.agree.active.isSome && l.agree.accept &&
    (l.agree.role != some .junior ||
      (match q.reference h l with
       | some k => k.phase == .link
       | none => false))

/-- R116: the test for entry to UP. -/
def State.alignTest (s : State) (p : Port) (h : Half) : State :=
  s.withLink p h fun l => if (s.port p).alignDone h l then s.enterUp p h else s

/-- R89, R116: one run of the protocol at a link in ALIGN. -/
def State.alignRun (restart : Restart) (s : State) (p : Port) (h : Half) : State :=
  s.withLink p h fun l =>
    match (s.port p).runProtocol h l with
    | none => s.countFailure restart p h .tooNarrow
    | some k => (s.setLink p h (some k)).alignTest p h

/-! ### DESKEW (R115) -/

/-- R115: the results of a DESKEW computation taken into a link of span `n`. -/
def Link.deskewed (l : Link) (n : Nat) (r : AlignResult) : Link :=
  { l with
    align := { l.align with skew := r.skew, windowLane := r.windowLane, spread := r.spread }
    marks := { l.marks with
      rejDeskew := r.rejected ||| laneSet fun i =>
        decide (i < n) && !LaneSet.has l.marks.weak i && (laneAt r.skew i).isNone }
    training := { l.training with stage := some .align, deskew := {} } }

/-- R115, R116: the collection of DESKEW has ended; the computation runs and ALIGN begins. -/
def State.endDeskew (restart : Restart) (s : State) (p : Port) (h : Half) : State :=
  s.withLink p h fun l =>
    (s.setLink p h (some (l.deskewed ((s.port p).span h) (alignment l.training.deskew.stamped)))).alignRun
      restart p h

/-- R115: DESKEW ends once every remaining lane has delivered its stamp. -/
def State.deskewTest (restart : Restart) (s : State) (p : Port) (h : Half) : State :=
  s.withLink p h fun l =>
    if l.training.stage = some .deskew ∧ l.training.deskew.complete = true then s.endDeskew restart p h else s

/-- R95, R118: the lanes that have left the usable set are dropped from the collection. -/
def State.deskewDrop (restart : Restart) (s : State) (p : Port) (h : Half) : State :=
  (s.modLink p h fun l =>
    { l with training := { l.training with
        deskew := l.training.deskew.restrict ((s.port p).usable h l) } }).deskewTest restart p h

/-! ### EQUALIZE (R111 to R114) -/

/-- R114, R115: EQUALIZE ends: the weak marks are set and DESKEW begins with its collection. DEDUCED: the minimum
grade is read now (R43, R114), also after an edit during this stage, where R51 speaks of the next one (log
entry 29); a lane outside the attempt is weak also after a retained dwell (log entry 11). -/
def State.endEqualize (restart : Restart) (s : State) (p : Port) (h : Half) : State :=
  let q := s.port p
  let weak := laneSet fun r => decide (r < q.span h) &&
    (match (q.rel h r).best with
     | some g => decide (g < q.minGrade h)
     | none => true)
  (s.modLink p h fun l =>
    let k := { l with marks := { l.marks with weak := weak } }
    { k with training := { k.training with
        stage := some .deskew, dwell := none, dwellTimer := none
        deskew := Collection.begin (q.usable h k) } }).deskewTest restart p h

/-- R112, R113: the chosen preset of each lane of a set, and of no other lane. -/
def PortUnit.choosePresets (q : PortUnit) (h : Half) (S : LaneSet) (f : Nat → Nat) : PortUnit :=
  q.mapHalf h fun r x => if LaneSet.has S r then { x with preset := f r } else x

/-- The preset at position `k` of a list, counted from 1. -/
def presetAt (L : List Nat) (k : Nat) : Nat := (L[k - 1]?).getD 0

/-- R113: the dwell at position `k` of the preset list in use begins. -/
def State.beginListDwell (s : State) (p : Port) (h : Half) (k : Nat) : State :=
  s.withLink p h fun l =>
    (s.modPort p fun q =>
      q.choosePresets h l.training.attemptLanes fun _ => presetAt l.training.presets k).modLink p h fun l =>
        { l with training := { l.training with dwell := some (.list k), dwellTimer := s.timer 2 } }

/-- R112: the retained dwell begins with a copy of the context. -/
def State.beginRetained (s : State) (p : Port) (h : Half) (c : Context) : State :=
  s.withLink p h fun l =>
    (s.modPort p fun q =>
      q.choosePresets h l.training.attemptLanes fun r => (laneAt c.presets r).getD 0).modLink p h fun l =>
        { l with training := { l.training with
            context := some c, dwell := some .retained, dwellTimer := s.timer 2 } }

/-- R111 (1) to (3): the context of the position when it may be used for these attempt lanes. -/
def State.usableContext (s : State) (p : Port) (h : Half) (l : Link) (lanes : LaneSet) : Option Context :=
  match (s.pos p h).context with
  | some c => if some c.far = l.far ∧ LaneSet.within lanes c.group.lanes = true then some c else none
  | none => none

/-- The best grade of every lane of a half's span cleared. -/
def PortUnit.clearBest (q : PortUnit) (h : Half) : PortUnit := q.mapHalf h fun _ x => { x with best := none }

/-- R111: EQUALIZE begins. -/
def State.beginEqualize (restart : Restart) (s : State) (p : Port) (h : Half) : State :=
  s.withLink p h fun l =>
    let q := s.port p
    let lanes := q.usable h l
    let list := q.effectiveList (q.expectation h)
    let t := (s.modPort p fun q => q.clearBest h).modLink p h fun l =>
      { l with training := { l.training with attemptLanes := lanes, presets := list } }
    if lanes = 0 then t.endEqualize restart p h
    else
      match s.usableContext p h l lanes with
      | some c => t.beginRetained p h c
      | none => t.beginListDwell p h 1

/-- R112: the retained dwell succeeds: every attempt lane usable, each heard grade not below the minimum, which is
read now (DEDUCED, log entry 29). -/
def PortUnit.retainedSucceeds (q : PortUnit) (h : Half) (l : Link) : Bool :=
  (LaneSet.members l.training.attemptLanes).all fun r =>
    LaneSet.has (q.usable h l) r &&
      (match (q.rel h r).heard with
       | some k => decide (q.minGrade h ≤ k.grade)
       | none => false)

/-- R112: the best grades set from the heard grades of the attempt lanes. -/
def PortUnit.takeGrades (q : PortUnit) (h : Half) (S : LaneSet) : PortUnit :=
  q.mapHalf h fun r x => if LaneSet.has S r then { x with best := x.heard.map fun k => k.grade } else x

/-- R112: the retained dwell ends. -/
def State.endRetained (restart : Restart) (s : State) (p : Port) (h : Half) : State :=
  s.withLink p h fun l =>
    if (s.port p).retainedSucceeds h l then
      (s.modPort p fun q => q.takeGrades h l.training.attemptLanes).endEqualize restart p h
    else (s.modPort p fun q => q.clearBest h).beginListDwell p h 1

/-- R113: the grades recorded at the end of the dwell at position `k`. -/
def PortUnit.recordGrades (q : PortUnit) (h : Half) (l : Link) (k : Nat) : Vector (Vector (Option Nat) 4) 8 :=
  laneVector fun r =>
    if LaneSet.has l.training.attemptLanes r && LaneSet.has (q.usable h l) r then
      match (q.rel h r).heard with
      | some x => (laneAt l.training.grades r).set (Fin.ofNat 4 (k - 1)) (some x.grade)
      | none => laneAt l.training.grades r
    else laneAt l.training.grades r

/-- R114: the highest grade recorded over a preset list, with its preset; the earliest tried of a tie. -/
def bestOf (row : Vector (Option Nat) 4) (list : List Nat) : Option (Nat × Nat) :=
  (list.zipIdx).foldl (fun best x =>
    match row[Fin.ofNat 4 x.2], best with
    | some g, none => some (g, x.1)
    | some g, some b => if b.1 < g then some (g, x.1) else some b
    | none, b => b) none

/-- R114: the best grade and chosen preset of each attempt lane after the list dwells. -/
def PortUnit.takeBest (q : PortUnit) (h : Half) (t : Training) : PortUnit :=
  q.mapHalf h fun r x =>
    if LaneSet.has t.attemptLanes r then
      match bestOf (laneAt t.grades r) t.presets with
      | some b => { x with best := some b.1, preset := b.2 }
      | none => { x with best := none, preset := presetAt t.presets 1 }
    else x

/-- R113, R114: the list dwell at position `k` ends. -/
def State.endListDwell (restart : Restart) (s : State) (p : Port) (h : Half) (k : Nat) : State :=
  s.withLink p h fun l =>
    let t := s.modLink p h fun l =>
      { l with training := { l.training with grades := (s.port p).recordGrades h l k } }
    if k < l.training.presets.length then t.beginListDwell p h (k + 1)
    else
      t.withLink p h fun l => (t.modPort p fun q => q.takeBest h l.training).endEqualize restart p h

/-! ### The start of an attempt (R109, R110) -/

/-- R107: training is permitted. -/
def PortUnit.permitted (q : PortUnit) (h : Half) (l : Link) : Bool :=
  l.grant ||
    (match q.expectation h with
     | some e => e.autoTrain
     | none => false)

/-- R110 (1) to (4): the link record as the link enters TRAINING. -/
def Link.toTraining (l : Link) (timer : Option Timer) : Link :=
  { l with
    state := .training, agree := { role := l.agree.role }, marks := {}, align := {}
    training := { stage := some .equalize, timer := timer, lastFailure := l.training.lastFailure }
    sup := { l.sup with trainings := satAdd 65535 l.sup.trainings 1 } }

/-- R110: a VERIFIED link enters TRAINING and begins EQUALIZE. The start test has found a lane CONFIRMED
with the far identity, so the attempt lanes are not empty and no failure follows within this event. -/
def State.enterTraining (s : State) (p : Port) (h : Half) (l : Link) : State :=
  (s.moveLink p h (some l) (some (l.toTraining (s.timer s.timing.timeout))) .start .start).beginEqualize
    (fun t _ _ => t) p h

/-- R109: the start test. -/
def State.startTest (s : State) (p : Port) (h : Half) : State :=
  s.withLink p h fun l =>
    if l.state = .verified ∧ (s.port p).permitted h l = true ∧ (s.port p).farReady h l = true then
      s.enterTraining p h l
    else s

/-! ### The protocol while UP (R90, R92, R129) and the recheck (R103 to R105) -/

/-- R90, R91: the link record after an adoption while UP replaces the group `old` by `new`. -/
def Link.shedTo (l : Link) (old new : Group) : Link :=
  { l with
    agree := { l.agree with shed := l.agree.shed ||| (old.lanes &&& ~~~new.lanes) }
    align := { l.align with recheck := l.align.recheck.restrict new.lanes } }

/-- R90: an adoption while UP of a group that differs from the one held before. -/
def State.adoptUp (s : State) (p : Port) (h : Half) (l : Link) (old new : Group) : State :=
  (((s.setLink p h (some (l.shedTo old new))).modPort p fun q =>
      q.applyGroup h new.lanes l.align.skew).postLink p h
    (.widthChange new (l.shedTo old new).agree.shed))

/-- R129, R92: an UP link goes down to CHECKING with reason LANE_LOSS or SKEW_DRIFT. -/
def State.loseLanes (s : State) (p : Port) (h : Half) (reason : Reason) : State :=
  s.withLink p h fun l => s.linkDown p h l (l.toChecking s.uptime) reason reason

/-- One run of the protocol at an UP link, less the end of a recheck it may complete; `reason` is the reason
of a narrow condition it finds (R88). -/
def State.upRun (s : State) (p : Port) (h : Half) (reason : Reason) : State :=
  s.withLink p h fun l =>
    match (s.port p).runProtocol h l with
    | none => s.loseLanes p h reason
    | some k =>
      let t := match l.agree.active, k.agree.active with
        | some old, some new => if old = new then s.setLink p h (some k) else s.adoptUp p h k old new
        | _, _ => s.setLink p h (some k)
      t.updateRegroup p h

/-- R104, R105: the link record after a recheck. -/
def Link.rechecked (l : Link) (now : Uptime) (r : AlignResult) : Link :=
  { l with
    align := { l.align with
      skew := r.skew, windowLane := r.windowLane, spread := r.spread, recheckState := .idle
      recheck := {}, lastOutcome := if r.rejected = 0 then .kept else .shed, lastTime := some now }
    marks := { l.marks with rejRecheck := l.marks.rejRecheck ||| r.rejected } }

/-- R103 to R105: a recheck whose remaining lanes have all delivered their stamps ends, KEPT or SHED. -/
def State.recheckTest (s : State) (p : Port) (h : Half) : State :=
  s.withLink p h fun l =>
    if l.state = .up ∧ l.align.recheckState = .collecting ∧ l.align.recheck.complete = true then
      let r := alignment l.align.recheck.stamped
      let t := s.setLink p h (some (l.rechecked s.uptime r))
      if r.rejected = 0 then
        t.modPort p fun q => q.applyGroup h (groupLanes l.agree.active) r.skew
      else t.upRun p h .skewDrift
    else s

/-- R89: the protocol runs at an UP link; an adoption may complete a recheck in flight. -/
def State.upProtocol (s : State) (p : Port) (h : Half) : State :=
  s.inEvent fun t => (t.upRun p h .laneLoss).recheckTest p h

/-- R103: a recheck begins over the lanes of the active group. -/
def State.beginRecheck (s : State) (p : Port) (h : Half) : State :=
  (s.modLink p h fun l => { l with align := { l.align with
      recheckState := .collecting, recheck := Collection.begin (groupLanes l.agree.active) } }).recheckTest p h

end Sys2Proof.Machine
end

