-- ==== Sys2Proof/Machine/Supervision.lean ====
section
/-! DEFINITION. Verdict outcomes, isolation and recovery, the health score, and what lane events do to
links (Chapters 4 and 8). -/

namespace Sys2Proof.Machine

open Sys2Proof

/-! ### Outcomes of a verdict (R67 to R70) -/

/-- R140: the residue of a position set. -/
def State.setResidue (s : State) (p : Port) (h : Half) (r : Option Nat) : State :=
  s.modPos p h fun x => { x with residue := r }

/-- R135: a link enters ISOLATED from `old`, `new` being its record there; the ISOLATED notice follows what
`between` posts. -/
def State.enterIsolated (s : State) (p : Port) (h : Half) (old : Option Link) (new : Link) (down hist : Reason)
    (between : State → State) : State :=
  (between (s.moveLink p h old (some new) down hist)).postLink p h
    (.isolated (new.sup.isoCause.getD down) new.sup.score)

/-- The port whose event a command is: of its presence, its cable, its lanes or a timer of it. -/
def eventPort (i : Instr) : Option Port :=
  match i with
  | .presenceSample p => some p
  | .presNChange p _ => some p
  | .acceptanceAtOnce p => some p
  | .noAnswer p => some p
  | .descriptorAnswered p .. => some p
  | .markTransmit p _ => some p
  | .signalGained p _ => some p
  | .signalLost p _ => some p
  | .markArrived p .. => some p
  | .syncMissing p _ => some p
  | .violations p _ => some p
  | .lockLost p _ => some p
  | .surveyWindowExpiry p => some p
  | .settleExpiry p => some p
  | .checkQuietExpiry p _ => some p
  | .checkBoundExpiry p _ => some p
  | .retainedDwellEnd p _ => some p
  | .listDwellEnd p _ => some p
  | .trainingTimerExpiry p _ => some p
  | .regroupTimerExpiry p _ => some p
  | .recheckTimerExpiry p _ => some p
  | .probeTimerExpiry p _ => some p
  | _ => none

/-- R2, R3: whether a command takes the presence of port `p`, accepted as present, to absent. -/
def State.removes (s : State) (p : Port) (i : Instr) : Bool :=
  let q := s.port p
  q.accepted &&
    (match i with
     | .presenceSample x => x == p && s.timing.debounce != .none && q.presN == .high && q.debounceCount != 0
     | .presNChange x level => x == p && s.timing.debounce == .none && level == .high
     | _ => false)

/-- R60: whether a removal of port `p` falls together with the command in progress. DEDUCED: it does when it waits in
the queue behind nothing but events of other ports (log entry 30). -/
def State.removalWaits (s : State) (p : Port) : Bool :=
  match s.pending.find? fun i => (eventPort i).all fun x => x == p with
  | some i => s.removes p i
  | none => false

/-- R60, R109: whether the start test is not made at the entry to VERIFIED: the link is being created (`old` none) and
a removal of its port falls together with the end of its survey, so that it never is TRAINING. -/
def State.noStart (s : State) (p : Port) (old : Option Link) : Bool := old.isNone && s.removalWaits p

/-- R67 to R70: the verdict of a link that is not held in place by it: a link at its creation (`old` none),
a link ending CHECKING, and a BLOCKED link re-evaluated. `l` is the link without what it leaves behind;
`hist` is the history reason where the rule that asks for the verdict fixes it (PLAN_CHANGE). -/
def State.giveVerdict (s : State) (p : Port) (h : Half) (old : Option Link) (l : Link) (hist : Option Reason) : State :=
  let o := (s.port p).observe h
  let t := s.verdictContext p h o
  match s.checks p h o none with
  | some r =>
    (t.moveLink p h old (some (l.failed o r)) r (hist.getD r)).postLink p h (o.notice .blocked (some r))
  | none =>
    let k := s.passed p h o l
    match (s.pos p h).residue with
    | none =>
      let u := (t.moveLink p h old (some { k with state := .verified }) .pass (hist.getD .pass)).postLink p h
        (o.notice .verified none)
      if s.noStart p old then u else u.startTest p h
    | some score =>
      let new := k.toIsolated s.uptime ((s.port p).confirmedSet h k.far) .residue score
      (t.setResidue p h none).enterIsolated p h old new .residue (hist.getD .residue) fun u =>
        u.postLink p h (o.notice .isolated none)

/-- R61: a link is created at the end of survey and receives its first verdict. -/
def State.createLink (s : State) (p : Port) (h : Half) : State := s.giveVerdict p h none {} none

/-- R74: the verdict that ends CHECKING. -/
def State.endChecking (s : State) (p : Port) (h : Half) : State :=
  s.withLink p h fun l => if l.state = .checking then s.giveVerdict p h (some l) (l.leave s.uptime) none else s

/-- R50 to R52: the re-evaluation of a link held in VERIFIED, TRAINING or UP, after a plan edit. -/
def State.reevaluateHolder (s : State) (p : Port) (h : Half) (l : Link) : State :=
  let o := (s.port p).observe h
  let t := s.verdictContext p h o
  let upWidth := if l.state = .up then some (groupWidth l.agree.active) else none
  match s.checks p h o upWidth with
  | some r =>
    let u := (t.moveLink p h (some l) (some ((l.leave s.uptime).failed o r)) .planChange .planChange).postLink p h
      (o.notice .blocked (some r))
    if l.live then u.postLink p h (l.downNotice .planChange) else u
  | none =>
    let u := (t.setLink p h (some (s.passed p h o l))).postLink p h (o.notice l.state none)
    match l.state with
    | .verified => u.startTest p h
    | .up => u.upProtocol p h
    | .training =>
      match l.training.stage with
      | some .deskew => u.deskewDrop (fun t p h => t.startTest p h) p h
      | some .align => u.alignRun (fun t p h => t.startTest p h) p h
      | _ => u
    | _ => u

/-- R50, R52: a port's link re-evaluated after a plan edit that keeps the plan form. -/
def State.reevaluate (s : State) (p : Port) (h : Half) : State :=
  s.withLink p h fun l =>
    match l.state with
    | .checking => s
    | .isolated => s
    | .blocked =>
      s.giveVerdict p h (some l)
        { l.leave s.uptime with attempts := if l.reason = some .trainFailed then 0 else l.attempts }
        (some .planChange)
    | _ => s.reevaluateHolder p h l

/-- R54: a link BLOCKED with a reason other than TRAIN_FAILED re-evaluated after TAG. -/
def State.retag (s : State) (p : Port) (h : Half) : State :=
  s.withLink p h fun l =>
    if l.state = .blocked ∧ l.reason ≠ some .trainFailed then s.giveVerdict p h (some l) (l.leave s.uptime) none
    else s

/-! ### Isolation and recovery (R133 to R137) -/

/-- R133: an UP link whose score has reached 255 is isolated. -/
def State.isolateByHealth (s : State) (p : Port) (h : Half) : State :=
  s.withLink p h fun l =>
    let old := { l with sup := { l.sup with score := 255 } }
    let probes := groupLanes l.agree.active ||| (s.port p).usable h l
    s.enterIsolated p h (some old) (old.toIsolated s.uptime probes .health 127) .health .health fun u =>
      u.postLink p h (l.downNotice .health)

/-- R134: a link isolated by request. -/
def State.isolateByHost (s : State) (p : Port) (h : Half) (l : Link) : State :=
  let q := s.port p
  let probes := if l.state = .up then groupLanes l.agree.active ||| q.usable h l else q.confirmedSet h l.far
  let new := l.toIsolated s.uptime probes .hostIsolate 127
  let new := if l.state = .blocked ∧ l.reason = some .trainFailed then { new with attempts := 0 } else new
  s.enterIsolated p h (some l) new .hostIsolate .hostIsolate fun u =>
    if l.live then u.postLink p h (l.downNotice .hostIsolate) else u

/-- R136, R77: a probe is clean when every lane of the probe set is CONFIRMED with the link's far identity, no bad
mark came, and no held identity of a probe lane has changed since the last probe. DEDUCED: the probe after such a
change is unclean whatever far identity the link holds, and later ones go by condition (1) of R136 (log entry 33). -/
def PortUnit.probeClean (q : PortUnit) (h : Half) (l : Link) : Bool :=
  !l.sup.probeDirty && !l.sup.probeChange &&
    (LaneSet.members l.sup.probeSet).all fun r => (q.rel h r).confirmedWith l.far

/-- R136: the link record after a probe. -/
def Link.probed (l : Link) (now : Uptime) (clean : Bool) : Link :=
  { l with sup := { l.sup with
      score := if clean then l.sup.score - 1 else l.sup.score
      probesMade := satAdd 65535 l.sup.probesMade 1
      probesClean := if clean then satAdd 65535 l.sup.probesClean 1 else l.sup.probesClean
      probeDirty := false, probeChange := false, probeTimer := some ⟨now, 10⟩ } }

/-- R137: the recovery of an ISOLATED link whose score has reached 0 ends with a verdict. A pass at a position
that holds a residue is taken back into ISOLATED by R67 and recovers nothing (log entry 10). -/
def State.endRecovery (s : State) (p : Port) (h : Half) : State :=
  s.withLink p h fun l =>
    let o := (s.port p).observe h
    let t := s.verdictContext p h o
    match s.checks p h o none with
    | some r =>
      (t.moveLink p h (some l) (some ((l.leave s.uptime).failed o r)) r r).postLink p h
        (o.notice .blocked (some r))
    | none =>
      let k := s.passed p h o (l.leave s.uptime)
      match (s.pos p h).residue with
      | none =>
        (((t.moveLink p h (some l) (some { k with state := .verified }) .recovered .recovered).postLink p h
          (o.notice .verified none)).postLink p h (.recovered k.far)).startTest p h
      | some score =>
        let new := k.toIsolated s.uptime ((s.port p).confirmedSet h k.far) .residue score
        (t.setResidue p h none).enterIsolated p h (some l) new .residue .residue fun u =>
          u.postLink p h (o.notice .isolated none)

/-- R136, R137: one recovery probe. -/
def State.probe (s : State) (p : Port) (h : Half) : State :=
  s.withLink p h fun l =>
    let clean := (s.port p).probeClean h l
    let k := l.probed s.uptime clean
    let t := s.setLink p h (some k)
    if clean && k.sup.score == 0 then t.endRecovery p h else t

/-! ### The health score while UP (R126 to R128) -/

/-- R127, R133: the score of an UP link raised or lowered; 255 isolates the link. -/
def State.scoreTo (s : State) (p : Port) (h : Half) (score : Nat) : State :=
  if 255 ≤ score then s.isolateByHealth p h else s.setScore p h score

/-- R126: the counts of the active lanes of a link. -/
def activeCounts (h : Half) (active : LaneSet) (counts : Vector Nat 8) : List Nat :=
  (LaneSet.members active).map fun r => counts[physLane h r]

/-- R126: an interval of an UP link judged dirty or clean, unless it was in progress at the entry to UP. -/
def State.judgeInterval (s : State) (p : Port) (h : Half) (counts : Vector Nat 8) : State :=
  s.withLink p h fun l =>
    if l.state ≠ .up then s
    else if !l.sup.judging then s.modLink p h fun k => { k with sup := { k.sup with judging := true } }
    else
      let cs := activeCounts h (groupLanes l.agree.active) counts
      let t := s.modLink p h fun k =>
        { k with sup := { k.sup with violations := satAdd 4294967295 k.sup.violations cs.sum } }
      if cs.any fun c => decide (0 < c) then t.scoreTo p h (satAdd 255 l.sup.score 8)
      else t.scoreTo p h (l.sup.score - 1)

/-- R103: a recheck in flight is abandoned by a lock loss on one of its lanes. -/
def Link.abandonRecheck (l : Link) (now : Uptime) (r : Nat) : Link :=
  if l.align.recheckState = .collecting ∧ LaneSet.has l.align.recheck.lanes r = true then
    { l with align := { l.align with
        recheckState := .idle, recheck := {}, lastOutcome := .abandoned, lastTime := some now } }
  else l

/-- R82: the lock-lost mark of a relative lane set. -/
def Link.markLockLost (l : Link) (r : Nat) : Link :=
  { l with marks := { l.marks with lockLost := l.marks.lockLost ||| laneBit r true } }

/-- R128: a lock lost report on a lane of the link's span. -/
def State.lockLostAt (s : State) (p : Port) (h : Half) (r : Nat) : State :=
  let t := s.modLink p h fun l => { l with sup := { l.sup with lockLosses := satAdd 65535 l.sup.lockLosses 1 } }
  t.withLink p h fun l =>
    if l.state ≠ .up then t
    else
      let active := LaneSet.has (groupLanes l.agree.active) r
      if active && decide (255 ≤ satAdd 255 l.sup.score 32) then t.isolateByHealth p h
      else
        t.inEvent fun t =>
          let u := if active then t.setScore p h (satAdd 255 l.sup.score 32) else t
          (u.modLink p h fun k => (k.abandonRecheck s.uptime r).markLockLost r).upProtocol p h

/-! ### Lane change events at a link (R73 to R77, R118, R120, R130) -/

/-- R119: a counted failure followed by the start test. -/
def restartByTest : Restart := fun t p h => t.startTest p h

/-- R74: the quiet timer of a CHECKING link restarted, while less than 500 ms have passed. -/
def Link.restartQuiet (l : Link) (now : Uptime) : Link :=
  match l.checkEntry with
  | some e => if (now - e).toNat < 500 then { l with quiet := some ⟨now, 20⟩ } else l
  | none => l

/-- R77: a far-end change on a lane of a TRAINING or UP link. -/
def State.farEndChange (s : State) (p : Port) (h : Half) (l : Link) (new : LaneId) : State :=
  (s.linkDown p h l (l.toChecking s.uptime) .farEndChange .farEndChange).postLink p h (.farEndChange l.far new)

/-- R77, R136: a lane change event of the relative lane `r` at an ISOLATED link: a far-end change on a lane of the
probe set makes the next recovery probe unclean. DEDUCED: a lane outside the probe set does not (log entry 33). -/
def Link.noteProbeChange (l : Link) (r : Nat) (changed : Bool) : Link :=
  { l with sup := { l.sup with probeChange := l.sup.probeChange || (changed && LaneSet.has l.sup.probeSet r) } }

/-- R120, R130: the far end has left a TRAINING or UP link, which returns to VERIFIED. -/
def State.farEndLeft (s : State) (p : Port) (h : Half) (l : Link) : State :=
  (s.linkDown p h l (l.toVerified s.uptime) .farEndLeft .farEndLeft).startTest p h

/-- R118: a lane change event at a TRAINING link, its far-end change flag clear. -/
def State.trainingEvent (s : State) (p : Port) (h : Half) (l : Link) (items : LaneItems) : State :=
  if items.phase && (s.port p).farFellBack h l then s.farEndLeft p h l
  else
    match l.training.stage with
    | some .deskew => s.deskewDrop restartByTest p h
    | some .align =>
      if items.runsProtocol then s.alignRun restartByTest p h
      else if items.phase then s.alignTest p h
      else s
    | _ => s

/-- R130, R131: a lane change event at an UP link, its far-end change flag clear. -/
def State.upEvent (s : State) (p : Port) (h : Half) (l : Link) (items : LaneItems) : State :=
  if items.phase && (s.port p).farLeft h l then s.farEndLeft p h l
  else if items.runsProtocol then s.upProtocol p h
  else s

/-- R73 to R77, R118, R131, R138: a lane change event of the relative lane `r` at its link. `newId` is the lane's
new held identity where the far-end change flag is set. -/
def State.linkEvent (s : State) (p : Port) (h : Half) (r : Nat) (items : LaneItems) (newId : Option LaneId) :
    State :=
  s.withLink p h fun l =>
    match l.state with
    | .checking => s.setLink p h (some (l.restartQuiet s.uptime))
    | .verified =>
      if newId.isSome then s.enterChecking p h l .farEndChange
      else if items.verdictChange then s.enterChecking p h l .laneChange
      else if items.phase then s.startTest p h
      else s
    | .blocked => if l.reason = some .trainFailed then s else s.enterChecking p h l .laneChange
    | .training =>
      match newId with
      | some id => s.farEndChange p h l id
      | none => s.trainingEvent p h l items
    | .up =>
      match newId with
      | some id => s.farEndChange p h l id
      | none => s.upEvent p h l items
    | .isolated => s.setLink p h (some (l.noteProbeChange r newId.isSome))

/-- R38, R95: a stamp report of a relative lane at its link. -/
def State.stampEvent (s : State) (p : Port) (h : Half) (r stamp : Nat) : State :=
  s.withLink p h fun l =>
    if l.state = .training ∧ l.training.stage = some .deskew then
      (s.modLink p h fun k => { k with training := { k.training with
        deskew := k.training.deskew.take r stamp } }).deskewTest restartByTest p h
    else if l.state = .up ∧ l.align.recheckState = .collecting then
      (s.modLink p h fun k => { k with align := { k.align with
        recheck := k.align.recheck.take r stamp } }).recheckTest p h
    else s

/-- R38, R136: a bad mark report of a relative lane at its link. -/
def State.badMarkEvent (s : State) (p : Port) (h : Half) (r : Nat) : State :=
  s.modLink p h fun l =>
    if l.state = .isolated ∧ LaneSet.has l.sup.probeSet r = true then
      { l with sup := { l.sup with probeDirty := true } }
    else l

end Sys2Proof.Machine
end

