-- ==== Sys2Proof/Machine/Ports.lean ====
section
/-! DEFINITION. The Port Unit and Mode Control: presence, the descriptor read, survey, removal, mode
changes and RESTART (Chapters 1, 4 and 10). -/

namespace Sys2Proof.Machine

open Sys2Proof

/-! ### Entry to SURVEY and its end (R57 to R61) -/

/-- R57: both survey timers started now. -/
def State.startSurveyTimers (s : State) (p : Port) : State :=
  s.modPort p fun q => { q with windowTimer := s.timer s.timing.window, settleTimer := s.timer 20 }

/-- R57: both survey timers stopped. -/
def PortUnit.stopSurvey (q : PortUnit) : PortUnit := { q with windowTimer := none, settleTimer := none }

/-- R7, R31, R57: a port enters SURVEY. -/
def State.enterSurvey (s : State) (p : Port) (cause : Reason) : State :=
  ((s.portTo p .survey cause).modPort p fun q => q.clearForSurvey).startSurveyTimers p

/-- R58: the settle timer restarted by a lane change event. -/
def State.restartSettle (s : State) (p : Port) : State :=
  s.modPort p fun q => { q with settleTimer := s.timer 20 }

/-- R58: every lane within a span of the port is CONFIRMED. -/
def PortUnit.settled (q : PortUnit) : Bool :=
  allLanes.all fun i => !q.inSpan i || (q.lane i).rx.status == .confirmed

/-- R61: the survey ends: the port enters ASSIGNED and its links are created, half A before half B. -/
def State.endSurvey (s : State) (p : Port) : State :=
  let t := (s.portTo p .assigned .surveyEnd).modPort p fun q =>
    q.stopSurvey.mapLanes fun _ x => q.clearLinkPart x
  t.inEvent fun u =>
    let v := u.createLink p .A
    if (s.port p).isSplit then v.createLink p .B else v

/-! ### Presence (R2 to R4, R9) -/

/-- R4: a cable accepted as present on an EMPTY port. -/
def State.cableIn (s : State) (p : Port) : State :=
  ((s.modPort p fun q => { q with accepted := true, readAttempt := 1 }).portTo p .seating .cableIn).postPort p
    .cableIn

/-- R123: the retained contexts of a port's two positions invalidated. -/
def State.dropContexts (s : State) (p : Port) : State :=
  s.modPort p fun q =>
    { q with posA := { q.posA with context := none }, posB := { q.posB with context := none } }

/-- R141: the isolation residues of a port's two positions cleared. -/
def State.dropResidues (s : State) (p : Port) : State :=
  s.modPort p fun q =>
    { q with posA := { q.posA with residue := none }, posB := { q.posB with residue := none } }

/-- R9 step 3, R11 step 3, R19: lanes silenced, lane records cleared, read and survey abandoned. -/
def PortUnit.abandon (q : PortUnit) : PortUnit := { q.silence.clearLanes.stopSurvey with readAttempt := 0 }

/-- R9: a removal takes the port back to EMPTY. -/
def State.cableOut (s : State) (p : Port) : State :=
  let left := (s.port p).state
  let t := (((s.removeLinks p .cableOut).dropResidues p).dropContexts p).modPort p fun q => q.abandon
  ((t.modPort p fun q => { q with desc := none, fault := none, accepted := false }).portTo p .empty
    .cableOut).postPort p (.cableOut left)

/-- R3, R4, R9: a level taken as the accepted presence acts when it changes it. -/
def State.acceptPresence (s : State) (p : Port) (present : Bool) : State :=
  let q := s.port p
  if q.accepted = present then s
  else if present then
    if q.state = .empty then s.cableIn p else s
  else if q.state = .off ∨ q.state = .empty then s
  else s.cableOut p

/-- The presence a PRES_N level shows: low when a cable is seated. -/
def PortUnit.linePresent (q : PortUnit) : Bool := q.presN == .low

/-- R2: one sample of PRES_N. -/
def State.sample (s : State) (p : Port) : State :=
  let q := s.port p
  if q.linePresent = q.accepted then s.modPort p fun q => { q with debounceCount := 0 }
  else if q.debounceCount = 0 then s.modPort p fun q => { q with debounceCount := 1 }
  else (s.modPort p fun q => { q with debounceCount := 0 }).acceptPresence p q.linePresent

/-- R3: the change of the debounce period at one port: count 0, a new grid, and with NONE the level of
PRES_N taken at once. -/
def State.newDebounce (s : State) (p : Port) : State :=
  let t := s.modPort p fun q => { q with debounceCount := 0, gridStart := s.uptime }
  if s.timing.debounce = .none ∧ (s.port p).state ≠ .off then t.acceptPresence p (s.port p).linePresent else t

/-! ### The descriptor read (R5 to R7) -/

/-- R7: a read that ends as failed. -/
def State.readFailed (s : State) (p : Port) (reason : Reason) : State :=
  let attempts := (s.port p).readAttempt
  ((s.modPort p fun q => { q with fault := some reason, readAttempt := 0 }).portTo p .cableFault reason).postPort p
    (.cableFault reason attempts)

/-- R5: an attempt that fails with NO_ANSWER or BAD_CHECK: the next one, or the end of the read. -/
def State.attemptFailed (s : State) (p : Port) (reason : Reason) : State :=
  if (s.port p).readAttempt < 3 then s.modPort p fun q => { q with readAttempt := q.readAttempt + 1 }
  else s.readFailed p reason

/-- R7: a read that ends with usable contents. -/
def State.readGood (s : State) (p : Port) (d : Descriptor) : State :=
  let t := s.modPort p fun q => { q with desc := some d, readAttempt := 0 }
  match s.mode with
  | .setup => t.portTo p .seated .readGood
  | .active => t.enterSurvey p .readGood

/-! ### Port commands (R11 to R13) -/

/-- R11 steps 5 and 6: the focus and the locate selection cleared where they name the port. -/
def State.unname (s : State) (p : Port) : State :=
  { s with
    focus := if s.focus = some p then none else s.focus
    locate := if s.locate = some p then none else s.locate
    blinkOn := if s.locate = some p then false else s.blinkOn }

/-- R11: PORT_OFF on one port. -/
def State.portOff (s : State) (p : Port) : State :=
  if (s.port p).state = .off then s.unname p
  else
    let t := ((s.removeLinks p .portOff).dropResidues p).modPort p fun q => q.abandon
    ((t.modPort p fun q =>
        { q with desc := none, fault := none, accepted := false, debounceCount := 0, enabled := false }).portTo p
      .off .portOff).unname p

/-- R12: PORT_ON on one port. With the period NONE a cable already seated is accepted by the command
ACCEPTANCE_AT_ONCE, an event after the request, as that row of spec/opcode_table.json says. -/
def State.portOn (s : State) (p : Port) : State :=
  if (s.port p).state = .off then
    (s.modPort p fun q => { q with enabled := true, accepted := false, debounceCount := 0 }).portTo p .empty .portOn
  else s

/-- R13: whether a port is eligible for RESURVEY. -/
def PortState.resurveys (x : PortState) : Bool :=
  match x with
  | .survey => true
  | .assigned => true
  | .cableFault => true
  | .off => false
  | .empty => false
  | .seating => false
  | .seated => false

/-- R13: RESURVEY on an eligible port; a port in another state is left as it is. -/
def State.resurvey (s : State) (p : Port) : State :=
  match (s.port p).state with
  | .survey => s.startSurveyTimers p
  | .assigned => ((s.removeLinks p .resurvey).dropContexts p).enterSurvey p .resurvey
  | .cableFault => (s.modPort p fun q => { q with fault := none, readAttempt := 1 }).portTo p .seating .resurvey
  | .off => s
  | .empty => s
  | .seating => s
  | .seated => s

/-! ### The effect of a plan edit (R48 to R50) -/

/-- R48 to R50: an edit that replaces the port's entry by `entry` and takes effect on the port. DEDUCED: a residue
already held by the position of an ISOLATED link stays when a change of plan form removes the link, as R141 keeps
residues through plan edits, where R49 says that none is left for the position (log entry 35). -/
def State.editPlan (s : State) (p : Port) (entry : Option PlanEntry) : State :=
  let before := (s.port p).planForm
  let t := (s.dropContexts p).modPort p fun q => { q with plan := entry }
  if (s.port p).state ≠ .assigned then t
  else if (t.port p).planForm ≠ before then (t.removeLinks p .planChange).enterSurvey p .planChange
  else t.inEvent fun u => (u.reevaluate p .A).reevaluate p .B

/-! ### Mode changes and RESTART (R157, R158, R161) -/

/-- R157 (2): a SEATED port enters SURVEY. -/
def State.activatePort (s : State) (p : Port) : State :=
  if (s.port p).state = .seated then s.enterSurvey p .modeActive else s

/-- R157: MODE ACTIVE carried out. -/
def State.activate (s : State) : State :=
  (({ s with mode := .active }).forPorts fun t p => t.activatePort p).post none none (.modeChange .setup .active)

/-- R140: the score of an ISOLATED link stored as the residue of its position. -/
def State.keepResidue (s : State) (p : Port) (h : Half) : State :=
  s.withLink p h fun l => if l.state = .isolated then s.setResidue p h (some l.sup.score) else s

/-- R158 step 3, R10: a port in SURVEY or ASSIGNED enters SEATED. -/
def State.seatPort (s : State) (p : Port) : State :=
  if (s.port p).state = .survey ∨ (s.port p).state = .assigned then
    (s.modPort p fun q => q.silence.clearLanes.stopSurvey).portTo p .seated .modeSetup
  else s

/-- R158: MODE SETUP carried out. -/
def State.deactivate (s : State) : State :=
  let s1 := s.forPositions fun t p h => t.keepResidue p h
  let s2 := s1.inEvent fun t => t.forPorts fun u p => u.removeLinks p .modeSetup
  let s3 := s2.forPorts fun t p => t.seatPort p
  ({ s3 with mode := .setup }).post none none (.modeChange .active .setup)

/-- R19: RESTART at one port. -/
def State.restartPort (s : State) (p : Port) : State :=
  if (s.port p).state = .off then s
  else
    let t := s.modPort p fun q => { q.abandon with desc := none, fault := none, accepted := false, debounceCount := 0 }
    if (s.port p).state = .empty then t else t.portTo p .empty .restart

/-- R161: RESTART carried out. -/
def State.restart (s : State) : State :=
  let s1 := ({ s with mode := .setup }).forPorts fun t p => t.removeLinks p .restart
  let s2 := s1.forPorts fun t p => t.restartPort p
  let s3 := s2.forPorts fun t p => (t.dropResidues p).dropContexts p
  { s3 with
    queue := [], overrun := 0, focus := none, framingErrors := 0, checkErrors := 0, dropped := 0
    locate := none, blinkOn := false }

end Sys2Proof.Machine
end

