-- ==== Sys2Proof/Machine/LaneEvents.lean ====
section
/-! DEFINITION. The events of the lane front ends: marks sent and received, signal, violations and lock
(Chapter 2, R126, R128). An event of a lane that is not processed (R26) moves only what the front end
itself tracks. -/

namespace Sys2Proof.Machine

open Sys2Proof

/-- A command that changes the state and cannot fail. -/
abbrev Outcome := Host.Outcome State Fault Refusal

/-! ### Forming marks (R21 to R25) -/

/-- R32: a lane's own identity. -/
def State.ownId (s : State) (p : Port) (i : Lane) : LaneId :=
  ⟨s.linkId p ((s.port p).laneHalf i), BitVec.ofNat 3 i.val⟩

/-- R23: the phase of a link's marks. -/
def PortUnit.linkPhase (q : PortUnit) (h : Half) (l : Link) : Phase :=
  match l.state with
  | .checking => .hold
  | .verified => if q.permitted h l then .ready else .hold
  | .blocked => .hold
  | .training => .train
  | .up => .link
  | .isolated => .hold

/-- R23, R25: the fields of a lane's mark that follow the link state: phase, usable set, proposal, accept. -/
def PortUnit.linkFields (q : PortUnit) (h : Half) : Phase × LaneSet × Option Group × Bool :=
  match q.state, (q.pos h).link with
  | .assigned, some l => (q.linkPhase h l, q.usable h l, l.agree.proposal, l.agree.accept)
  | .assigned, none => (.hold, 0, none, false)
  | _, _ => (.survey, q.confirmedSet h none, none, false)

/-- R20 to R25: the mark a transmitting lane begins, given its receive quality figure. -/
def State.formMark (s : State) (p : Port) (i : Lane) (quality : BitVec 4) : Mark :=
  let q := s.port p
  let h := q.laneHalf i
  let f := q.linkFields h
  { id := ⟨s.ownId p i, q.span h⟩
    tag := s.planTag, phase := f.1
    grade := if (q.lane i).signal then quality else 0
    usable := f.2.1, proposal := f.2.2.1, accept := f.2.2.2
    echo := (q.lane i).rx.held.map fun k => k.id.id }

/-- MARK_TRANSMIT (R21): the stamp counter passes 0 and every transmitting lane begins a mark. -/
def execMarkTransmit (p : Port) (quality : Vector (BitVec 4) 8) (s : State) : Outcome :=
  .next (s.modPort p fun q =>
    { q.mapLanes fun i x =>
        { x with txMark := if s.processed p i then some (s.formMark p i quality[i]).encode else none } with
      stampCounter := 0 })

/-! ### The receive record (R29, R32 to R36) -/

/-- R29: a valid arrival counted. -/
def RxRecord.countGood (x : RxRecord) : RxRecord := { x with good := satAdd 255 x.good 1, consecBad := 0 }

/-- R29: an invalid arrival counted. -/
def RxRecord.countBad (x : RxRecord) (f : MarkFailure) : RxRecord :=
  { x with bad := satAdd 255 x.bad 1, consecBad := satAdd 8 x.consecBad 1, lastFailure := some f }

/-- R34: the heard fields of a mark. -/
def Mark.heard (m : Mark) : Heard :=
  { tag := m.tag, phase := m.phase, grade := m.grade.toNat, usable := m.usable, proposal := m.proposal
    accept := m.accept }

/-- R33, R34: the status a mark's echo gives. -/
def Mark.status (m : Mark) (own : LaneId) : LaneStatus := if m.echo = some own then .confirmed else .marked

/-- R33 (2), R35 (2): the mark's identity becomes the held identity. -/
def RxRecord.accept (x : RxRecord) (m : Mark) (own : LaneId) (now : Uptime) (stamp : BitVec 10) : RxRecord :=
  { x with status := m.status own, held := some ⟨m.id, now, m.heard, stamp⟩, candidate := none, repeats := 0 }

/-- R33 (1), R35 (1): the mark's identity becomes the candidate. -/
def RxRecord.propose (x : RxRecord) (m : Mark) : RxRecord := { x with candidate := some m.id, repeats := 1 }

/-- R33 to R35: a valid mark at a record that is not QUIET, already counted. -/
def RxRecord.hear (x : RxRecord) (m : Mark) (own : LaneId) (now : Uptime) (stamp : BitVec 10) : RxRecord :=
  match x.held with
  | none => if x.candidate = some m.id then x.accept m own now stamp else x.propose m
  | some k =>
    if k.id = m.id then
      { x with
        status := m.status own, held := some { k with heard := m.heard, stamp := stamp }
        candidate := none, repeats := 0 }
    else if x.candidate = some m.id then x.accept m own now stamp
    else x.propose m

/-- R32 to R35: a valid arrival at a record. -/
def RxRecord.valid (x : RxRecord) (m : Mark) (own : LaneId) (now : Uptime) (stamp : BitVec 10) : RxRecord :=
  if x.status = .quiet then x.countGood else x.countGood.hear m own now stamp

/-- R36: the fall-back of a lane that holds an identity, at the eighth consecutive invalid arrival. -/
def RxRecord.fallBack (x : RxRecord) : RxRecord :=
  if x.consecBad = 8 ∧ x.held.isSome = true then { x with status := .signal, held := none } else x

/-- R32, R33, R36: an invalid arrival at a record. -/
def RxRecord.invalid (x : RxRecord) (f : MarkFailure) : RxRecord :=
  if x.status = .quiet then x.countBad f
  else ({ x.countBad f with candidate := none, repeats := 0 } : RxRecord).fallBack

/-- R32: signal lost. -/
def RxRecord.lose (x : RxRecord) : RxRecord :=
  if x.status = .quiet then x
  else { x with status := .quiet, held := none, candidate := none, repeats := 0, consecBad := 0 }

/-- R32: signal gained. -/
def RxRecord.gain (x : RxRecord) : RxRecord := if x.status = .quiet then { x with status := .signal } else x

/-- R35, R37: the new held identity where a far-end change took place: one held identity replaced by
another. -/
def farChange (a b : RxRecord) : Option LaneId :=
  match a.held, b.held with
  | some x, some y => if x.id = y.id then none else some y.id.id
  | _, _ => none

/-! ### Hand-off (R37, R38) -/

/-- R37: the lane change event of a record's change, handed to the settle timer in SURVEY and to the lane's
link in ASSIGNED. -/
def State.laneChange (s : State) (p : Port) (i : Lane) (a b : RxRecord) : State :=
  let q := s.port p
  let items := changedItems a b
  if !items.any then s
  else if q.state = .survey then s.restartSettle p
  else if q.state = .assigned then s.linkEvent p (q.laneHalf i) (relLane (q.laneHalf i) i) items (farChange a b)
  else s

/-- R38: a stamp report, when a valid mark carrying the held identity has set the latest stamp. -/
def State.stampReport (s : State) (p : Port) (i : Lane) (b : RxRecord) (m : Mark) (stamp : BitVec 10) : State :=
  let q := s.port p
  if b.status ≠ .quiet ∧ (b.held.map fun k => k.id) = some m.id then
    s.stampEvent p (q.laneHalf i) (relLane (q.laneHalf i) i) stamp.toNat
  else s

/-- The receive record of a lane replaced. -/
def State.setRx (s : State) (p : Port) (i : Lane) (x : RxRecord) : State :=
  s.modLane p i fun k => { k with rx := x }

/-- R27 to R38: a valid mark at a processed lane; `inverted` when it was decoded inverted. -/
def State.validArrival (s : State) (p : Port) (i : Lane) (inverted : Bool) (m : Mark) (stamp : BitVec 10) : State :=
  let x := (s.port p).lane i
  let b := x.rx.valid m (s.ownId p i) s.uptime stamp
  let turn := inverted && x.rx.status != .quiet
  let t := s.modLane p i fun k =>
    if turn then { k with rx := { b with polInverted := !x.correction }, correction := !x.correction }
    else { k with rx := b }
  t.inEvent fun u => (u.laneChange p i x.rx b).stampReport p i b m stamp

/-- R28, R29, R36 to R38: an invalid arrival at a processed lane. -/
def State.invalidArrival (s : State) (p : Port) (i : Lane) (f : MarkFailure) : State :=
  let x := (s.port p).lane i
  let b := x.rx.invalid f
  let t := (s.setRx p i b).laneChange p i x.rx b
  if x.rx.status = .quiet then t
  else t.badMarkEvent p ((s.port p).laneHalf i) (relLane ((s.port p).laneHalf i) i)

/-- R27: what the front end delivers of a block once the lane's polarity correction is applied. -/
def LaneUnit.received (x : LaneUnit) (block : MarkBits) : MarkBits := if x.correction then ~~~block else block

/-- R26 to R28: a framed block at a processed lane. -/
def State.arrival (s : State) (p : Port) (i : Lane) (block : MarkBits) (stamp : BitVec 10) : State :=
  match frameBlock (((s.port p).lane i).received block) with
  | none => s
  | some (inverted, b) =>
    match readMark b with
    | .ok m => s.validArrival p i inverted m stamp
    | .error f => s.invalidArrival p i f

/-- MARK_ARRIVED (R26 to R38). -/
def execMarkArrived (p : Port) (i : Lane) (block : MarkBits) (stamp : BitVec 10) (s : State) : Outcome :=
  let t := s.modPort p fun q => { q with stampCounter := stamp }
  .next (if s.processed p i then t.arrival p i block stamp else t)

/-- SYNC_MISSING (R26, R28). -/
def execSyncMissing (p : Port) (i : Lane) (s : State) : Outcome :=
  .next (if s.processed p i then s.invalidArrival p i .sync else s)

/-- SIGNAL_GAINED (R26, R32). -/
def execSignalGained (p : Port) (i : Lane) (s : State) : Outcome :=
  let t := s.modLane p i fun k => { k with signal := true }
  let x := ((s.port p).lane i).rx
  .next (if s.processed p i then (t.setRx p i x.gain).laneChange p i x x.gain else t)

/-- SIGNAL_LOST (R26, R32). -/
def execSignalLost (p : Port) (i : Lane) (s : State) : Outcome :=
  let t := s.modLane p i fun k => { k with signal := false }
  let x := ((s.port p).lane i).rx
  .next (if s.processed p i then (t.setRx p i x.lose).laneChange p i x x.lose else t)

/-- VIOLATIONS (R126): the port's links judge the interval, half A before half B. -/
def execViolations (p : Port) (counts : Vector Nat 8) (s : State) : Outcome :=
  .next ((s.judgeInterval p .A counts).judgeInterval p .B counts)

/-- LOCK_LOST (R128). -/
def execLockLost (p : Port) (i : Lane) (s : State) : Outcome :=
  let h := (s.port p).laneHalf i
  .next (if s.processed p i then s.lockLostAt p h (relLane h i) else s)

end Sys2Proof.Machine
end

