-- ==== Sys2Proof/Machine/PortEvents.lean ====
section
/-! DEFINITION. The events of reset, presence, the sideband, the time base and the timers. An expiry
acts on a timer that is running; the event of a stopped timer cannot take place and changes nothing. -/

namespace Sys2Proof.Machine

open Sys2Proof

/-! ### Full reset and the time base -/

/-- R162: a port after full reset: its pins and the phase of its stamp counter are not the part's to reset. -/
def PortUnit.afterReset (q : PortUnit) : PortUnit :=
  ({ presN := q.presN, stampCounter := q.stampCounter } : PortUnit).mapLanes fun i _ =>
    { signal := (q.lane i).signal }

/-- FULL_RESET (R162): every item at its full-reset value, position from POS and line rate from MSPD. -/
def execFullReset (pos : BitVec 2) (mspd : Level) (s : State) : Outcome :=
  .next ((({ State.reset with
      pending := s.pending, replies := s.replies, position := pos, lineFast := mspd == .high } : State)).forPorts
    fun t p => t.setPort p (s.port p).afterReset)

/-- UPTIME_TICK (R160). -/
def execUptimeTick (s : State) : Outcome := .next { s with uptime := s.uptime + 1 }

/-- LOCATE_BLINK_TOGGLE (R18). -/
def execLocateBlinkToggle (s : State) : Outcome :=
  .next (if s.locate.isSome then { s with blinkOn := !s.blinkOn } else s)

/-! ### Presence and the descriptor read -/

/-- PRESENCE_SAMPLE (R2). -/
def execPresenceSample (p : Port) (s : State) : Outcome :=
  .next (if (s.port p).state ≠ .off ∧ s.timing.debounce ≠ .none then s.sample p else s)

/-- PRES_N_CHANGE (R3). -/
def execPresNChange (p : Port) (level : Level) (s : State) : Outcome :=
  let t := s.modPort p fun q => { q with presN := level }
  .next (if (s.port p).state ≠ .off ∧ s.timing.debounce = .none then t.acceptPresence p (level == .low) else t)

/-- ACCEPTANCE_AT_ONCE (R3, R19): the event that follows a RESTART or PORT_ON with the period NONE, as that row of
spec/opcode_table.json says. -/
def execAcceptanceAtOnce (p : Port) (s : State) : Outcome :=
  .next (if (s.port p).state = .empty ∧ s.timing.debounce = .none ∧ (s.port p).linePresent = true then
    s.acceptPresence p true else s)

/-- NO_ANSWER (R5). -/
def execNoAnswer (p : Port) (s : State) : Outcome :=
  .next (if (s.port p).state = .seating then s.attemptFailed p .noAnswer else s)

/-- DESCRIPTOR_ANSWERED (R5 to R7, R176). Bytes outside an attempt are ignored. -/
def execDescriptorAnswered (p : Port) (b0 b1 b2 b3 b4 : Byte) (s : State) : Outcome :=
  .next
    (if (s.port p).state ≠ .seating then s
     else if descriptorSum b0 b1 b2 b3 b4 ≠ 0 then s.attemptFailed p .badCheck
     else
      match descriptorOf b0 b1 b2 b3 with
      | some d => s.readGood p d
      | none => s.readFailed p .badContents)

/-! ### Survey timers -/

/-- SURVEY_WINDOW_EXPIRY (R57, R59). -/
def execSurveyWindowExpiry (p : Port) (s : State) : Outcome :=
  .next (if (s.port p).state = .survey ∧ (s.port p).windowTimer.isSome = true then s.endSurvey p else s)

/-- SETTLE_EXPIRY (R58, R59). -/
def execSettleExpiry (p : Port) (s : State) : Outcome :=
  .next
    (if (s.port p).state = .survey ∧ (s.port p).settleTimer.isSome = true then
      if (s.port p).settled then s.endSurvey p else s.modPort p fun q => { q with settleTimer := none }
     else s)

/-! ### Link timers -/

/-- CHECK_QUIET_EXPIRY (R74). -/
def execCheckQuietExpiry (p : Port) (h : Half) (s : State) : Outcome :=
  .next (s.withLink p h fun l => if l.quiet.isSome then s.endChecking p h else s)

/-- CHECK_BOUND_EXPIRY (R74). -/
def execCheckBoundExpiry (p : Port) (h : Half) (s : State) : Outcome :=
  .next (s.withLink p h fun l => if l.checkEntry.isSome then s.endChecking p h else s)

/-- RETAINED_DWELL_END (R112). -/
def execRetainedDwellEnd (p : Port) (h : Half) (s : State) : Outcome :=
  .next (s.withLink p h fun l =>
    if l.state = .training ∧ l.training.dwell = some .retained then s.endRetained restartByTest p h else s)

/-- LIST_DWELL_END (R113). -/
def execListDwellEnd (p : Port) (h : Half) (s : State) : Outcome :=
  .next (s.withLink p h fun l =>
    match l.state, l.training.dwell with
    | .training, some (.list k) => s.endListDwell restartByTest p h k
    | _, _ => s)

/-- TRAINING_TIMER_EXPIRY (R119). -/
def execTrainingTimerExpiry (p : Port) (h : Half) (s : State) : Outcome :=
  .next (s.withLink p h fun l =>
    if l.state = .training ∧ l.training.timer.isSome = true then s.countFailure restartByTest p h .timeout else s)

/-- REGROUP_TIMER_EXPIRY (R92, R129). -/
def execRegroupTimerExpiry (p : Port) (h : Half) (s : State) : Outcome :=
  .next (s.withLink p h fun l =>
    if l.state = .up ∧ l.agree.regroupTimer.isSome = true then s.loseLanes p h .laneLoss else s)

/-- RECHECK_TIMER_EXPIRY (R102). -/
def execRecheckTimerExpiry (p : Port) (h : Half) (s : State) : Outcome :=
  .next (s.withLink p h fun l =>
    match l.state, l.align.recheckTimer with
    | .up, some t =>
      let u := s.modLink p h fun k => { k with align := { k.align with recheckTimer := some ⟨s.uptime, t.length⟩ } }
      if l.align.recheckState = .idle then u.beginRecheck p h else u
    | _, _ => s)

/-- PROBE_TIMER_EXPIRY (R136, R137). -/
def execProbeTimerExpiry (p : Port) (h : Half) (s : State) : Outcome :=
  .next (s.withLink p h fun l =>
    if l.state = .isolated ∧ l.sup.probeTimer.isSome = true then s.probe p h else s)

end Sys2Proof.Machine
end

