-- ==== Sys2Proof/Machine/Replies.lean ====
section
/-! DEFINITION. Record and reply layouts (Chapter 12). A reply's data is a list of bytes, each given or left
open by the manual; the open bits are filled from `Config.absentByte` when the reply is formed. -/

namespace Sys2Proof.Machine

open Sys2Proof

/-- A byte of a reply's data: given, or with the bits of a mask left open by the manual and the others, which
are reserved, zero (R174 rule 7). -/
inductive DataByte where
  | given (b : Byte)
  | free (mask : Byte)
  deriving DecidableEq, Repr

/-- The data of a reply. -/
abbrev Data := List DataByte

/-- One given byte. -/
def byte (b : Byte) : Data := [.given b]

/-- One byte that the manual leaves open. -/
def openByte : Data := [.free 0xFF]

/-! ### Numbers, sets and enumerations (R174) -/

/-- A number in one byte. -/
def num (n : Nat) : Data := byte (BitVec.ofNat 8 n)

/-- R174 rule 1: a number in two bytes, high byte first. -/
def num2 (n : Nat) : Data := num (n / 256) ++ num n

/-- R174 rule 1: a number in four bytes, high byte first. -/
def num4 (n : Nat) : Data := num2 (n / 65536) ++ num2 n

/-- R174 rule 5: a yes/no byte. -/
def flag (b : Bool) : Data := num (if b then 1 else 0)

/-- R174 rule 3: an optional number or enumeration code, absent as 0xFF. -/
def optNum (o : Option Nat) : Data := num (o.getD 255)

/-- An optional time of four bytes; no code of absence is given for it. -/
def optTime (o : Option Uptime) : Data :=
  match o with
  | some t => num4 t.toNat
  | none => openByte ++ openByte ++ openByte ++ openByte

/-- An optional number of two bytes; no code of absence is given for it. -/
def optNum2 (o : Option Nat) : Data :=
  match o with
  | some n => num2 n
  | none => openByte ++ openByte

/-- An optional byte; no code of absence is given for it. -/
def optByte (o : Option Byte) : Data :=
  match o with
  | some b => byte b
  | none => openByte

/-- R174 rules 4 and 7: an optional identity; absent, its chassis is 0, and the manual gives its second byte but
for the reserved bit 0, which is zero. -/
def optId (o : Option FarId) : Data :=
  match o with
  | some f => byte f.chassis ++ byte (f.position ++ f.port ++ halfBit f.half ++ 0#1)
  | none => num 0 ++ [.free 0xFE]

/-- R174 rule 4: an optional lane identity. -/
def optLaneId (o : Option LaneId) : Data :=
  match o with
  | some x => optId (some x.far) ++ num x.lane.toNat
  | none => optId none ++ openByte

/-- An optional group or proposal; absent, its width is 0 and the manual gives no start. -/
def optGroup (o : Option Group) : Data :=
  match o with
  | some g => num g.width ++ num g.start
  | none => num 0 ++ openByte

/-- The code of a port state. -/
def PortState.code (x : PortState) : Nat :=
  match x with
  | .off => 0
  | .empty => 1
  | .seating => 2
  | .seated => 3
  | .survey => 4
  | .assigned => 5
  | .cableFault => 6

/-- The code of a link state. -/
def LinkState.code (x : LinkState) : Nat :=
  match x with
  | .checking => 0
  | .verified => 1
  | .blocked => 2
  | .training => 3
  | .up => 4
  | .isolated => 5

/-- The code of a lane status. -/
def LaneStatus.code (x : LaneStatus) : Nat :=
  match x with
  | .quiet => 0
  | .signal => 1
  | .marked => 2
  | .confirmed => 3

/-- The code of a mode. -/
def Mode.code (x : Mode) : Nat :=
  match x with
  | .setup => 0
  | .active => 1

/-- The code of a form. -/
def Form.code (x : Form) : Nat :=
  match x with
  | .full => 0
  | .split => 1

/-- The code of a media: the descriptor's codes, the only ones the manual gives (DEDUCED, log entry 22). -/
def Media.code (x : Media) : Nat :=
  match x with
  | .passiveCopper => 1
  | .activeCopper => 2
  | .optical => 3

/-- The code of a map class. -/
def MapClass.code (x : MapClass) : Nat :=
  match x with
  | .straight => 0
  | .reversed => 1

/-- The code of a role. -/
def Role.code (x : Role) : Nat :=
  match x with
  | .senior => 0
  | .junior => 1
  | .self => 2

/-- The code of a stage. -/
def Stage.code (x : Stage) : Nat :=
  match x with
  | .equalize => 0
  | .deskew => 1
  | .align => 2

/-- The code of a recheck state. -/
def RecheckState.code (x : RecheckState) : Nat :=
  match x with
  | .idle => 0
  | .collecting => 1

/-- The code of a recheck outcome. -/
def RecheckOutcome.code (x : RecheckOutcome) : Nat :=
  match x with
  | .none => 0
  | .kept => 1
  | .shed => 2
  | .abandoned => 3

/-- The code of a rejection origin. -/
def Origin.code (x : Origin) : Nat :=
  match x with
  | .deskew => 0
  | .recheck => 1

/-- The code of an indicator source. -/
def IndSource.code (x : IndSource) : Nat :=
  match x with
  | .present => 0
  | .upAny => 1
  | .upAll => 2
  | .attention => 3
  | .health => 4

/-- The code of an indicator direct setting. -/
def IndDirect.code (x : IndDirect) : Nat :=
  match x with
  | .none => 0
  | .on => 1
  | .off => 2

/-- The code of a snapshot mode. -/
def SnapMode.code (x : SnapMode) : Nat :=
  match x with
  | .off => 0
  | .once => 1
  | .every => 2

/-- The code of a mark failure. -/
def failureCode (x : MarkFailure) : Nat :=
  match x with
  | .sync => 0
  | .check => 1
  | .code => 2
  | .lane => 3
  | .span => 4

/-- The code of a reason, cause or history reason (Chapter 12, Codes). -/
def Reason.code (x : Reason) : Nat :=
  match x with
  | .formMismatch => 1
  | .dark => 2
  | .crossed => 3
  | .scrambled => 4
  | .noPlan => 5
  | .wrongPeer => 6
  | .reversed => 7
  | .staleTag => 8
  | .oneWay => 9
  | .duplicatePeer => 10
  | .tooNarrow => 11
  | .trainFailed => 12
  | .cableOut => 13
  | .portOff => 14
  | .resurvey => 15
  | .planChange => 16
  | .farEndChange => 17
  | .farEndLeft => 18
  | .laneLoss => 19
  | .skewDrift => 20
  | .health => 21
  | .hostIsolate => 22
  | .modeSetup => 23
  | .restart => 24
  | .residue => 25
  | .timeout => 26
  | .pass => 27
  | .laneChange => 28
  | .peerReleased => 29
  | .start => 30
  | .trained => 31
  | .train => 32
  | .recovered => 33
  | .cableIn => 34
  | .readGood => 35
  | .noAnswer => 36
  | .badCheck => 37
  | .badContents => 38
  | .portOn => 39
  | .modeActive => 40
  | .surveyEnd => 41

/-- The code of an optional reason, 0 for none. -/
def reasonCode (r : Option Reason) : Data := num ((r.map fun x => x.code).getD 0)

/-- The code of a rejection origin of a relative lane, none where it carries no skew-rejected mark. -/
def Marks.origin (m : Marks) (r : Nat) : Option Origin :=
  if LaneSet.has m.rejDeskew r then some .deskew
  else if LaneSet.has m.rejRecheck r then some .recheck
  else none

/-! ### Notices, histories and snapshots -/

/-- The detail bytes of a notice (Chapter 12, Notice Record). -/
def Detail.bytes (d : Detail) : Data :=
  match d with
  | .cableIn => []
  | .cableOut x => num x.code
  | .cableFault r a => num r.code ++ num a
  | .verdict o r f m i w =>
    num o.code ++ reasonCode r ++ optId f ++
      num ((match m with
            | some m => m.code
            | none => 3) * 64 + i * 4) ++ optNum w
  | .linkUp g m => num g.width ++ num g.start ++ optNum (m.map fun m => m.code)
  | .linkDown r x w => num r.code ++ num x.code ++ num w
  | .widthChange g sh => num g.width ++ num g.start ++ byte sh
  | .health a b sc => num a.rank ++ num b.rank ++ num sc
  | .isolated c sc => num c.code ++ num sc
  | .recovered f => optId f
  | .trainRetry c a st => num c.code ++ num a ++ optNum (st.map fun x => x.code)
  | .farEndChange f n => optId f ++ optLaneId (some n)
  | .modeChange a b => num a.code ++ num b.code

/-- The code of an optional half, 0xFF for NONE. -/
def halfCode (h : Option Half) : Data := optNum (h.map fun h => halfRank h)

/-- A notice record (Chapter 12). -/
def Notice.bytes (n : Notice) : Data :=
  num n.detail.kind ++ optNum (n.port.map fun p => p.val) ++ halfCode n.half ++ num4 n.time.toNat ++
    num n.detail.bytes.length ++ n.detail.bytes

/-- The subject, from and to bytes of a history entry. -/
def Change.bytes (c : Change) : Data :=
  match c with
  | .port a b => num 0 ++ num a.code ++ num b.code
  | .link h a b =>
    num (1 + halfRank h) ++ optNum (a.map fun x => x.code) ++ optNum (b.map fun x => x.code)

/-- A history entry of 8 bytes. -/
def HistEntry.bytes (e : HistEntry) : Data := num4 e.time.toNat ++ e.change.bytes ++ num e.reason.code

/-- A snapshot record of 13 bytes. -/
def SnapRecord.bytes (r : SnapRecord) : Data :=
  num4 r.time.toNat ++ optNum (r.left.map fun x => x.code) ++ num r.reason.code ++ num r.width ++
    optNum r.start ++ num r.score ++ byte r.usable ++ optId r.far ++ flag r.noticeLoss

/-! ### PORT_GET and LANE_GET records -/

/-- The PORT section of 18 bytes. -/
def State.portSection (s : State) (p : Port) : Data :=
  let q := s.port p
  num q.state.code ++ flag q.enabled ++ byte (Config.presenceCode q.accepted) ++ num q.debounceCount ++
    num q.readAttempt ++ flag q.desc.isSome ++ optNum (q.desc.map fun d => d.form.code) ++
    optNum (q.desc.map fun d => d.lanes) ++ optNum (q.desc.map fun d => d.media.code) ++
    optNum (q.desc.map fun d => d.length) ++
    optNum (q.desc.map fun d => if d.adjusted then 1 else 0) ++ reasonCode q.fault ++
    num q.indSource.code ++ flag q.indInvert ++ num q.indDirect.code ++ flag (s.ind p) ++
    flag (s.holdsLocate p) ++ flag (s.focus == some p)

/-- One entry of the LANES section, 8 bytes. -/
def PortUnit.laneEntry (q : PortUnit) (i : Lane) : Data :=
  let x := q.lane i
  let h := q.laneHalf i
  let r := relLane h i
  let l := if q.ofHalf h i then (q.pos h).link else none
  let bit (S : Link → LaneSet) : Bool :=
    match l with
    | some k => LaneSet.has (S k) r
    | none => false
  num x.rx.status.code ++ optNum (x.heard.map fun k => k.phase.code) ++ num x.preset ++ optNum x.best ++
    num x.delay ++
    byte (laneSet fun k =>
      match k with
      | 0 => q.laneUsable i
      | 1 => x.active
      | 2 => bit fun k => k.marks.weak
      | 3 => bit fun k => k.marks.skewRejected
      | 4 => bit fun k => k.marks.lockLost
      | _ => false) ++
    optNum (l.bind fun k => laneAt k.align.skew r) ++
    optNum ((l.bind fun k => k.marks.origin r).map fun o => o.code)

/-- The dwell byte: 1..4 for a list position, 5 for RETAINED. -/
def dwellCode (d : Option Dwell) : Data :=
  optNum (d.map fun d =>
    match d with
    | .retained => 5
    | .list k => k)

/-- The bytes 0..98 of a LINK section. DESIGN CHOICE: the bytes at 41..44 beyond the count of the preset list in
use are sent as zero (log entry 16). -/
def Link.bytes (l : Link) : Data :=
  num 1 ++ num l.state.code ++ reasonCode l.reason ++
    optId l.far ++ optNum (l.map.map fun m => m.code) ++ byte l.polarity ++ optNum l.expWidth ++ flag l.grant ++
    num l.attempts ++ optNum (l.agree.role.map fun x => x.code) ++
    optGroup l.agree.proposal ++ flag l.agree.accept ++ optGroup l.agree.active ++ byte l.agree.shed ++
    byte (laneSet fun k =>
      match k with
      | 0 => l.checkEntry.isSome
      | 1 => l.agree.regroupStart.isSome
      | 2 => l.align.lastTime.isSome
      | 3 => l.quiet.isSome
      | 4 => l.align.recheckTimer.isSome
      | 5 => l.align.spread.isSome
      | _ => false) ++
    optTime l.checkEntry ++ optTime l.agree.regroupStart ++
    optNum l.align.windowLane ++ optNum2 l.align.spread ++ num l.align.recheckState.code ++
    byte l.align.recheck.lanes ++ num l.align.lastOutcome.code ++ optTime l.align.lastTime ++
    optNum (l.training.stage.map fun x => x.code) ++ flag l.training.timer.isSome ++
    byte l.training.attemptLanes ++ dwellCode l.training.dwell ++ num l.training.presets.length ++
    ((laneNumbers.take 4).flatMap fun k => num (presetAt l.training.presets (k + 1))) ++
    flag l.training.context.isSome ++
    (laneNumbers.flatMap fun r => (laneNumbers.take 4).flatMap fun k =>
      optNum (laneAt l.training.grades r)[Fin.ofNat 4 k]) ++
    reasonCode l.training.lastFailure ++ num l.sup.score ++ optNum (l.sup.level.map fun x => x.rank) ++
    reasonCode l.sup.isoCause ++ byte l.sup.probeSet ++ flag l.sup.probeTimer.isSome ++ flag l.sup.probeDirty ++
    num2 l.sup.probesMade ++ num2 l.sup.probesClean ++
    num4 l.sup.violations ++ num2 l.sup.lockLosses ++ num2 l.sup.upEntries ++ num2 l.sup.trainings

/-- The bytes 99..111 of a LINK section: the retained context. -/
def contextBytes (c : Option Context) : Data :=
  match c with
  | some c =>
    num 1 ++ optId (some c.far) ++ optGroup (some c.group) ++ laneNumbers.flatMap fun r => optNum (laneAt c.presets r)
  | none => num 0 ++ optId none ++ optGroup none ++ List.replicate 8 (.given 0xFF)

/-- A LINK section of 113 bytes. The fields of an absent link are sent as zero. -/
def Position.bytes (x : Position) : Data :=
  (match x.link with
   | some l => l.bytes
   | none => List.replicate 99 (.given 0)) ++ contextBytes x.context ++ num (x.residue.getD 0)

/-- The LANE_GET record of 29 bytes. -/
def State.laneBytes (s : State) (p : Port) (i : Lane) : Data :=
  let x := ((s.port p).lane i).rx
  let k := x.held
  let hd := x.heard
  byte (laneSet fun b =>
      match b with
      | 0 => k.isSome
      | 1 => k.isSome
      | 2 => hd.isSome
      | 3 => k.isSome
      | 4 => x.candidate.isSome
      | 5 => x.lastFailure.isSome
      | 6 => (hd.bind fun y => y.proposal).isSome
      | 7 => s.processed p i
      | _ => false) ++
    num x.status.code ++ optLaneId (k.map fun y => y.id.id) ++ optNum (k.map fun y => y.id.span) ++
    optTime (k.map fun y => y.firstHeard) ++ optNum (hd.map fun y => y.tag.toNat) ++
    optNum (hd.map fun y => y.phase.code) ++ optNum (hd.map fun y => y.grade) ++
    optByte (hd.map fun y => y.usable) ++ optGroup (hd.bind fun y => y.proposal) ++
    optNum (hd.map fun y => if y.accept then 1 else 0) ++ optNum2 (k.map fun y => y.stamp.toNat) ++
    optLaneId (x.candidate.map fun y => y.id) ++ optNum (x.candidate.map fun y => y.span) ++ num x.repeats ++
    flag x.polInverted ++ num x.good ++ num x.bad ++ num x.consecBad ++
    optNum (x.lastFailure.map failureCode)

/-! ### Plan records -/

/-- An optional expected field, 0xFF for ANY. -/
def anyNum (o : Option Nat) : Data := optNum o

/-- A preset count and four preset bytes, the unused ones zero. -/
def presetListBytes (L : List Nat) : Data :=
  num L.length ++ (laneNumbers.take 4).flatMap fun k => num (presetAt L (k + 1))

/-- An expectation of 13 bytes, as a PLAN_SET carries it. -/
def Expectation.bytes (e : Expectation) : Data :=
  anyNum (e.chassis.map fun x => x.toNat) ++ anyNum (e.position.map fun x => x.toNat) ++
    anyNum (e.port.map fun x => x.toNat) ++ anyNum (e.half.map fun x => halfRank x) ++ num e.minWidth ++
    flag e.reversal ++ flag e.autoTrain ++ presetListBytes e.presets ++ num e.minGrade

/-- R56: the PLAN_GET reply data. -/
def PortUnit.planBytes (q : PortUnit) : Data :=
  match q.plan with
  | some e =>
    num 1 ++ num e.form.code ++ e.a.bytes ++
      (match e.b with
       | some b => b.bytes
       | none => List.replicate 13 (.given 0)) ++
      presetListBytes (q.effectiveList (some e.a)) ++
      (match e.b with
       | some b => presetListBytes (q.effectiveList (some b))
       | none => List.replicate 5 (.given 0))
  | none =>
    num 0 ++ optNum (q.desc.map fun d => d.form.code) ++ List.replicate 26 (.given 0) ++
      presetListBytes q.autoList ++ List.replicate 5 (.given 0)

/-- The state and reason code bytes of a position's link, 0xFF and 0 where there is none. -/
def Position.stateBytes (x : Position) : Data :=
  optNum (x.link.map fun l => l.state.code) ++ reasonCode (x.link.bind fun l => l.reason)

/-- The reply data of PLAN_SET and PLAN_CLEAR. -/
def PortUnit.editBytes (q : PortUnit) : Data := num q.state.code ++ q.posA.stateBytes ++ q.posB.stateBytes

/-- The six timing settings. -/
def Timing.bytes (t : Timing) : Data :=
  byte t.debounce.byte ++ num2 t.window ++ num2 t.timeout ++ num t.maxAttempts ++ num t.warning ++
    num t.recheck.seconds

/-- The preset table. -/
def presetTableBytes (v : Vector Preset 8) : Data :=
  laneNumbers.flatMap fun k => num (laneAt v k).amplitude ++ num (laneAt v k).emphasis

/-- Both filters. -/
def State.filterBytes (s : State) : Data :=
  [s.filter1, s.filter2].flatMap fun f => flag f.enabled ++ num2 f.kinds.toNat ++ num2 f.ports.toNat

/-- The STATUS reply data. -/
def State.statusBytes (s : State) : Data :=
  num s.mode.code ++ byte s.chassis ++ num s.position.toNat ++ byte s.planTag ++ num s.queue.length ++
    num s.overrun ++ num2 s.framingErrors ++ num2 s.checkErrors ++ num s.dropped ++ num4 s.uptime.toNat

/-! ### Answers -/

/-- What the execution of a request gives: the state after it, the result and the reply data. -/
structure Answer where
  state : State
  result : Result
  data : Data

/-- A request carried out. -/
def Answer.ok (s : State) (d : Data) : Answer := ⟨s, .ok, d⟩

/-- R167: a reply with any result but OK or ADJUSTED carries no data, and the request changes nothing. -/
def Answer.refuse (s : State) (r : Result) : Answer := ⟨s, r, []⟩

/-- The byte sent for a byte of data: the open bits taken from `free`, the reserved ones zero. -/
def DataByte.fill (x : DataByte) (free : Byte) : Byte :=
  match x with
  | .given b => b
  | .free mask => mask &&& free

/-- The open bits of reply number `n` filled in. -/
def fillData (n : Nat) (d : Data) : List Byte := d.zipIdx.map fun x => x.1.fill (Config.absentByte n x.2)

/-- R167: the reply code: the request code plus 128, or the code itself from 128 on. -/
def replyCode (code : Byte) : Byte := code ||| 0x80

/-- R167: the reply body of an answer to a request: the reply code, the tag (0 for a body that holds none),
the result code and the data. -/
def Answer.body (a : Answer) (request : List Byte) : List Byte :=
  replyCode (request.headD 0) :: (request.drop 1).headD 0 :: a.result.code :: fillData a.state.replies a.data

/-- R166: the request is the executing frame, with the reply its answer forms, until the reply is sent. -/
def Answer.reply (a : Answer) (request : List Byte) : State :=
  { a.state with replies := a.state.replies + 1, executing := some ⟨request, a.body request⟩ }

end Sys2Proof.Machine
end

