-- ==== Sys2Proof/Machine/Requests.lean ====
section
/-! DEFINITION. The messages of the catalogue (R45 to R56, R108, R134, R139, R146 to R173): what each
request does and answers, and the message rows, each one such request offered to the input hold (R166). -/

namespace Sys2Proof.Machine

open Sys2Proof

/-! ### Common tests (R168) -/

/-- R168 tests 3 and 4 of a message that takes 0..15 and FOCUS. -/
def withPort (s : State) (b : Byte) (f : Port → Answer) : Answer :=
  match onePort s b with
  | .ok p => f p
  | .error r => .refuse s r

/-- R168: a half parameter, tested before NO_LINK. -/
def withHalf (s : State) (b : Byte) (f : Half → Answer) : Answer :=
  match halfOperand b with
  | some h => f h
  | none => .refuse s .range

/-- R167: NO_LINK where the port is not ASSIGNED or half B is named on a FULL port. -/
def withLinkAt (s : State) (p : Port) (h : Half) (f : Link → Answer) : Answer :=
  if (s.port p).state ≠ .assigned ∨ (h = .B ∧ (s.port p).isSplit = false) then .refuse s .noLink
  else
    match s.link p h with
    | some l => f l
    | none => .refuse s .noLink

/-- The states of all ports, in ascending order. -/
def State.portStates (s : State) : Data := allPorts.flatMap fun p => num (s.port p).state.code

/-! ### Part-wide messages -/

/-- IDENT (R171). -/
def reqIdent (s : State) : Answer := .ok s (num 0xA6 ++ num 1 ++ num 16 ++ num 8 ++ num s.position.toNat)

/-- STATUS (R165, R171): the reply holds the counts as they stood before the request. -/
def reqStatus (clear : Byte) (s : State) : Answer :=
  match yesNo clear with
  | none => .refuse s .range
  | some true => .ok { s with framingErrors := 0, checkErrors := 0, dropped := 0 } s.statusBytes
  | some false => .ok s s.statusBytes

/-- MODE ACTIVE (R156, R157). -/
def reqModeActive (s : State) : Answer :=
  if s.mode = .active then .ok s (num s.mode.code)
  else if s.chassis = 0 then .refuse s .noIdentity
  else .ok s.activate (num s.activate.mode.code)

/-- MODE SETUP (R156, R158). -/
def reqModeSetup (s : State) : Answer :=
  if s.mode = .setup then .ok s (num s.mode.code) else .ok s.deactivate (num s.deactivate.mode.code)

/-- NODE (R55). -/
def reqNode (chassis : Byte) (s : State) : Answer :=
  if s.mode = .active then .refuse s .wrongMode
  else if 1 ≤ chassis.toNat ∧ chassis.toNat ≤ 250 then .ok { s with chassis := chassis } (byte chassis)
  else .refuse s .range

/-- R159, R3: the six settings replaced; a new debounce period acts on every port at once. DESIGN CHOICE: with
the period NONE the ports take their PRES_N levels, and file their notices, in ascending order (log entry 28). -/
def State.setTiming (s : State) (t : Timing) : State :=
  let u := { s with timing := t }
  if t.debounce = s.timing.debounce then u else u.inEvent fun v => v.forPorts fun w p => w.newDebounce p

/-- TIMING with values (R159). -/
def reqTiming (v : RawTiming) (s : State) : Answer :=
  if s.mode = .active then .refuse s .wrongMode
  else
    match timingOf v with
    | none => .refuse s .range
    | some t => ⟨s.setTiming t, if timingExact v t then .ok else .adjusted, t.bytes⟩

/-- TIMING without values (R159). -/
def reqTimingQuery (s : State) : Answer := .ok s s.timing.bytes

/-- PRESET with values (R45). -/
def reqPreset (number amplitude emphasis : Byte) (s : State) : Answer :=
  if s.mode = .active then .refuse s .wrongMode
  else if presetInRange number amplitude emphasis then
    let v := s.presets.set (Fin.ofNat 8 number.toNat) ⟨amplitude.toNat, emphasis.toNat⟩
    .ok { s with presets := v } (presetTableBytes v)
  else .refuse s .range

/-- PRESET without values (R56). -/
def reqPresetQuery (s : State) : Answer := .ok s (presetTableBytes s.presets)

/-- TAG (R54). -/
def reqPlanTag (value : Byte) (s : State) : Answer :=
  if value = s.planTag then .ok s (byte value)
  else .ok (({ s with planTag := value } : State).inEvent fun t => t.forPositions fun u p h => u.retag p h) (byte value)

/-- FILTER (R146). -/
def reqFilter (number enable : Byte) (kinds ports : BitVec 16) (s : State) : Answer :=
  match yesNo enable with
  | none => .refuse s .range
  | some e =>
    if kinds &&& 0xE000 ≠ 0 then .refuse s .range
    else
      match number.toNat with
      | 1 => let t := { s with filter1 := ⟨e, kinds, ports⟩ }; .ok t t.filterBytes
      | 2 => let t := { s with filter2 := ⟨e, kinds, ports⟩ }; .ok t t.filterBytes
      | _ => .refuse s .range

/-- FETCH (R148). -/
def reqFetch (count : Byte) (s : State) : Answer :=
  let n := min count.toNat 8
  let taken := s.queue.take n
  .ok { s with queue := s.queue.drop n, overrun := 0 }
    (num taken.length ++ num (s.queue.drop n).length ++ num s.overrun ++ taken.flatMap fun x => x.bytes)

/-- The focus byte of a reply. -/
def State.focusBytes (s : State) : Data := optNum (s.focus.map fun p => p.val)

/-- FOCUS SET (R170). -/
def reqFocusSet (target : Byte) (s : State) : Answer :=
  if h : target.toNat < 16 then
    let t := { s with focus := some ⟨target.toNat, h⟩ }
    .ok t t.focusBytes
  else .refuse s .badPort

/-- FOCUS CLEAR (R170). -/
def reqFocusClear (s : State) : Answer :=
  let t := { s with focus := none }
  .ok t t.focusBytes

/-- FOCUS READ (R170). -/
def reqFocusRead (s : State) : Answer := .ok s s.focusBytes

/-- RESTART (R161). -/
def reqRestart (s : State) : Answer := .ok s.restart []

/-- UNKNOWN_REQUEST (R167). -/
def reqUnknown (s : State) : Answer := .refuse s .unknown

/-! ### Plan messages -/

/-- PLAN_SET (R46, R168): the length by the form, the port operand, then the values; an entry equal to the
stored one changes nothing. -/
def reqPlanSet (port form : Byte) (a : RawExpectation) (b : Option RawExpectation) (s : State) : Answer :=
  if !planLengthFits form b then .refuse s .length
  else
    withPort s port fun p =>
      match entryOf form a b with
      | none => .refuse s .range
      | some e =>
        let t := if (s.port p).plan = some e then s else s.editPlan p (some e)
        .ok t (t.port p).editBytes

/-- PLAN_CLEAR (R47). -/
def reqPlanClear (port : Byte) (s : State) : Answer :=
  withPort s port fun p =>
    let t := if (s.port p).plan = none then s else s.editPlan p none
    .ok t (t.port p).editBytes

/-- PLAN_GET (R56). -/
def reqPlanGet (port : Byte) (s : State) : Answer := withPort s port fun p => .ok s (s.port p).planBytes

/-! ### Port messages -/

/-- The answer of a message over a port operand that accepts ALL: `f` done on the port, or on every port in
ascending order, and the port states after it. -/
def portStateAnswer (s : State) (o : Except Result PortOperand) (f : State → Port → State) : Answer :=
  match o with
  | .ok (.one p) => let t := f s p; .ok t (num (t.port p).state.code)
  | .ok .all => let t := s.inEvent fun u => u.forPorts f; .ok t t.portStates
  | .ok .none => .refuse s .badPort
  | .error r => .refuse s r

/-- PORT_ON (R12). -/
def reqPortOn (port : Byte) (s : State) : Answer :=
  portStateAnswer s (portOperand s true false port) fun t p => t.portOn p

/-- PORT_OFF (R11). -/
def reqPortOff (port : Byte) (s : State) : Answer :=
  portStateAnswer s (portOperand s true false port) fun t p => t.portOff p

/-- R13: the port operand of RESURVEY, tested for mode and for the state of a single port. -/
def resurveyOperand (s : State) (port : Byte) : Except Result PortOperand :=
  match portOperand s true false port with
  | .error r => .error r
  | .ok o =>
    if s.mode = .setup then .error .wrongMode
    else
      match o with
      | .one p => if (s.port p).state.resurveys then .ok o else .error .wrongState
      | _ => .ok o

/-- RESURVEY (R13). -/
def reqResurvey (port : Byte) (s : State) : Answer :=
  portStateAnswer s (resurveyOperand s port) fun t p => t.resurvey p

/-- PORT_GET (R172). -/
def reqPortGet (port sect : Byte) (s : State) : Answer :=
  withPort s port fun p =>
    match sect.toNat with
    | 0 => .ok s (s.portSection p)
    | 1 => .ok s (s.pos p .A).bytes
    | 2 => .ok s (s.pos p .B).bytes
    | 3 => .ok s (allLanes.flatMap fun i => (s.port p).laneEntry i)
    | _ => .refuse s .range

/-- LANE_GET (R173). -/
def reqLaneGet (port lane : Byte) (s : State) : Answer :=
  withPort s port fun p =>
    if h : lane.toNat < 8 then .ok s (s.laneBytes p ⟨lane.toNat, h⟩) else .refuse s .range

/-- HISTORY_GET (R155). -/
def reqHistoryGet (port : Byte) (s : State) : Answer :=
  withPort s port fun p =>
    let q := s.port p
    .ok (s.modPort p fun q => { q with wrapped := false })
      (flag q.wrapped ++ num q.history.length ++ q.history.flatMap fun e => e.bytes)

/-- The indicator source of a code. -/
def sourceOf (b : Byte) : Option IndSource :=
  match b.toNat with
  | 0 => some .present
  | 1 => some .upAny
  | 2 => some .upAll
  | 3 => some .attention
  | 4 => some .health
  | _ => none

/-- The direct setting of a code. -/
def directOf (b : Byte) : Option IndDirect :=
  match b.toNat with
  | 0 => some .none
  | 1 => some .on
  | 2 => some .off
  | _ => none

/-- R15: the indicator settings of a port written. -/
def State.setIndicator (s : State) (p : Port) (x : IndSource) (v : Bool) (d : IndDirect) : State :=
  s.modPort p fun q => { q with indSource := x, indInvert := v, indDirect := d }

/-- INDICATE (R15). -/
def reqIndicate (port source invert direct : Byte) (s : State) : Answer :=
  match portOperand s true false port with
  | .error r => .refuse s r
  | .ok o =>
    match sourceOf source, yesNo invert, directOf direct with
    | some x, some v, some d =>
      let settings := num x.code ++ flag v ++ num d.code
      match o with
      | .one p => let t := s.setIndicator p x v d; .ok t (settings ++ flag (t.ind p))
      | .all =>
        let t := s.forPorts fun t p => t.setIndicator p x v d
        .ok t (settings ++ allPorts.flatMap fun p => flag (t.ind p))
      | .none => .refuse s .badPort
    | _, _, _ => .refuse s .range

/-- R18: the locate selection set to a port; a port that holds it keeps its phase, another begins on. -/
def State.locateAt (s : State) (p : Port) : State :=
  if s.locate = some p then s else { s with locate := some p, blinkOn := true }

/-- LOCATE (R18). -/
def reqLocate (port : Byte) (s : State) : Answer :=
  match portOperand s false true port with
  | .error r => .refuse s r
  | .ok (.one p) => .ok (s.locateAt p) (num p.val)
  | .ok .none => .ok { s with locate := none, blinkOn := false } (num 255)
  | .ok .all => .refuse s .badPort

/-! ### Link and position messages -/

/-- The reply data of TRAIN: state, reason, grant, attempts. -/
def trainBytes (l : Link) : Data := num l.state.code ++ reasonCode l.reason ++ flag l.grant ++ num l.attempts

/-- The reply data of ISOLATE and of RECOVER in ACTIVE mode: state, score. -/
def scoreBytes (l : Link) : Data := num l.state.code ++ num l.sup.score

/-- The reply data drawn from the link at a position after a request. -/
def State.linkData (s : State) (p : Port) (h : Half) (f : Link → Data) : Data :=
  match s.link p h with
  | some l => f l
  | none => []

/-- R108: the train grant set on a link, its state kept. -/
def State.grantAt (s : State) (p : Port) (h : Half) : State := s.modLink p h fun l => { l with grant := true }

/-- R74, R108: TRAIN on a CHECKING link sets the grant and, as a cause of R73 that reaches a link already in
CHECKING, restarts the quiet timer. DEDUCED: where the link already holds the grant nothing changes, as R108
says (log entry 31). -/
def State.trainChecking (s : State) (p : Port) (h : Half) (l : Link) : State :=
  if l.grant then s else s.setLink p h (some (({ l with grant := true } : Link).restartQuiet s.uptime))

/-- R108: what TRAIN does with a link; none where it answers WRONG_STATE. -/
def State.train (s : State) (p : Port) (h : Half) (l : Link) : Option State :=
  match l.state with
  | .verified => some ((s.grantAt p h).startTest p h)
  | .checking => some (s.trainChecking p h l)
  | .training => some (s.grantAt p h)
  | .up => some (s.grantAt p h)
  | .blocked =>
    if l.reason = some .trainFailed then
      some (s.enterChecking p h { l with grant := true, attempts := 0 } .train)
    else none
  | .isolated => none

/-- TRAIN (R108). -/
def reqTrain (port half : Byte) (s : State) : Answer :=
  withPort s port fun p => withHalf s half fun h => withLinkAt s p h fun l =>
    match s.train p h l with
    | some t => .ok t (t.linkData p h trainBytes)
    | none => .refuse s .wrongState

/-- ISOLATE (R134). -/
def reqIsolate (port half : Byte) (s : State) : Answer :=
  withPort s port fun p => withHalf s half fun h => withLinkAt s p h fun l =>
    if l.state = .isolated then .refuse s .wrongState
    else
      let t := s.isolateByHost p h l
      .ok t (t.linkData p h scoreBytes)

/-- R139: RECOVER in ACTIVE mode. -/
def recoverActive (s : State) (p : Port) (h : Half) : Answer :=
  withLinkAt s p h fun l =>
    if l.state = .isolated then
      let t := s.modLink p h fun k => { k with sup := { k.sup with score := 1 } }
      .ok t (t.linkData p h scoreBytes)
    else .refuse s .wrongState

/-- R139: RECOVER in SETUP mode. -/
def recoverSetup (s : State) (p : Port) (h : Half) : Answer :=
  match (s.pos p h).residue with
  | some r => .ok (s.setResidue p h none) (num r)
  | none => .refuse s .wrongState

/-- RECOVER (R139). -/
def reqRecover (port half : Byte) (s : State) : Answer :=
  withPort s port fun p => withHalf s half fun h =>
    match s.mode with
    | .active => recoverActive s p h
    | .setup => recoverSetup s p h

/-- The snapshot mode of a code. -/
def snapModeOf (b : Byte) : Option SnapMode :=
  match b.toNat with
  | 0 => some .off
  | 1 => some .once
  | 2 => some .every
  | _ => none

/-- SNAP_ARM (R153). -/
def reqSnapArm (port half mode : Byte) (s : State) : Answer :=
  withPort s port fun p => withHalf s half fun h =>
    match snapModeOf mode with
    | some m =>
      .ok (s.modPos p h fun x => { x with snap := { mode := m, record := none } }) (num m.code ++ flag false)
    | none => .refuse s .range

/-- SNAP_GET (R153). -/
def reqSnapGet (port half : Byte) (s : State) : Answer :=
  withPort s port fun p => withHalf s half fun h =>
    let x := (s.pos p h).snap
    .ok s (num x.mode.code ++ flag x.record.isSome ++
      (match x.record with
       | some r => r.bytes
       | none => []))

/-! ### The input hold (R166) -/

/-- R166: a complete frame with this body, which executes as `f` says, waits, or is dropped and counted. -/
def State.offered (s : State) (body : List Byte) (f : State → Answer) : State :=
  match s.executing, s.waiting with
  | none, _ => (f s).reply body
  | some _, none => { s with waiting := some body }
  | some _, some _ => { s with dropped := satAdd 255 s.dropped 1 }

/-! ### The message rows: each a complete frame of its request -/

/-- IDENT (R171). -/
def execIdent (tag : Byte) (s : State) : Outcome := .next (s.offered (requestBody (.ident tag)) reqIdent)

/-- STATUS (R165, R171). -/
def execStatus (tag clear : Byte) (s : State) : Outcome :=
  .next (s.offered (requestBody (.status tag clear)) (reqStatus clear))

/-- MODE_ACTIVE (R156, R157). -/
def execModeActive (tag : Byte) (s : State) : Outcome :=
  .next (s.offered (requestBody (.modeActive tag)) reqModeActive)

/-- MODE_SETUP (R156, R158). -/
def execModeSetup (tag : Byte) (s : State) : Outcome := .next (s.offered (requestBody (.modeSetup tag)) reqModeSetup)

/-- NODE (R55). -/
def execNode (tag chassis : Byte) (s : State) : Outcome :=
  .next (s.offered (requestBody (.node tag chassis)) (reqNode chassis))

/-- TIMING with values (R159). -/
def execTiming (tag : Byte) (v : RawTiming) (s : State) : Outcome :=
  .next (s.offered (requestBody (.timing tag v)) (reqTiming v))

/-- TIMING without values (R159). -/
def execTimingQuery (tag : Byte) (s : State) : Outcome :=
  .next (s.offered (requestBody (.timingQuery tag)) reqTimingQuery)

/-- PRESET with values (R45). -/
def execPreset (tag number amplitude emphasis : Byte) (s : State) : Outcome :=
  .next (s.offered (requestBody (.preset tag number amplitude emphasis)) (reqPreset number amplitude emphasis))

/-- PRESET without values (R56). -/
def execPresetQuery (tag : Byte) (s : State) : Outcome :=
  .next (s.offered (requestBody (.presetQuery tag)) reqPresetQuery)

/-- TAG (R54). -/
def execPlanTag (tag value : Byte) (s : State) : Outcome :=
  .next (s.offered (requestBody (.planTag tag value)) (reqPlanTag value))

/-- PLAN_SET (R46). -/
def execPlanSet (tag port form : Byte) (a : RawExpectation) (b : Option RawExpectation) (s : State) : Outcome :=
  .next (s.offered (requestBody (.planSet tag port form a b)) (reqPlanSet port form a b))

/-- PLAN_CLEAR (R47). -/
def execPlanClear (tag port : Byte) (s : State) : Outcome :=
  .next (s.offered (requestBody (.planClear tag port)) (reqPlanClear port))

/-- PLAN_GET (R56). -/
def execPlanGet (tag port : Byte) (s : State) : Outcome :=
  .next (s.offered (requestBody (.planGet tag port)) (reqPlanGet port))

/-- PORT_ON (R12). -/
def execPortOn (tag port : Byte) (s : State) : Outcome :=
  .next (s.offered (requestBody (.portOn tag port)) (reqPortOn port))

/-- PORT_OFF (R11). -/
def execPortOff (tag port : Byte) (s : State) : Outcome :=
  .next (s.offered (requestBody (.portOff tag port)) (reqPortOff port))

/-- RESURVEY (R13). -/
def execResurvey (tag port : Byte) (s : State) : Outcome :=
  .next (s.offered (requestBody (.resurvey tag port)) (reqResurvey port))

/-- TRAIN (R108). -/
def execTrain (tag port half : Byte) (s : State) : Outcome :=
  .next (s.offered (requestBody (.train tag port half)) (reqTrain port half))

/-- ISOLATE (R134). -/
def execIsolate (tag port half : Byte) (s : State) : Outcome :=
  .next (s.offered (requestBody (.isolate tag port half)) (reqIsolate port half))

/-- RECOVER (R139). -/
def execRecover (tag port half : Byte) (s : State) : Outcome :=
  .next (s.offered (requestBody (.recover tag port half)) (reqRecover port half))

/-- PORT_GET (R172). -/
def execPortGet (tag port sect : Byte) (s : State) : Outcome :=
  .next (s.offered (requestBody (.portGet tag port sect)) (reqPortGet port sect))

/-- LANE_GET (R173). -/
def execLaneGet (tag port lane : Byte) (s : State) : Outcome :=
  .next (s.offered (requestBody (.laneGet tag port lane)) (reqLaneGet port lane))

/-- HISTORY_GET (R155). -/
def execHistoryGet (tag port : Byte) (s : State) : Outcome :=
  .next (s.offered (requestBody (.historyGet tag port)) (reqHistoryGet port))

/-- SNAP_ARM (R153). -/
def execSnapArm (tag port half mode : Byte) (s : State) : Outcome :=
  .next (s.offered (requestBody (.snapArm tag port half mode)) (reqSnapArm port half mode))

/-- SNAP_GET (R153). -/
def execSnapGet (tag port half : Byte) (s : State) : Outcome :=
  .next (s.offered (requestBody (.snapGet tag port half)) (reqSnapGet port half))

/-- INDICATE (R15). -/
def execIndicate (tag port source invert direct : Byte) (s : State) : Outcome :=
  .next (s.offered (requestBody (.indicate tag port source invert direct)) (reqIndicate port source invert direct))

/-- LOCATE (R18). -/
def execLocate (tag port : Byte) (s : State) : Outcome :=
  .next (s.offered (requestBody (.locate tag port)) (reqLocate port))

/-- FILTER (R146). -/
def execFilter (tag number enable : Byte) (kinds ports : BitVec 16) (s : State) : Outcome :=
  .next (s.offered (requestBody (.filter tag number enable kinds ports)) (reqFilter number enable kinds ports))

/-- FETCH (R148). -/
def execFetch (tag count : Byte) (s : State) : Outcome :=
  .next (s.offered (requestBody (.fetch tag count)) (reqFetch count))

/-- FOCUS SET (R170). -/
def execFocusSet (tag target : Byte) (s : State) : Outcome :=
  .next (s.offered (requestBody (.focusSet tag target)) (reqFocusSet target))

/-- FOCUS CLEAR (R170). -/
def execFocusClear (tag : Byte) (s : State) : Outcome :=
  .next (s.offered (requestBody (.focusClear tag)) reqFocusClear)

/-- FOCUS READ (R170). -/
def execFocusRead (tag : Byte) (s : State) : Outcome := .next (s.offered (requestBody (.focusRead tag)) reqFocusRead)

/-- RESTART (R161). -/
def execRestart (tag : Byte) (s : State) : Outcome := .next (s.offered (requestBody (.restart tag)) reqRestart)

/-- UNKNOWN_REQUEST (R167). A code of the catalogue makes no unknown request and changes nothing. -/
def execUnknownRequest (code : Byte) (rest : List Byte) (s : State) : Outcome :=
  .next (if isMessage code then s else s.offered (requestBody (.unknownRequest code rest)) reqUnknown)

end Sys2Proof.Machine
end

