-- ==== Sys2Proof/Machine/Line.lean ====
section
/-! DEFINITION. The Management Line Interface: the receive frame assembler, the input hold and the
dispatch of requests (R164 to R168). -/

namespace Sys2Proof.Machine

open Sys2Proof

/-! ### Execution of a request (R166 to R168) -/

/-- What a message row answers. The events of the part are no requests. -/
def answer (i : Instr) (s : State) : Answer :=
  match i with
  | .ident _ => reqIdent s
  | .status _ clear => reqStatus clear s
  | .modeActive _ => reqModeActive s
  | .modeSetup _ => reqModeSetup s
  | .node _ chassis => reqNode chassis s
  | .timing _ v => reqTiming v s
  | .timingQuery _ => reqTimingQuery s
  | .preset _ number amplitude emphasis => reqPreset number amplitude emphasis s
  | .presetQuery _ => reqPresetQuery s
  | .planTag _ value => reqPlanTag value s
  | .planSet _ port form a b => reqPlanSet port form a b s
  | .planClear _ port => reqPlanClear port s
  | .planGet _ port => reqPlanGet port s
  | .portOn _ port => reqPortOn port s
  | .portOff _ port => reqPortOff port s
  | .resurvey _ port => reqResurvey port s
  | .train _ port half => reqTrain port half s
  | .isolate _ port half => reqIsolate port half s
  | .recover _ port half => reqRecover port half s
  | .portGet _ port sect => reqPortGet port sect s
  | .laneGet _ port lane => reqLaneGet port lane s
  | .historyGet _ port => reqHistoryGet port s
  | .snapArm _ port half mode => reqSnapArm port half mode s
  | .snapGet _ port half => reqSnapGet port half s
  | .indicate _ port source invert direct => reqIndicate port source invert direct s
  | .locate _ port => reqLocate port s
  | .filter _ number enable kinds ports => reqFilter number enable kinds ports s
  | .fetch _ count => reqFetch count s
  | .focusSet _ target => reqFocusSet target s
  | .focusClear _ => reqFocusClear s
  | .focusRead _ => reqFocusRead s
  | .restart _ => reqRestart s
  | .unknownRequest .. => reqUnknown s
  | .fullReset .. => reqUnknown s
  | .presenceSample _ => reqUnknown s
  | .presNChange .. => reqUnknown s
  | .noAnswer _ => reqUnknown s
  | .descriptorAnswered .. => reqUnknown s
  | .markTransmit .. => reqUnknown s
  | .signalGained .. => reqUnknown s
  | .signalLost .. => reqUnknown s
  | .markArrived .. => reqUnknown s
  | .syncMissing .. => reqUnknown s
  | .violations .. => reqUnknown s
  | .lockLost .. => reqUnknown s
  | .uptimeTick => reqUnknown s
  | .surveyWindowExpiry _ => reqUnknown s
  | .settleExpiry _ => reqUnknown s
  | .checkQuietExpiry .. => reqUnknown s
  | .checkBoundExpiry .. => reqUnknown s
  | .retainedDwellEnd .. => reqUnknown s
  | .listDwellEnd .. => reqUnknown s
  | .trainingTimerExpiry .. => reqUnknown s
  | .regroupTimerExpiry .. => reqUnknown s
  | .recheckTimerExpiry .. => reqUnknown s
  | .probeTimerExpiry .. => reqUnknown s
  | .locateBlinkToggle => reqUnknown s
  | .frameGapTimeout => reqUnknown s
  | .framingError _ => reqUnknown s
  | .checkError => reqUnknown s
  | .frameComplete _ => reqUnknown s
  | .replySent => reqUnknown s
  | .byteReceived _ => reqUnknown s
  | .acceptanceAtOnce _ => reqUnknown s

/-- R168: what a request body answers. -/
def readAnswer (body : List Byte) (s : State) : Answer :=
  match readBody body with
  | .request i => answer i s
  | .badLength => .refuse s .length
  | .badSelector => .refuse s .range

/-- R166 to R168: the execution of a request body: its effects and its reply. -/
def State.execute (s : State) (body : List Byte) : State := (readAnswer body s).reply body

/-- R166: a complete frame offered to the input hold. -/
def State.offer (s : State) (body : List Byte) : State := s.offered body (readAnswer body)

/-- R166: the last byte of the reply has left; the waiting frame executes. -/
def State.nextFrame (s : State) : State :=
  match s.executing, s.waiting with
  | none, _ => s
  | some _, none => { s with executing := none }
  | some _, some body => ({ s with executing := none, waiting := none } : State).execute body

/-! ### The assembler (R164, R165) -/

/-- R164, R165: the frame in the assembler discarded, a framing error counted. -/
def State.framingDiscard (s : State) : State :=
  { s with assembler := .hunt, framingErrors := satAdd 65535 s.framingErrors 1 }

/-- R164, R165: the frame in the assembler discarded, a check error counted. -/
def State.checkDiscard (s : State) : State :=
  { s with assembler := .hunt, checkErrors := satAdd 65535 s.checkErrors 1 }

/-- R164: a good byte by the state of the assembler. -/
def State.takeByte (s : State) (b : Byte) : State :=
  match s.assembler with
  | .hunt => if b = startByte then { s with assembler := .length } else s
  | .length =>
    if 1 ≤ b.toNat ∧ b.toNat ≤ 200 then { s with assembler := .body b [] } else s.framingDiscard
  | .body len taken =>
    if (taken ++ [b]).length = len.toNat then { s with assembler := .check len (taken ++ [b]) none }
    else { s with assembler := .body len (taken ++ [b]) }
  | .check len body none => { s with assembler := .check len body (some b) }
  | .check len body (some c) =>
    if crc16 (len :: body) = c ++ b then ({ s with assembler := .hunt } : State).offer body else s.checkDiscard

/-- BYTE_RECEIVED (R164). -/
def execByteReceived (b : Byte) (s : State) : Outcome := .next (s.takeByte b)

/-- FRAME_GAP_TIMEOUT (R164): a gap inside a frame; in HUNT there is no frame. -/
def execFrameGapTimeout (s : State) : Outcome := .next (if s.assembler = .hunt then s else s.framingDiscard)

/-- FRAMING_ERROR (R164): a byte error inside a frame, or a bad length byte in LENGTH. -/
def execFramingError (badLength : Option Byte) (s : State) : Outcome :=
  .next
    (match badLength, s.assembler with
     | none, .hunt => s
     | none, _ => s.framingDiscard
     | some b, .length => if 1 ≤ b.toNat ∧ b.toNat ≤ 200 then s else s.framingDiscard
     | some _, _ => s)

/-- CHECK_ERROR (R164): the second check byte arrives and disagrees. -/
def execCheckError (s : State) : Outcome :=
  .next
    (match s.assembler with
     | .check _ _ (some _) => s.checkDiscard
     | _ => s)

/-- FRAME_COMPLETE (R164, R166): a frame with this body is complete and offered to the input hold. -/
def execFrameComplete (body : List Byte) (s : State) : Outcome :=
  .next (({ s with assembler := .hunt } : State).offer body)

/-- REPLY_SENT (R166). -/
def execReplySent (s : State) : Outcome := .next s.nextFrame

end Sys2Proof.Machine
end

