-- ==== Sys2Proof/Machine/Dispatch.lean ====
section
/-! DEFINITION. The dispatch of commands: one arm for each row of the table. -/

namespace Sys2Proof.Machine

open Sys2Proof

/-- The effect of a command on everything but the queue of waiting commands. -/
def exec (i : Instr) (s : State) : Host.Outcome State Fault Refusal :=
  match i with
  | .fullReset pos mspd => Sys2Proof.Machine.execFullReset pos mspd s
  | .presenceSample p => Sys2Proof.Machine.execPresenceSample p s
  | .presNChange p level => Sys2Proof.Machine.execPresNChange p level s
  | .noAnswer p => Sys2Proof.Machine.execNoAnswer p s
  | .descriptorAnswered p b0 b1 b2 b3 b4 => Sys2Proof.Machine.execDescriptorAnswered p b0 b1 b2 b3 b4 s
  | .markTransmit p quality => Sys2Proof.Machine.execMarkTransmit p quality s
  | .signalGained p lane => Sys2Proof.Machine.execSignalGained p lane s
  | .signalLost p lane => Sys2Proof.Machine.execSignalLost p lane s
  | .markArrived p lane block stamp => Sys2Proof.Machine.execMarkArrived p lane block stamp s
  | .syncMissing p lane => Sys2Proof.Machine.execSyncMissing p lane s
  | .violations p counts => Sys2Proof.Machine.execViolations p counts s
  | .lockLost p lane => Sys2Proof.Machine.execLockLost p lane s
  | .uptimeTick => Sys2Proof.Machine.execUptimeTick s
  | .surveyWindowExpiry p => Sys2Proof.Machine.execSurveyWindowExpiry p s
  | .settleExpiry p => Sys2Proof.Machine.execSettleExpiry p s
  | .checkQuietExpiry p h => Sys2Proof.Machine.execCheckQuietExpiry p h s
  | .checkBoundExpiry p h => Sys2Proof.Machine.execCheckBoundExpiry p h s
  | .retainedDwellEnd p h => Sys2Proof.Machine.execRetainedDwellEnd p h s
  | .listDwellEnd p h => Sys2Proof.Machine.execListDwellEnd p h s
  | .trainingTimerExpiry p h => Sys2Proof.Machine.execTrainingTimerExpiry p h s
  | .regroupTimerExpiry p h => Sys2Proof.Machine.execRegroupTimerExpiry p h s
  | .recheckTimerExpiry p h => Sys2Proof.Machine.execRecheckTimerExpiry p h s
  | .probeTimerExpiry p h => Sys2Proof.Machine.execProbeTimerExpiry p h s
  | .locateBlinkToggle => Sys2Proof.Machine.execLocateBlinkToggle s
  | .frameGapTimeout => Sys2Proof.Machine.execFrameGapTimeout s
  | .framingError badLength => Sys2Proof.Machine.execFramingError badLength s
  | .checkError => Sys2Proof.Machine.execCheckError s
  | .frameComplete body => Sys2Proof.Machine.execFrameComplete body s
  | .replySent => Sys2Proof.Machine.execReplySent s
  | .unknownRequest code rest => Sys2Proof.Machine.execUnknownRequest code rest s
  | .ident tag => Sys2Proof.Machine.execIdent tag s
  | .status tag clear => Sys2Proof.Machine.execStatus tag clear s
  | .modeActive tag => Sys2Proof.Machine.execModeActive tag s
  | .modeSetup tag => Sys2Proof.Machine.execModeSetup tag s
  | .node tag chassis => Sys2Proof.Machine.execNode tag chassis s
  | .timing tag v => Sys2Proof.Machine.execTiming tag v s
  | .timingQuery tag => Sys2Proof.Machine.execTimingQuery tag s
  | .preset tag number amplitude emphasis => Sys2Proof.Machine.execPreset tag number amplitude emphasis s
  | .presetQuery tag => Sys2Proof.Machine.execPresetQuery tag s
  | .planTag tag value => Sys2Proof.Machine.execPlanTag tag value s
  | .planSet tag port form a b => Sys2Proof.Machine.execPlanSet tag port form a b s
  | .planClear tag port => Sys2Proof.Machine.execPlanClear tag port s
  | .planGet tag port => Sys2Proof.Machine.execPlanGet tag port s
  | .portOn tag port => Sys2Proof.Machine.execPortOn tag port s
  | .portOff tag port => Sys2Proof.Machine.execPortOff tag port s
  | .resurvey tag port => Sys2Proof.Machine.execResurvey tag port s
  | .train tag port half => Sys2Proof.Machine.execTrain tag port half s
  | .isolate tag port half => Sys2Proof.Machine.execIsolate tag port half s
  | .recover tag port half => Sys2Proof.Machine.execRecover tag port half s
  | .portGet tag port sect => Sys2Proof.Machine.execPortGet tag port sect s
  | .laneGet tag port lane => Sys2Proof.Machine.execLaneGet tag port lane s
  | .historyGet tag port => Sys2Proof.Machine.execHistoryGet tag port s
  | .snapArm tag port half mode => Sys2Proof.Machine.execSnapArm tag port half mode s
  | .snapGet tag port half => Sys2Proof.Machine.execSnapGet tag port half s
  | .indicate tag port source invert direct => Sys2Proof.Machine.execIndicate tag port source invert direct s
  | .locate tag port => Sys2Proof.Machine.execLocate tag port s
  | .filter tag number enable kinds ports => Sys2Proof.Machine.execFilter tag number enable kinds ports s
  | .fetch tag count => Sys2Proof.Machine.execFetch tag count s
  | .focusSet tag target => Sys2Proof.Machine.execFocusSet tag target s
  | .focusClear tag => Sys2Proof.Machine.execFocusClear tag s
  | .focusRead tag => Sys2Proof.Machine.execFocusRead tag s
  | .restart tag => Sys2Proof.Machine.execRestart tag s
  | .byteReceived b => Sys2Proof.Machine.execByteReceived b s
  | .acceptanceAtOnce p => Sys2Proof.Machine.execAcceptanceAtOnce p s

end Sys2Proof.Machine
end

