-- ==== Sys2Proof/Safety.lean ====
section
/-! DEFINITION. The terms of the statements: the frames of a command, what a verdict, a protocol run and a live
link's end leave, the form of a request; and the invariants that every state of a run satisfies, each of which
holds after full reset and is kept by every step. -/

namespace Sys2Proof.Machine

open Sys2Proof

/-! ### Frames: what a command of one link leaves as it is -/

/-- A lane without its link part. -/
def LaneUnit.bare (x : LaneUnit) : LaneUnit := { x with preset := 0, best := none, delay := 0, active := false }

/-- A port without positions, history and the link parts of its lanes. -/
def PortUnit.bare (q : PortUnit) : PortUnit :=
  { q.mapLanes (fun _ x => x.bare) with posA := {}, posB := {}, history := [], wrapped := false }

/-- The state without what the Link Engine and the Notice Unit change. -/
def State.bare (s : State) : State :=
  { s with queue := [], overrun := 0, ports := s.ports.map PortUnit.bare }

/-- What a command at another link may do to a position: nothing, or the release of R72. -/
def Position.Kept (now : Uptime) (x y : Position) : Prop :=
  y = x ∨ ∃ l, x.link = some l ∧ l.state = .blocked ∧ l.reason = some .duplicatePeer ∧
    y = { x with link := some (l.toChecking now) }

/-- From `s` to `t` only the link (`p`, `h`) is acted on: the bare state is the same, every other position is
kept or released by R72, every lane outside the link's span is the same, and so is the history of every other
port that has no link released. -/
structure State.OthersKept (s t : State) (p : Port) (h : Half) : Prop where
  bare : t.bare = s.bare
  positions : ∀ p' h', ¬ (p' = p ∧ h' = h) → (s.pos p' h').Kept s.uptime (t.pos p' h')
  lanes : ∀ p' i, ¬ (p' = p ∧ (s.port p).ofHalf h i = true) → (t.port p').lane i = (s.port p').lane i
  histories : ∀ p', p' ≠ p → (∀ h', t.pos p' h' = s.pos p' h') →
    (t.port p').history = (s.port p').history ∧ (t.port p').wrapped = (s.port p').wrapped

/-- R72: whether a position's link waits for a far identity that another link holds. -/
def Position.waits (x : Position) : Bool :=
  x.link.any fun l => l.state == .blocked && l.reason == some .duplicatePeer

/-- R72: the position after a link of the part has departed: a waiting link enters CHECKING, any other position
is as it was. -/
def Position.released (x : Position) (now : Uptime) : Position :=
  if x.waits then { x with link := x.link.map fun l => l.toChecking now } else x

/-- R72: from `s` to `t` the link at (`p`, `h`) departs: it leaves VERIFIED, TRAINING and UP. A move between those
three is no departure. -/
def State.departs (s t : State) (p : Port) (h : Half) : Bool := holds (s.link p h) && !holds (t.link p h)

/-- R154: the history entry of a change of the link of half `h`, made now. -/
def State.moved (s : State) (h : Half) (left entered : Option LinkState) (reason : Reason) : HistEntry :=
  ⟨s.uptime, .link h left entered, reason⟩

/-- R72, R154: the history entries that port `p'` gets when the link at (`p`, `h`) departs: one for each link of
the port that waits, half A before half B. -/
def State.releaseEntries (s : State) (p : Port) (h : Half) (p' : Port) : List HistEntry :=
  ([Half.A, Half.B].filter fun h' => (p', h') != (p, h) && (s.pos p' h').waits).map fun h' =>
    s.moved h' (some .blocked) (some .checking) .peerReleased

/-- R154: from `s` to `t` exactly these entries have been appended to the history of port `p`. -/
def State.Appended (s t : State) (p : Port) (entries : List HistEntry) : Prop :=
  (t.port p).history = (entries.foldl PortUnit.append (s.port p)).history ∧
    (t.port p).wrapped = (entries.foldl PortUnit.append (s.port p)).wrapped

/-- R152: the snapshot record of the UP link `l` as it leaves UP, with the score before the change and the far
identity after it. -/
def State.upRecord (s : State) (p : Port) (h : Half) (l : Link) (reason : Reason) (score : Nat)
    (far : Option FarId) : SnapRecord :=
  { time := s.uptime, left := some .up, reason := reason, width := groupWidth l.agree.active
    start := l.agree.active.map fun g => g.start, score := score, usable := (s.port p).usable h l
    far := far, noticeLoss := s.noticeLoss }

/-- R152: the snapshot record of a link that enters BLOCKED or ISOLATED as `k`, from the state `left`, which is
not UP. -/
def State.entryRecord (s : State) (p : Port) (h : Half) (left : Option LinkState) (k : Link)
    (reason : Reason) : SnapRecord :=
  { time := s.uptime, left := left, reason := reason, width := 0, start := none, score := k.sup.score
    usable := (s.port p).usable h k, far := k.far, noticeLoss := s.noticeLoss }

/-- R152: the snapshot record of the link `l` that enters BLOCKED or ISOLATED as `k`: the record of leaving UP
where it was UP, by `down`, else the record of the entry, by `cause`. -/
def State.lostRecord (s : State) (p : Port) (h : Half) (l k : Link) (down cause : Reason) : SnapRecord :=
  if l.state = .up then s.upRecord p h l down l.sup.score k.far else s.entryRecord p h (some l.state) k cause

/-- R151: the snapshot after a change of link state, which makes a capture attempt with the record given, or
none. -/
def Snapshot.after (x : Snapshot) (cap : Option SnapRecord) : Snapshot :=
  match cap with
  | some r => x.attempt r
  | none => x

/-- R69, R72, R151, R154: from `s` to `t` only the link (`p`, `h`) is acted on. Where it departs, every other link
that waits enters CHECKING, and where it does not depart no other position changes; the histories get the
entries `own` of the link and one entry for each link released, and no other; and the snapshot of the position
has the capture attempt `cap`, or none. -/
structure State.ActsAt (s t : State) (p : Port) (h : Half) (own : List HistEntry) (cap : Option SnapRecord) :
    Prop where
  others : s.OthersKept t p h
  peers : ∀ p' h', ¬ (p' = p ∧ h' = h) →
    t.pos p' h' = if s.departs t p h then (s.pos p' h').released s.uptime else s.pos p' h'
  histories : ∀ p', s.Appended t p' ((if p' = p then own else []) ++
    (if s.departs t p h then s.releaseEntries p h p' else []))
  snap : (t.pos p h).snap = (s.pos p h).snap.after cap

/-- The state without ports and notices: what the commands of a port leave as it is. -/
def State.rest (s : State) : State := { s with queue := [], overrun := 0, ports := Vector.replicate 16 {} }

/-- R72: from `s` to `t` some link of port `p` departs. -/
def State.portDeparts (s t : State) (p : Port) : Bool := s.departs t p .A || s.departs t p .B

/-- R72, R154: from `s` to `t` only port `p` is acted on. Where a link of it departs, every waiting link of
another port enters CHECKING with its history entry; any other port keeps everything. -/
def State.PortsKept (s t : State) (p : Port) : Prop :=
  ∀ p', p' ≠ p → (t.port p').bare = (s.port p').bare ∧ (t.port p').lanes = (s.port p').lanes ∧
    (∀ h, t.pos p' h = if s.portDeparts t p then (s.pos p' h).released s.uptime else s.pos p' h) ∧
    s.Appended t p' (if s.portDeparts t p then s.releaseEntries p .A p' else [])

/-- R72, R154: the history entries of the removal of port `p`'s links: link A's, then that of link B where link A's
departure releases it, then link B's. -/
def State.removalEntries (s : State) (p : Port) (reason : Reason) : List HistEntry :=
  (match s.link p .A with
   | some a => [s.moved .A (some a.state) none reason]
   | none => []) ++
  (match s.link p .B with
   | some b =>
     if holds (s.link p .A) && (s.pos p .B).waits then
       [s.moved .B (some .blocked) (some .checking) .peerReleased, s.moved .B (some .checking) none reason]
     else [s.moved .B (some b.state) none reason]
   | none => [])

/-- R151 (1), R152: from `s` to `t` the links of port `p` have been removed: the snapshot of each position whose
link was UP has its capture attempt, and no other has one. -/
def State.RemovalCaptured (s t : State) (p : Port) (reason : Reason) : Prop :=
  ∀ h, (t.pos p h).snap = (s.pos p h).snap.after
    (match s.link p h with
     | some l => if l.state = .up then some (s.upRecord p h l reason l.sup.score l.far) else none
     | none => none)

/-- R72, R151, R154: from `s` to `t` the links of port `p` have been removed with their captures, and the port has
taken the state `entered`, its own history entry after theirs. -/
def State.Removed (s t : State) (p : Port) (entered : PortState) (reason : Reason) : Prop :=
  s.RemovalCaptured t p reason ∧
    s.Appended t p (s.removalEntries p reason ++ [⟨s.uptime, .port (s.port p).state entered, reason⟩])

/-- The settings of a port that no removal, survey or edit of its links touches (R9, R11, R15, R19, R21). -/
def PortUnit.SettingsKept (q t : PortUnit) : Prop :=
  t.gridStart = q.gridStart ∧ t.indSource = q.indSource ∧ t.indInvert = q.indInvert ∧
    t.indDirect = q.indDirect ∧ t.stampCounter = q.stampCounter

/-- R9, R11: no lane of the port sends, and every record is cleared. -/
def PortUnit.Silent (t : PortUnit) : Prop :=
  ∀ i, (t.lane i).txMark = none ∧ (t.lane i).rx = {} ∧ (t.lane i).correction = false ∧
    (t.lane i).active = false ∧ (t.lane i).delay = 0

/-- R7, R31, R57: port `t` has entered SURVEY now, from `q`, with the survey window `window`. -/
def PortUnit.Surveys (q t : PortUnit) (now : Uptime) (window : Nat) : Prop :=
  t.state = .survey ∧ t.desc = q.desc ∧ t.windowTimer = some ⟨now, window⟩ ∧ t.settleTimer = some ⟨now, 20⟩ ∧
    ∀ i, (t.lane i).rx = { status := if q.inSpan i && (q.lane i).signal then .signal else .quiet } ∧
      (t.lane i).correction = false ∧ (t.lane i).active = false ∧ (t.lane i).delay = 0

/-- The LINK_DOWN notices of the live links that port `p` has in `s`, filed in `u`, half A before half B (R9,
R11, R13, R49). -/
def State.downNoticesIn (s u : State) (p : Port) (reason : Reason) : State :=
  [Half.A, Half.B].foldl (fun u h =>
    match s.link p h with
    | some l => if l.live then u.postLink p h (l.downNotice reason) else u
    | none => u) u

/-- The LINK_DOWN notices of the live links of a port that are removed. -/
def State.downNotices (s : State) (p : Port) (reason : Reason) : State := s.downNoticesIn s p reason

/-- The state within an event: its captures read the notice loss as it stood before the event (R152). -/
def State.event (s : State) : State := { s with eventLoss := some s.noticeLoss }

/-- The state after an event that began in `s`. -/
def State.after (s t : State) : State := { t with eventLoss := s.eventLoss }

/-! ### Verdicts -/

/-- R69, R135: the notices of a verdict of the link at (`p`, `h`): VERDICT, then ISOLATED where a residue is
taken. -/
def State.verdictNotices (s : State) (p : Port) (h : Half) : State :=
  match s.checks p h ((s.port p).observe h) none, (s.pos p h).residue with
  | some r, _ => s.postLink p h (((s.port p).observe h).notice .blocked (some r))
  | none, none => s.postLink p h (((s.port p).observe h).notice .verified none)
  | none, some x =>
    (s.postLink p h (((s.port p).observe h).notice .isolated none)).postLink p h (.isolated .residue x)

/-- R69, R154: the history entries of a verdict that leaves the link at (`p`, `h`) as `k`: the change from the state
it held, where the state or the reason changes, and the start of training where one follows. -/
def State.verdictEntries (s : State) (p : Port) (h : Half) (k : Link) (hist : Reason → Reason) : List HistEntry :=
  let left := (s.link p h).map fun l => l.state
  let held := (s.link p h).bind fun l => l.reason
  match s.checks p h ((s.port p).observe h) none, (s.pos p h).residue with
  | some r, _ =>
    if left = some .blocked ∧ held = some r then [] else [s.moved h left (some .blocked) (hist r)]
  | none, none =>
    s.moved h left (some .verified) (hist .pass) ::
      (if k.state = .training then [s.moved h (some .verified) (some .training) .start] else [])
  | none, some _ =>
    if left = some .isolated ∧ held = none then [] else [s.moved h left (some .isolated) (hist .residue)]

/-- R151 (2), (3), R152: the capture attempt of a verdict that leaves the link at (`p`, `h`) as `k`: one where it
enters BLOCKED or ISOLATED from another state, or at its creation. -/
def State.verdictCapture (s : State) (p : Port) (h : Half) (k : Link) : Option SnapRecord :=
  let left := (s.link p h).map fun l => l.state
  match s.checks p h ((s.port p).observe h) none, (s.pos p h).residue with
  | some r, _ => if left = some .blocked then none else some (s.entryRecord p h left k r)
  | none, none => none
  | none, some _ => if left = some .isolated then none else some (s.entryRecord p h left k .residue)

/-- R67 to R70, R72, R80, R109, R151: from `s` to `t` the link at (`p`, `h`), `l` without what it leaves behind,
has had its verdict: it takes the observations; a failure blocks it with its reason and without grant or role,
its residue kept; a pass verifies it, and starts its training at once where the start test is met, unless a removal
falls together with its creation (R60, log entry 30), or takes the residue into ISOLATED; another far identity
invalidates the retained context; the changes are recorded in the history, with the reasons that `hist` gives, and
the entry to BLOCKED or ISOLATED in the snapshot. -/
def State.Judged (s t : State) (p : Port) (h : Half) (l : Link) (hist : Reason → Reason) : Prop :=
  ∃ (o : Obs) (k : Link), o = (s.port p).observe h ∧ t.link p h = some k ∧
    k.far = o.far ∧ k.map = o.map ∧ k.polarity = o.polarity ∧ k.expWidth = o.width ∧ k.attempts = l.attempts ∧
    (match s.checks p h o none, (s.pos p h).residue with
     | some r, _ =>
        k.state = .blocked ∧ k.reason = some r ∧ k.grant = false ∧ k.agree.role = none ∧
        k.sup.score = l.sup.score ∧ (t.pos p h).residue = (s.pos p h).residue
     | none, none =>
        k.state = (if (s.port p).permitted h l = true ∧ (s.port p).farReady h { l with far := o.far } = true ∧
          s.noStart p (s.link p h) = false then .training else .verified) ∧
        k.reason = none ∧ k.grant = l.grant ∧ k.sup.score = l.sup.score ∧
        k.agree.role = o.far.map (fun f => roleOf (s.linkId p h) f) ∧ (t.pos p h).residue = none
     | none, some x =>
        k.state = .isolated ∧ k.reason = none ∧ k.grant = l.grant ∧ k.sup.score = x ∧
        k.sup.isoCause = some .residue ∧ k.sup.probeTimer = some ⟨s.uptime, 10⟩ ∧
        k.sup.probeSet = (s.port p).confirmedSet h o.far ∧ (t.pos p h).residue = none) ∧
    (t.pos p h).context =
      (match o.far, (s.pos p h).context with
       | some f, some c => if c.far = f then some c else none
       | _, x => x) ∧
    s.ActsAt t p h (s.verdictEntries p h k hist) (s.verdictCapture p h k)

/-- R69, R52: the history reasons of a verdict after a plan edit. -/
def planReason : Reason → Reason := fun _ => .planChange

/-- R69, R137: the history reasons of the verdict that ends a recovery. -/
def recoveryReason (r : Reason) : Reason := if r = .pass then .recovered else r

/-- R50 to R52: from `s` to `t`, both within the event of a plan edit, the link at (`p`, `h`) has been
re-evaluated against the entry that `s` holds: a CHECKING or ISOLATED link is left alone, a BLOCKED one has a
verdict, an attempt count that ended in TRAIN_FAILED set to 0, and any other is blocked by a failing verdict,
or keeps its state with the observations of a passing one, and is then tested or runs its protocol. -/
def State.Reevaluated (s t : State) (p : Port) (h : Half) : Prop :=
  (s.link p h = none → t = s) ∧
    ∀ (l : Link) (o : Obs) (w : Option Nat), s.link p h = some l → o = (s.port p).observe h →
      w = (if l.state = .up then some (groupWidth l.agree.active) else none) →
      (l.state = .checking ∨ l.state = .isolated → t = s) ∧
      (l.state = .blocked →
        s.Judged t p h { l with attempts := if l.reason = some .trainFailed then 0 else l.attempts } planReason ∧
        t.queue = (s.verdictNotices p h).queue) ∧
      (l.state = .verified ∨ l.live = true → ∀ r, s.checks p h o w = some r →
        (∃ k, t.link p h = some k ∧ k.state = .blocked ∧ k.reason = some r ∧ k.far = o.far ∧ k.map = o.map ∧
          k.polarity = o.polarity ∧ k.expWidth = o.width ∧ k.grant = false ∧ k.attempts = l.attempts ∧
          k.agree.role = none ∧ k.agree.active = (if l.live then none else l.agree.active) ∧
          s.ActsAt t p h [s.moved h (some l.state) (some .blocked) .planChange]
            (some (s.lostRecord p h l k .planChange r))) ∧
        t.queue = (if l.live then (s.postLink p h (o.notice .blocked (some r))).postLink p h
            (l.downNotice .planChange)
          else s.postLink p h (o.notice .blocked (some r))).queue) ∧
      (l.state = .verified ∨ l.live = true → s.checks p h o w = none → ∀ u : State,
        u = (s.setLink p h (some { l with
            reason := none, far := o.far, map := o.map, polarity := o.polarity, expWidth := o.width
            agree := { l.agree with role := o.far.map fun f => roleOf (s.linkId p h) f } })).postLink p h
          (o.notice l.state none) →
        t = (match l.state, l.training.stage with
          | .verified, _ => u.startTest p h
          | .up, _ => u.upProtocol p h
          | .training, some .deskew => u.deskewDrop restartByTest p h
          | .training, some .align => u.alignRun restartByTest p h
          | _, _ => u))

/-! ### Live links -/

/-- R82, R84, R96, R103, R106, R125: link `k` is the live link `l` after it has left TRAINING or UP without a
verdict: its marks, group, stage, timers and level are gone, a recheck in flight is abandoned, and it keeps
its shed set, measurements, score, grant, attempts and observations. -/
def Link.Stopped (l k : Link) (now : Uptime) : Prop :=
  k.marks = {} ∧ k.agree = { role := l.agree.role, shed := l.agree.shed } ∧
    k.training.stage = none ∧ k.training.timer = none ∧ k.training.dwell = none ∧
    k.training.lastFailure = l.training.lastFailure ∧
    k.align.skew = l.align.skew ∧ k.align.windowLane = l.align.windowLane ∧ k.align.spread = l.align.spread ∧
    k.align.recheckState = .idle ∧ k.align.recheckTimer = none ∧
    (l.align.recheckState = .collecting →
      k.align.lastOutcome = .abandoned ∧ k.align.lastTime = some now) ∧
    k.sup.level = none ∧ k.sup.score = l.sup.score ∧ k.grant = l.grant ∧ k.attempts = l.attempts ∧
    k.far = l.far ∧ k.map = l.map ∧ k.polarity = l.polarity ∧ k.expWidth = l.expWidth

/-- R132 (2): the lanes of a half of port `p` carry no traffic and have no delay. -/
def State.Released (t : State) (p : Port) (h : Half) (q : PortUnit) : Prop :=
  ∀ i, q.ofHalf h i = true → ((t.port p).lane i).active = false ∧ ((t.port p).lane i).delay = 0

/-- R72, R73, R92, R105, R129, R132, R151: from `s` to `t` the UP link `l` has gone down to CHECKING with this
reason. -/
def State.GoesDown (s t : State) (p : Port) (h : Half) (l : Link) (reason : Reason) : Prop :=
  (∃ k, t.link p h = some k ∧ k.state = .checking ∧ k.checkEntry = some s.uptime ∧
      k.quiet = some ⟨s.uptime, 20⟩ ∧ l.Stopped k s.uptime) ∧
    t.Released p h (s.port p) ∧
    t.queue = (s.postLink p h (.linkDown reason .up (groupWidth l.agree.active))).queue ∧
    s.ActsAt t p h [s.moved h (some .up) (some .checking) reason] (some (s.upRecord p h l reason l.sup.score l.far))

/-- R119, R72, R151: from `s` to `t` the attempt of the TRAINING link `l` has ended as a counted failure: below the
maximum the link returns to VERIFIED, and trains again at once where the start test is met; at the maximum it is
BLOCKED with TRAIN_FAILED without its grant, with its snapshot; TRAIN_RETRY is posted either way. -/
def State.Fails (s t : State) (p : Port) (h : Half) (l : Link) (cause : Reason) : Prop :=
  ∃ k, t.link p h = some k ∧ k.attempts = l.attempts + 1 ∧ k.training.lastFailure = some cause ∧ k.marks = {} ∧
    k.far = l.far ∧ k.agree.active = none ∧
    t.queue = (s.postLink p h (.trainRetry cause (l.attempts + 1) l.training.stage)).queue ∧
    (l.attempts + 1 < s.timing.maxAttempts → k.grant = l.grant ∧
      k.state = (if (s.port p).permitted h l = true ∧ (s.port p).farReady h l = true then .training
        else .verified) ∧
      s.ActsAt t p h (s.moved h (some .training) (some .verified) cause ::
        (if k.state = .training then [s.moved h (some .verified) (some .training) .start] else [])) none) ∧
    (s.timing.maxAttempts ≤ l.attempts + 1 → k.state = .blocked ∧ k.reason = some .trainFailed ∧
      k.grant = false ∧ k.training.stage = none ∧ k.training.timer = none ∧
      s.ActsAt t p h [s.moved h (some .training) (some .blocked) .trainFailed]
        (some (s.entryRecord p h (some .training) k .trainFailed)))

/-- R86: the JUNIOR link `l` adopts the group `g`: its reference lane hears a candidate group that translates to
`g`, inside the usable set, not below the minimum width and, while UP, inside the active group. -/
def PortUnit.JuniorTakes (q : PortUnit) (h : Half) (l : Link) (g : Group) : Prop :=
  ∃ k heard, q.reference h l = some k ∧ k.proposal = some heard ∧ heard ∈ candidateGroups (q.span h) ∧
    l.mapping.group (q.span h) heard = some g ∧
    (∀ r, LaneSet.has g.lanes r = true → LaneSet.has (q.usable h l) r = true) ∧ q.minWidth h ≤ g.width ∧
    (l.state = .up → ∀ r, LaneSet.has g.lanes r = true → LaneSet.has (groupLanes l.agree.active) r = true)

/-- R85: the group the selection rule gives for the lanes usable at both ends, confined to the active group
while UP, where it is not below the minimum width. Without one the link is narrow (R88). -/
def PortUnit.Selects (q : PortUnit) (h : Half) (l : Link) (g : Group) : Prop :=
  ∃ S : LaneSet, select (q.span h) S = some g ∧ q.minWidth h ≤ g.width ∧
    ∀ r, LaneSet.has S r = true ↔ LaneSet.has (q.usable h l) r = true ∧
      LaneSet.has (l.mapping.set (q.span h) (q.farUsable h l)) r = true ∧
      (l.state = .up → LaneSet.has (groupLanes l.agree.active) r = true)

/-- R85 to R87: `k` is the link `l` after a run of the protocol in which it selects `g`. A SENIOR or SELF end
proposes `g` and adopts it when the far proposal echoes it and, at a SENIOR end, the far end accepts; a JUNIOR
end adopts what passes its test, or withdraws its accept. -/
def PortUnit.Agrees (q : PortUnit) (h : Half) (l : Link) (g : Group) (k : Link) : Prop :=
  k = { l with agree := { l.agree with
    proposal := k.agree.proposal, accept := k.agree.accept, active := k.agree.active } } ∧
  (l.agree.role = some .junior →
    (∀ g', q.JuniorTakes h l g' → k.agree.proposal = some g' ∧ k.agree.accept = true ∧ k.agree.active = some g') ∧
    ((∀ g', ¬ q.JuniorTakes h l g') → k.agree.accept = false ∧
      k.agree.proposal = (if l.state = .up then l.agree.active else none) ∧
      k.agree.active = (if l.state = .up then l.agree.active else none))) ∧
  (∀ r, l.agree.role = some r → r ≠ .junior →
    k.agree.proposal = some g ∧
    (q.farProposal h l = some g → (q.farAccept h l = true ∨ r = .self) →
      k.agree.accept = true ∧ k.agree.active = some g) ∧
    (¬ (q.farProposal h l = some g ∧ (q.farAccept h l = true ∨ r = .self)) →
      k.agree.active = l.agree.active ∧
      (k.agree.accept = true ↔ l.agree.accept = true ∧ l.agree.proposal = some g)))

/-- R116: a link in ALIGN that has adopted enters UP, a JUNIOR one once its reference lane hears LINK. -/
def PortUnit.Ready (q : PortUnit) (h : Half) (l : Link) : Prop :=
  l.agree.active.isSome = true ∧ l.agree.accept = true ∧
    (l.agree.role = some .junior → ∃ k, q.reference h l = some k ∧ k.phase = .link)

/-- R92: the regroup fields of the link `l` after a run that leaves it as `k`: started now where a regroup has
become pending, cleared where none is. -/
def State.RegroupOf (s : State) (p : Port) (h : Half) (l k k' : Link) : Prop :=
  ((s.port p).regroupPending h k = false → k'.agree.regroupStart = none ∧ k'.agree.regroupTimer = none) ∧
    ((s.port p).regroupPending h k = true → l.agree.regroupStart = none →
      k'.agree.regroupStart = some s.uptime ∧ k'.agree.regroupTimer = some ⟨s.uptime, s.timing.timeout⟩) ∧
    ((s.port p).regroupPending h k = true → l.agree.regroupStart.isSome = true →
      k'.agree.regroupStart = l.agree.regroupStart ∧ k'.agree.regroupTimer = l.agree.regroupTimer)

/-- R117, R122, R127: from `s` to `t` the link `l`, which holds the adopted group `g`, has entered UP: the group
and its delays are applied, the retained context stored, the recheck timer and the counters set, and the
history entry and the notices LINK_UP and, where the level is not GOOD, HEALTH made. -/
def State.ComesUp (s t : State) (p : Port) (h : Half) (l : Link) (g : Group) : Prop :=
  (∃ k, t.link p h = some k ∧ k.state = .up ∧ k.attempts = 0 ∧ k.agree.proposal = l.agree.proposal ∧
      k.agree.accept = l.agree.accept ∧ k.agree.active = some g ∧ k.agree.shed = l.agree.shed ∧
      k.training.stage = none ∧ k.training.timer = none ∧ k.marks = l.marks ∧ k.align.skew = l.align.skew ∧
      k.align.recheckTimer = (if s.timing.recheck = .off then none
        else some ⟨s.uptime, s.timing.recheck.seconds * 1000⟩) ∧
      k.sup.upEntries = min 65535 (l.sup.upEntries + 1) ∧ k.sup.score = l.sup.score ∧ k.sup.judging = false ∧
      k.sup.level = some (levelOf s.timing.warning l.sup.score) ∧ k.grant = l.grant ∧ k.far = l.far ∧
      k.map = l.map ∧ s.RegroupOf p h l l k) ∧
    (∀ i, (s.port p).ofHalf h i = true →
      ((t.port p).lane i).active = LaneSet.has g.lanes (relLane h i) ∧
      ((t.port p).lane i).delay = deskewDelay l.align.skew g.lanes (relLane h i)) ∧
    (∀ f, l.far = some f → ∃ c, (t.pos p h).context = some c ∧ c.far = f ∧ c.group = g ∧
      ∀ r : Fin 8, c.presets[r] =
        if LaneSet.has g.lanes r then some ((s.port p).rel h r).preset else none) ∧
    t.queue = (if healthNotice (l.sup.level.getD .good) (levelOf s.timing.warning l.sup.score) then
        (s.postLink p h (.linkUp g l.map)).postLink p h
          (.health (l.sup.level.getD .good) (levelOf s.timing.warning l.sup.score) l.sup.score)
      else s.postLink p h (.linkUp g l.map)).queue ∧
    s.ActsAt t p h [s.moved h (some .training) (some .up) .trained] none

/-- R116, R117: from `s` to `t` the link at (`p`, `h`), in ALIGN, has become `l` and enters UP if it may. -/
def State.Aligns (s t : State) (p : Port) (h : Half) (l : Link) : Prop :=
  (∀ g, (s.port p).Ready h l → l.agree.active = some g → s.ComesUp t p h l g) ∧
    (¬ (s.port p).Ready h l → t = s.setLink p h (some l))

/-! ### Requests -/

/-- R42, R46, Chapter 12: the 13 bytes of an expectation are in range in an entry of this form, and mean `x`. A
preset byte beyond the count means nothing (log entry 16). -/
def ExpectationMeans (r : RawExpectation) (form : Form) (x : Expectation) : Prop :=
  ((r.chassis = 0xFF ∧ x.chassis = none) ∨
    (1 ≤ r.chassis.toNat ∧ r.chassis.toNat ≤ 250 ∧ x.chassis = some r.chassis)) ∧
  ((r.position = 0xFF ∧ x.position = none) ∨ ∃ v : BitVec 2, x.position = some v ∧ r.position.toNat = v.toNat) ∧
  ((r.port = 0xFF ∧ x.port = none) ∨ ∃ v : BitVec 4, x.port = some v ∧ r.port.toNat = v.toNat) ∧
  ((r.half = 0xFF ∧ x.half = none) ∨ (r.half = 0 ∧ x.half = some .A) ∨ (r.half = 1 ∧ x.half = some .B)) ∧
  x.minWidth = r.minWidth.toNat ∧ x.minWidth ∈ [1, 2, 4, 8] ∧ (form = .split → x.minWidth ≤ 4) ∧
  ((r.reversal = 0 ∧ x.reversal = false) ∨ (r.reversal = 1 ∧ x.reversal = true)) ∧
  ((r.autoTrain = 0 ∧ x.autoTrain = false) ∨ (r.autoTrain = 1 ∧ x.autoTrain = true)) ∧
  r.presetCount.toNat ≤ 4 ∧
  x.presets = ([r.preset1.toNat, r.preset2.toNat, r.preset3.toNat, r.preset4.toNat]).take r.presetCount.toNat ∧
  (∀ n ∈ x.presets, n ≤ 7) ∧ x.presets.Nodup ∧
  ((r.minGrade = 0xFF ∧ x.minGrade = 6) ∨ (r.minGrade.toNat ≤ 15 ∧ x.minGrade = r.minGrade.toNat))

/-- Chapter 12: the body lengths that the message of a code defines, its code and tag counted. -/
def bodyLengths (code : Nat) : List Nat :=
  match code with
  | 1 => [2]
  | 2 => [3]
  | 3 => [3]
  | 4 => [3]
  | 5 => [2, 10]
  | 6 => [2, 5]
  | 7 => [3]
  | 8 => [17, 30]
  | 10 => [3]
  | 11 => [3]
  | 12 => [3]
  | 13 => [3]
  | 14 => [3]
  | 15 => [4]
  | 16 => [4]
  | 17 => [4]
  | 19 => [4]
  | 20 => [4]
  | 21 => [3]
  | 22 => [5]
  | 23 => [4]
  | 24 => [6]
  | 25 => [3]
  | 26 => [8]
  | 27 => [3]
  | 28 => [3, 4]
  | 29 => [2]
  | _ => []

/-- Whether a command is a request of the management line. -/
def isRequest (i : Instr) : Bool := !(requestBody i).isEmpty

/-- The state after a request: what it changed, then its reply as R167 forms it. -/
def State.replied (t : State) (i : Instr) (r : Result) (d : Data) : State := (Answer.mk t r d).reply (requestBody i)

/-- The state after a request that is refused: nothing changed, and a reply without data. -/
def State.refused (s : State) (i : Instr) (r : Result) : State := s.replied i r []

/-- R48: the plan entry of port `p` set to `entry`, and the retained contexts of its positions invalidated. -/
def State.edited (s : State) (p : Port) (entry : Option PlanEntry) : State :=
  s.modPort p fun q =>
    { q with plan := entry, posA := { q.posA with context := none }, posB := { q.posB with context := none } }

/-- R46, R47: a request that sets the plan entry of port `p` to `entry`, or clears it. -/
def State.edits (s : State) (i : Instr) (p : Port) (entry : Option PlanEntry) : Prop :=
  (∃ tag port form a b e, i = .planSet tag port form a b ∧ onePort s port = .ok p ∧ entryOf form a b = some e ∧
      entry = some e) ∨
    ∃ tag port, i = .planClear tag port ∧ onePort s port = .ok p ∧ entry = none

/-- R20, R24: a mark the part can send: an identity of R28 and a candidate proposal. -/
def Mark.Ok (m : Mark) : Bool :=
  decide (1 ≤ m.id.id.far.chassis.toNat) && decide (m.id.id.far.chassis.toNat ≤ 250) && m.id.laneInHalf &&
    m.id.spanInHalf && [1, 2, 4, 8].contains m.id.span &&
    m.proposal.all fun g => [1, 2, 4, 8].contains g.width && decide (g.start ≤ 7)

/-! ### Notices, histories and the management line -/

/-- R147: the notice queue and its overrun count stay within their limits. -/
abbrev State.QueueOk (s : State) : Prop := s.queue.length ≤ 64 ∧ s.overrun ≤ 255

/-- R154: a history holds at most 8 entries, and only a full one has discarded any. -/
abbrev PortUnit.HistoryOk (q : PortUnit) : Prop :=
  q.history.length ≤ 8 ∧ (q.wrapped = true → q.history.length = 8)

/-- R154: every history within its limit. -/
abbrev State.HistoriesOk (s : State) : Prop := ∀ p : Port, (s.port p).HistoryOk

/-- R164: the assembler holds a length of 1..200 and no more bytes than its state allows. -/
def Assembler.Ok (x : Assembler) : Bool :=
  match x with
  | .hunt => true
  | .length => true
  | .body len taken => decide (1 ≤ len.toNat) && decide (len.toNat ≤ 200) && decide (taken.length < len.toNat)
  | .check len taken _ => decide (1 ≤ len.toNat) && decide (len.toNat ≤ 200) && taken.length == len.toNat

/-- R165, R166: the assembler is in order, a frame waits only behind an executing one, and the counters keep
their limits. -/
abbrev State.LineOk (s : State) : Prop :=
  s.assembler.Ok = true ∧ (s.waiting.isSome = true → s.executing.isSome = true) ∧
    s.framingErrors ≤ 65535 ∧ s.checkErrors ≤ 65535 ∧ s.dropped ≤ 255

/-! ### Settings -/

/-- R45, R55, R159: the settings hold values in range. -/
abbrev State.SettingsOk (s : State) : Prop :=
  s.chassis.toNat ≤ 250 ∧ (s.mode = .active → s.chassis ≠ 0) ∧
    100 ≤ s.timing.window ∧ s.timing.window ≤ 5000 ∧ s.timing.window % 10 = 0 ∧
    20 ≤ s.timing.timeout ∧ s.timing.timeout ≤ 2000 ∧
    1 ≤ s.timing.maxAttempts ∧ s.timing.maxAttempts ≤ 7 ∧ 1 ≤ s.timing.warning ∧ s.timing.warning ≤ 127 ∧
    (∀ k : Fin 8, s.presets[k].emphasis ≤ 7 ∧ s.presets[k].amplitude ∈ [50, 75, 100, 125, 150])

/-- R18: the blink is on only while a port holds the locate selection. -/
abbrev State.LocateOk (s : State) : Prop := s.blinkOn = true → s.locate.isSome = true

/-! ### Ports -/

/-- The states in which a port holds a descriptor (R1, R7, R9). -/
def PortState.reads (x : PortState) : Bool :=
  match x with
  | .off => false
  | .empty => false
  | .seating => false
  | .seated => true
  | .survey => true
  | .assigned => true
  | .cableFault => false

/-- R6: a stored descriptor has a usable lane count, 8 for SPLIT. -/
def Descriptor.Ok (d : Descriptor) : Bool :=
  [1, 2, 4, 8].contains d.lanes && (d.form != .split || d.lanes == 8)

/-- R1, R2, R5, R57: a port record is one its state allows. -/
abbrev PortUnit.RecordOk (q : PortUnit) : Prop :=
  (q.enabled = false ↔ q.state = .off) ∧
    (q.accepted = true ↔ q.state ≠ .off ∧ q.state ≠ .empty) ∧
    q.debounceCount ≤ 1 ∧ (q.state = .off → q.debounceCount = 0) ∧
    (q.desc.isSome = q.state.reads) ∧ (q.desc.all Descriptor.Ok = true) ∧
    (q.fault.isSome = true ↔ q.state = .cableFault) ∧
    (q.readAttempt ≤ 3) ∧ (1 ≤ q.readAttempt ↔ q.state = .seating) ∧
    (q.windowTimer.isSome = true ↔ q.state = .survey) ∧ (q.settleTimer.isSome = true → q.state = .survey)

/-- R61, R62: the links of a port: one of a FULL port and two of a SPLIT port while it is ASSIGNED, else none. -/
abbrev PortUnit.LinksOk (q : PortUnit) : Prop :=
  (q.posA.link.isSome = true ↔ q.state = .assigned) ∧
    (q.posB.link.isSome = true ↔ q.state = .assigned ∧ q.isSplit = true)

/-- R156: in SETUP mode no port surveys or is assigned. -/
abbrev State.ModeOk (s : State) : Prop :=
  s.mode = .setup → ∀ p : Port, (s.port p).state ≠ .survey ∧ (s.port p).state ≠ .assigned

/-- R20: only a processed lane sends. -/
abbrev State.SilenceOk (s : State) : Prop :=
  ∀ p : Port, ∀ i : Lane, ((s.port p).lane i).txMark.isSome = true → s.processed p i = true

/-- The ports in order: records, links, mode and silence. -/
abbrev State.PortsOk (s : State) : Prop :=
  (∀ p : Port, (s.port p).RecordOk ∧ (s.port p).LinksOk) ∧ s.ModeOk ∧ s.SilenceOk

/-! ### Lane records (R27 to R36) -/

/-- R28: an identity that passes the code, lane and span tests. -/
def HeardId.Ok (x : HeardId) : Bool :=
  decide (1 ≤ x.id.far.chassis.toNat) && decide (x.id.far.chassis.toNat ≤ 250) && x.laneInHalf && x.spanInHalf &&
    [1, 2, 4, 8].contains x.span

/-- R30: an identity is held exactly while the status is MARKED or CONFIRMED; a candidate has one repeat; the
counts keep their limits, and eight consecutive bad marks leave no identity held. -/
abbrev RxRecord.Ok (x : RxRecord) : Prop :=
  (x.held.isSome = (x.status == .marked || x.status == .confirmed)) ∧
    (x.held.all fun k => k.id.Ok && decide (k.heard.grade ≤ 15)) = true ∧
    (x.candidate.all HeardId.Ok) = true ∧ x.repeats = (if x.candidate.isSome then 1 else 0) ∧
    (x.status = .quiet → x.candidate = none) ∧
    x.good ≤ 255 ∧ x.bad ≤ 255 ∧ x.consecBad ≤ 8 ∧ (x.held.isSome = true → x.consecBad < 8)

/-- R27, R31: a lane's record is in order, and its polarity field shows the correction in force; a lane that is
not processed holds its cleared receive record. -/
abbrev State.LanesOk (s : State) : Prop :=
  ∀ p : Port, ∀ i : Lane,
    ((s.port p).lane i).rx.Ok ∧ ((s.port p).lane i).rx.polInverted = ((s.port p).lane i).correction ∧
      (s.processed p i = false → ((s.port p).lane i).rx = {})

/-! ### Links -/

/-- R62, R68, R73: the reason is present while BLOCKED alone, the check timers run while CHECKING alone, and a
BLOCKED link holds no grant. -/
abbrev Link.CheckOk (l : Link) : Prop :=
  (l.reason.isSome = true ↔ l.state = .blocked) ∧ (l.state = .blocked → l.grant = false) ∧
    (l.checkEntry.isSome = true ↔ l.state = .checking) ∧ (l.quiet.isSome = true ↔ l.state = .checking)

/-- R106: the stage and the training timer are present while TRAINING alone, a dwell and its timer in EQUALIZE
alone; outside TRAINING the preset list in use, the context in use and the grade table are cleared. -/
abbrev Link.TrainingOk (l : Link) : Prop :=
  (l.training.stage.isSome = true ↔ l.state = .training) ∧
    (l.training.timer.isSome = true ↔ l.state = .training) ∧
    (l.training.dwell.isSome = true ↔ l.training.stage = some .equalize) ∧
    (l.training.dwellTimer.isSome = true ↔ l.training.dwell.isSome = true) ∧
    (l.state ≠ .training → l.training.presets = [] ∧ l.training.context = none ∧
      l.training.grades = Vector.replicate 8 (Vector.replicate 4 none) ∧ l.training.deskew = {})

/-- R82, R84, R92: proposal, accept and active group are cleared outside ALIGN and UP, a regroup is pending while UP
alone, with its timer, an UP link has an active group, and only a live link carries exclusion marks. -/
abbrev Link.AgreementOk (l : Link) : Prop :=
  (l.state ≠ .up → l.training.stage ≠ some .align →
      l.agree.proposal = none ∧ l.agree.accept = false ∧ l.agree.active = none) ∧
    (l.state = .up → l.agree.active.isSome = true) ∧
    (l.agree.regroupStart.isSome = true → l.state = .up) ∧
    (l.agree.regroupTimer.isSome = true ↔ l.agree.regroupStart.isSome = true) ∧
    (l.live = false → l.marks = {})

/-- R96: no recheck is in flight unless UP, its set is empty unless one is, and the recheck timer runs while UP
alone. -/
abbrev Link.AlignmentOk (l : Link) : Prop :=
  (l.align.recheckState = .collecting → l.state = .up) ∧ (l.align.recheckState = .idle → l.align.recheck = {}) ∧
    (l.align.recheckTimer.isSome = true → l.state = .up)

/-- R125: the level is present while UP alone; cause and probe timer are present while ISOLATED alone, and the probe
set is empty and not dirty otherwise. The clauses on `probeChange` and `judging` are on the model's own fields of
log entries 33 and 5. -/
abbrev Link.SupervisionOk (l : Link) : Prop :=
  (l.sup.level.isSome = true ↔ l.state = .up) ∧
    (l.sup.isoCause.isSome = true ↔ l.state = .isolated) ∧ (l.sup.probeTimer.isSome = true ↔ l.state = .isolated) ∧
    (l.state ≠ .isolated → l.sup.probeSet = 0 ∧ l.sup.probeDirty = false ∧ l.sup.probeChange = false) ∧
    (l.sup.judging = true → l.state = .up)

/-- R62, R68, R73, R82, R84, R92, R96, R106, R125: a link record holds the fields that its state allows. -/
def Link.ok (l : Link) : Bool :=
  decide l.CheckOk && decide l.TrainingOk && decide l.AgreementOk && decide l.AlignmentOk &&
    decide l.SupervisionOk

/-- Whether an optional link record is in order. -/
def linkOk (l : Option Link) : Bool := l.all Link.ok

/-- Every link record of the part in order. -/
abbrev State.LinksOk (s : State) : Prop :=
  ∀ p : Port, linkOk (s.port p).posA.link = true ∧ linkOk (s.port p).posB.link = true

/-- R90, R95, R99, R119, R125, R140: a link of half `h` of port `q` within its ranges: the score 1..127 while
ISOLATED and never above 255; the attempt count below the maximum but where it ended in TRAIN_FAILED; the
active group and the proposal candidate groups of the span; every skew within 0..63. -/
abbrev Link.InRange (q : PortUnit) (h : Half) (max : Nat) (l : Link) : Prop :=
  (l.state = .isolated → 1 ≤ l.sup.score ∧ l.sup.score ≤ 127) ∧ l.sup.score ≤ 255 ∧ l.attempts ≤ max ∧
    (l.attempts = max → l.state = .blocked ∧ l.reason = some .trainFailed) ∧
    (l.agree.active.all fun g => (candidateGroups (q.span h)).contains g) = true ∧
    (l.agree.proposal.all fun g => (candidateGroups (q.span h)).contains g) = true ∧
    (∀ r : Fin 8, skewAt l.align.skew r ≤ 63) ∧ (l.align.spread.all fun n => decide (n ≤ 1023)) = true

/-- R140: a position whose link is within its ranges and whose residue is 1..127. -/
def Position.inRange (x : Position) (q : PortUnit) (h : Half) (max : Nat) : Bool :=
  x.link.all (fun l => decide (l.InRange q h max)) && x.residue.all fun r => decide (1 ≤ r) && decide (r ≤ 127)

/-- R100, R119, R125, R140: every link, every residue and every deskew delay within its range. -/
abbrev State.RangesOk (s : State) : Prop :=
  ∀ p : Port, (s.port p).posA.inRange (s.port p) .A s.timing.maxAttempts = true ∧
    (s.port p).posB.inRange (s.port p) .B s.timing.maxAttempts = true ∧
    ∀ i : Lane, ((s.port p).lane i).delay ≤ 63

/-- The far identity a link position holds against others: that of a VERIFIED, TRAINING or UP link (R71). -/
def State.claims (s : State) (p : Port) (h : Half) : Option FarId :=
  match s.link p h with
  | some l => if l.state.holding then l.far else none
  | none => none

/-- R71: no far identity is held by two links of the part that are VERIFIED, TRAINING or UP. -/
def State.NoDuplicates (s : State) : Prop :=
  ∀ p h p' h' f, s.claims p h = some f → s.claims p' h' = some f → p = p' ∧ h = h'

end Sys2Proof.Machine
end

