-- ==== Sys2Proof/WellFormed.lean ====
section
/-! DEFINITION. Well-formed commands: the operands that a pin, a front end or the line can deliver. A
parameter of a message is well formed at every value: one out of range is answered, not shut out. -/

namespace Sys2Proof

/-- R26: a framed block begins with the upright or the inverted sync. -/
def framedBlock (block : MarkBits) : Bool := (Machine.frameBlock block).isSome

/-- R164: a length byte that discards the frame. -/
def badLengthByte (b : Byte) : Bool := b == 0 || decide (201 ≤ b.toNat)

/-- R164: the body of a complete frame holds 1 to 200 bytes. -/
def bodyFits (body : List Byte) : Bool := decide (1 ≤ body.length) && decide (body.length ≤ 200)

/-- Whether a command is one that can reach the part. -/
def WellFormed (i : Instr) : Bool :=
  match i with
  | .markArrived _ _ block _ => framedBlock block
  | .framingError (some b) => badLengthByte b
  | .frameComplete body => bodyFits body
  | .unknownRequest code rest => !Machine.isMessage code && bodyFits (code :: rest)
  | .framingError none => true
  | .fullReset .. => true
  | .presenceSample _ => true
  | .presNChange .. => true
  | .noAnswer _ => true
  | .descriptorAnswered .. => true
  | .markTransmit .. => true
  | .signalGained .. => true
  | .signalLost .. => true
  | .syncMissing .. => true
  | .violations .. => true
  | .lockLost .. => true
  | .uptimeTick => true
  | .surveyWindowExpiry _ => true
  | .settleExpiry _ => true
  | .checkQuietExpiry .. => true
  | .checkBoundExpiry .. => true
  | .retainedDwellEnd .. => true
  | .listDwellEnd .. => true
  | .trainingTimerExpiry .. => true
  | .regroupTimerExpiry .. => true
  | .recheckTimerExpiry .. => true
  | .probeTimerExpiry .. => true
  | .locateBlinkToggle => true
  | .frameGapTimeout => true
  | .checkError => true
  | .replySent => true
  | .ident _ => true
  | .status .. => true
  | .modeActive _ => true
  | .modeSetup _ => true
  | .node .. => true
  | .timing .. => true
  | .timingQuery _ => true
  | .preset .. => true
  | .presetQuery _ => true
  | .planTag .. => true
  | .planSet .. => true
  | .planClear .. => true
  | .planGet .. => true
  | .portOn .. => true
  | .portOff .. => true
  | .resurvey .. => true
  | .train .. => true
  | .isolate .. => true
  | .recover .. => true
  | .portGet .. => true
  | .laneGet .. => true
  | .historyGet .. => true
  | .snapArm .. => true
  | .snapGet .. => true
  | .indicate .. => true
  | .locate .. => true
  | .filter .. => true
  | .fetch .. => true
  | .focusSet .. => true
  | .focusClear _ => true
  | .focusRead _ => true
  | .restart _ => true
  | .byteReceived _ => true
  | .acceptanceAtOnce _ => true

end Sys2Proof
end

