-- ==== Sys2Proof/Certificates/Slice0/Obligations.lean ====
section
/-! DEFINITION. The statements for the provers: the step and the management line, the messages, the events
of ports, lanes and links, the arithmetic, and the invariants that every step keeps. -/

open Sys2Proof Sys2Proof.Machine

/-! ### The step and the management line -/

/-- A step executes the command at the front of the queue on the state with the rest of the queue. On an
empty queue the part idles: the model's choice, log entry 1. -/
def Obligations.StepRunsFrontCommand : Prop :=
  (∀ (c : Instr) (rest : List Instr) (s : State),
      step { s with pending := c :: rest } = exec c { s with pending := rest }) ∧
    ∀ s : State, s.pending = [] → step s = .next s

/-- Every command completes, in every state, and leaves the queue of waiting commands to the step. That no command
stops is the model's reading (log entry 25, DEDUCED); an event that cannot take place completes and changes
nothing by log entry 3 (DESIGN CHOICE), and FULL_RESET keeps the waiting commands by log entry 7 (DESIGN
CHOICE). -/
def Obligations.EveryCommandCompletes : Prop :=
  ∀ (c : Instr) (s : State), ∃ t, exec c s = .next t ∧ t.pending = s.pending

/-- R27, R175: a mark formed by the layout reads back as itself, sent upright or inverted. -/
def Obligations.LaneMarkReadsBack : Prop :=
  ∀ m : Mark, m.Ok = true →
    frameBlock m.encode = some (false, m.encode) ∧ frameBlock (~~~ m.encode) = some (true, m.encode) ∧
      readMark m.encode = .ok m

/-- R168 tests 1 and 2, Chapter 12: the body of every well-formed request reads back as that request, with
every parameter at every value. -/
def Obligations.RequestBodyReadsBack : Prop :=
  ∀ i : Instr, isRequest i = true → WellFormed i = true → readBody (requestBody i) = .request i

/-- R164, R174: a whole frame received byte by byte from HUNT offers its body to the input hold. -/
def Obligations.FrameOnLineIsOffered : Prop :=
  ∀ (s : State) (body : List Byte), s.assembler = .hunt → 1 ≤ body.length → body.length ≤ 200 →
    Sys2Proof.core.run (frameOf body).length { s with pending := (frameOf body).map Instr.byteReceived } =
      .next (({ s with pending := [] } : State).offer body)

/-- R166 to R168: with the executing place empty, every request is answered by one reply with its code, its tag and
a result, and one with a result other than OK or ADJUSTED carries no data and its request changes nothing. In
every state the message row of a request does what the complete frame of the request does: the row stands for
that frame (log entry 4, DESIGN CHOICE). -/
def Obligations.RequestsAreAnswered : Prop :=
  ∀ (i : Instr) (s : State), isRequest i = true → WellFormed i = true →
    exec (.frameComplete (requestBody i)) s = exec i { s with assembler := .hunt } ∧
    (s.executing = none → ∃ (t : State) (r : Result) (d : Data), exec i s = .next (t.replied i r d) ∧
      (t.replied i r d).executing =
        some ⟨requestBody i,
          (if ((requestBody i).headD 0).toNat < 128 then (requestBody i).headD 0 + 128
            else (requestBody i).headD 0) ::
            (requestBody i).tail.headD 0 :: r.code :: fillData t.replies d⟩ ∧
      (r ≠ .ok → r ≠ .adjusted → t = s ∧ d = []))

/-- R164 to R166: the table of the frame assembler, with its discards and their counts; a complete frame, from the
line or as a message row, executes, waits, or is dropped and counted; when a reply has left, the waiting frame
executes. A gap or a byte error in HUNT, and REPLY_SENT with nothing executing, change nothing: log entry 3
(DESIGN CHOICE). FRAME_COMPLETE leaves the assembler in HUNT, and a message row stands for a complete frame:
log entry 4 (DESIGN CHOICE). -/
def Obligations.ManagementLineTakesFrames : Prop :=
  (∀ (s : State) (b : Byte),
    (s.assembler = .hunt → exec (.byteReceived b) s =
      .next (if b = 0xC5 then { s with assembler := .length } else s)) ∧
    (s.assembler = .length → exec (.byteReceived b) s =
      .next (if 1 ≤ b.toNat ∧ b.toNat ≤ 200 then { s with assembler := .body b [] }
        else { s with assembler := .hunt, framingErrors := min 65535 (s.framingErrors + 1) })) ∧
    (∀ len taken, s.assembler = .body len taken → taken.length < len.toNat → exec (.byteReceived b) s =
      .next (if taken.length + 1 = len.toNat then { s with assembler := .check len (taken ++ [b]) none }
        else { s with assembler := .body len (taken ++ [b]) })) ∧
    (∀ len body, s.assembler = .check len body none → exec (.byteReceived b) s =
      .next { s with assembler := .check len body (some b) }) ∧
    (∀ len body c, s.assembler = .check len body (some c) → exec (.byteReceived b) s =
      .next (if crc16 (len :: body) = c ++ b then ({ s with assembler := .hunt } : State).offer body
        else { s with assembler := .hunt, checkErrors := min 65535 (s.checkErrors + 1) })) ∧
    (s.assembler ≠ .hunt →
      exec .frameGapTimeout s =
        .next { s with assembler := .hunt, framingErrors := min 65535 (s.framingErrors + 1) } ∧
      exec (.framingError none) s =
        .next { s with assembler := .hunt, framingErrors := min 65535 (s.framingErrors + 1) }) ∧
    (s.assembler = .length → (b = 0 ∨ 201 ≤ b.toNat) → exec (.framingError (some b)) s =
      .next { s with assembler := .hunt, framingErrors := min 65535 (s.framingErrors + 1) }) ∧
    (∀ len body c, s.assembler = .check len body (some c) → exec .checkError s =
      .next { s with assembler := .hunt, checkErrors := min 65535 (s.checkErrors + 1) }) ∧
    (s.assembler = .hunt → exec .frameGapTimeout s = .next s ∧ exec (.framingError none) s = .next s)) ∧
  (∀ (s : State) (body : List Byte),
    (s.executing = none → exec (.frameComplete body) s =
      .next (({ s with assembler := .hunt } : State).execute body)) ∧
    (s.executing.isSome = true → s.waiting = none → exec (.frameComplete body) s =
      .next { s with assembler := .hunt, waiting := some body }) ∧
    (s.executing.isSome = true → s.waiting.isSome = true → exec (.frameComplete body) s =
      .next { s with assembler := .hunt, dropped := min 255 (s.dropped + 1) }) ∧
    (s.executing.isSome = true → s.waiting = none → exec .replySent s = .next { s with executing := none }) ∧
    (s.executing.isSome = true → s.waiting = some body → exec .replySent s =
      .next (({ s with executing := none, waiting := none } : State).execute body)) ∧
    (s.executing = none → exec .replySent s = .next s)) ∧
  ∀ (i : Instr) (s : State), isRequest i = true → WellFormed i = true → s.executing.isSome = true →
    (s.waiting = none → exec i s = .next { s with waiting := some (requestBody i) }) ∧
    (s.waiting.isSome = true → exec i s = .next { s with dropped := min 255 (s.dropped + 1) })

/-! ### Messages of the whole part -/

/-- R45, R55, R56, R160, R165, R167, R171: IDENT and STATUS report, STATUS with its clear option clears the three
line counters after reporting them, and a code outside the catalogue is answered UNKNOWN; NODE and PRESET store
their values in SETUP mode, are refused in ACTIVE mode and out of range, and PRESET without values reports the
table; the uptime counts on. -/
def Obligations.ReportsAndSettingsAnswered : Prop :=
  (∀ s : State, exec .uptimeTick s = .next { s with uptime := s.uptime + 1 }) ∧
  ∀ (tag b code c n a e : Byte) (rest : List Byte) (s : State), s.executing = none →
    exec (.ident tag) s = .next (s.replied (.ident tag) .ok
      ([0xA6, 1, 16, 8, s.position.setWidth 8].map .given)) ∧
    exec (.status tag 0) s = .next (s.replied (.status tag 0) .ok s.statusBytes) ∧
    exec (.status tag 1) s = .next
      (({ s with framingErrors := 0, checkErrors := 0, dropped := 0 } : State).replied (.status tag 1) .ok
        s.statusBytes) ∧
    (2 ≤ b.toNat → exec (.status tag b) s = .next (s.refused (.status tag b) .range)) ∧
    (isMessage code = false → exec (.unknownRequest code rest) s =
      .next (s.refused (.unknownRequest code rest) .unknown)) ∧
    (s.mode = .setup → 1 ≤ c.toNat → c.toNat ≤ 250 → exec (.node tag c) s =
      .next (({ s with chassis := c } : State).replied (.node tag c) .ok (byte c))) ∧
    (s.mode = .setup → (c = 0 ∨ 251 ≤ c.toNat) → exec (.node tag c) s = .next (s.refused (.node tag c) .range)) ∧
    (s.mode = .active → exec (.node tag c) s = .next (s.refused (.node tag c) .wrongMode)) ∧
    (∀ h : n.toNat < 8, s.mode = .setup → a.toNat ∈ [50, 75, 100, 125, 150] → e.toNat ≤ 7 →
      exec (.preset tag n a e) s =
        .next (({ s with presets := s.presets.set n.toNat ⟨a.toNat, e.toNat⟩ } : State).replied (.preset tag n a e) .ok
          (presetTableBytes (s.presets.set n.toNat ⟨a.toNat, e.toNat⟩)))) ∧
    (s.mode = .setup → (8 ≤ n.toNat ∨ a.toNat ∉ [50, 75, 100, 125, 150] ∨ 8 ≤ e.toNat) →
      exec (.preset tag n a e) s = .next (s.refused (.preset tag n a e) .range)) ∧
    (s.mode = .active → exec (.preset tag n a e) s = .next (s.refused (.preset tag n a e) .wrongMode)) ∧
    exec (.presetQuery tag) s = .next (s.replied (.presetQuery tag) .ok (presetTableBytes s.presets))

/-- R159, R3, R4, R9: TIMING with values in SETUP mode stores them clamped, ADJUSTED where a value is stored
otherwise than carried; a new debounce period clears the debounce counts and starts the grids, and the period
NONE takes the level of PRES_N on every port that is not OFF at once, with CABLE_IN and CABLE_OUT, here on a
part without links; out-of-range enumerated values and ACTIVE mode are refused; TIMING without values reports.
The order of the ports in which those notices are filed is the model's choice: log entry 28 (DESIGN CHOICE). -/
def Obligations.TimingStored : Prop :=
  ∀ (tag : Byte) (v : RawTiming) (s : State) (d : Debounce) (r : RecheckInterval) (t : Timing) (result : Result),
    s.executing = none →
    t = { debounce := d, window := min 5000 (max 100 v.window.toNat) / 10 * 10
          timeout := min 2000 (max 20 v.timeout.toNat), maxAttempts := min 7 (max 1 v.attempts.toNat)
          warning := min 127 (max 1 v.warning.toNat), recheck := r } →
    result = (if t.window = v.window.toNat ∧ t.timeout = v.timeout.toNat ∧ t.maxAttempts = v.attempts.toNat ∧
      t.warning = v.warning.toNat then .ok else .adjusted) →
    (s.mode = .setup → debounceOf v.debounce = some d → recheckOf v.recheck = some r →
      (d = s.timing.debounce ∨ d ≠ .none) →
      ∃ u : State, exec (.timing tag v) s = .next (u.replied (.timing tag v) result t.bytes) ∧
        u = { s with timing := t, ports := u.ports } ∧
        ∀ p, u.port p = if d = s.timing.debounce then s.port p
          else { s.port p with debounceCount := 0, gridStart := s.uptime }) ∧
    (s.mode = .setup → debounceOf v.debounce = some d → recheckOf v.recheck = some r →
      d = .none → s.timing.debounce ≠ .none → (∀ p h, s.link p h = none) →
      ∃ u n : State, exec (.timing tag v) s = .next (u.replied (.timing tag v) result t.bytes) ∧
        n = allPorts.foldl (fun (n : State) p =>
          if (s.port p).state = .empty ∧ (s.port p).accepted = false ∧ (s.port p).presN = .low then
            n.postPort p .cableIn
          else if (s.port p).state ≠ .off ∧ (s.port p).state ≠ .empty ∧ (s.port p).accepted = true ∧
              (s.port p).presN = .high then n.postPort p (.cableOut (s.port p).state)
          else n) s ∧
        u = { s with timing := t, ports := u.ports, queue := n.queue, overrun := n.overrun } ∧
        ∀ (p : Port) (q k : PortUnit), q = { s.port p with debounceCount := 0, gridStart := s.uptime } →
          k = u.port p →
          ((q.state = .off ∨ q.accepted = (q.presN == .low)) → k = q) ∧
          (q.state = .empty → q.accepted = false → q.presN = .low →
            k = ({ q with state := .seating, accepted := true, readAttempt := 1 } : PortUnit).append
              ⟨s.uptime, .port .empty .seating, .cableIn⟩) ∧
          (q.state ≠ .off → q.state ≠ .empty → q.accepted = true → q.presN = .high →
            k.state = .empty ∧ k.accepted = false ∧ k.debounceCount = 0 ∧ k.gridStart = s.uptime ∧
            k.desc = none ∧ k.fault = none ∧ k.readAttempt = 0 ∧ k.windowTimer = none ∧ k.settleTimer = none ∧
            k.Silent ∧ k.plan = q.plan ∧ k.enabled = q.enabled ∧ k.presN = q.presN ∧
            ∀ h, (k.pos h).link = none ∧ (k.pos h).context = none ∧ (k.pos h).residue = none)) ∧
    (s.mode = .setup → (debounceOf v.debounce = none ∨ recheckOf v.recheck = none) →
      exec (.timing tag v) s = .next (s.refused (.timing tag v) .range)) ∧
    (s.mode = .active → exec (.timing tag v) s = .next (s.refused (.timing tag v) .wrongMode)) ∧
    exec (.timingQuery tag) s = .next (s.replied (.timingQuery tag) .ok s.timing.bytes)

/-- R54, R67 to R69: TAG stores a new tag and re-evaluates, in ascending port order and half A before half B, every
link BLOCKED with a reason other than TRAIN_FAILED: each has the verdict of its observations under the new tag
and posts it, with its history entry and its snapshot. No other link changes, and neither does anything outside the
Link Engine and the Notice Unit. The tag already held changes nothing. That the request is one event for the
notice loss in those snapshots is log entry 27 (DESIGN CHOICE). -/
def Obligations.TagReevaluatesBlockedLinks : Prop :=
  ∀ (tag value : Byte) (s : State), s.executing = none →
    (value = s.planTag → exec (.planTag tag value) s = .next (s.replied (.planTag tag value) .ok (byte value))) ∧
    (value ≠ s.planTag → ∃ (u : Nat → State) (t : State),
      exec (.planTag tag value) s = .next (t.replied (.planTag tag value) .ok (byte value)) ∧
      u 0 = ({ s with planTag := value } : State).event ∧ t = s.after (u 32) ∧
      t.bare = ({ s with planTag := value } : State).bare ∧
      ∀ (n : Nat) (p : Port) (h : Half), n = 2 * p.val + (if h = .A then 0 else 1) →
        (u n).link p h = s.link p h ∧ t.link p h = (u (n + 1)).link p h ∧
        (s.link p h = none → u (n + 1) = u n) ∧
        (∀ l, s.link p h = some l → ¬ (l.state = .blocked ∧ l.reason ≠ some .trainFailed) → u (n + 1) = u n) ∧
        (∀ l, s.link p h = some l → l.state = .blocked → l.reason ≠ some .trainFailed →
          (u n).Judged (u (n + 1)) p h l id ∧ (u (n + 1)).queue = ((u n).verdictNotices p h).queue))

/-- R157, R57, R31: MODE ACTIVE in SETUP mode with a chassis number moves every SEATED port to SURVEY with its
lane records cleared and its survey timers started, moves no other port, and posts MODE_CHANGE; with chassis
0 it is refused, and in ACTIVE mode it changes nothing. -/
def Obligations.ModeActiveBeginsSurveys : Prop :=
  ∀ (tag : Byte) (s : State), s.executing = none →
    (s.mode = .active → exec (.modeActive tag) s = .next (s.replied (.modeActive tag) .ok (num 1))) ∧
    (s.mode = .setup → s.chassis = 0 → exec (.modeActive tag) s = .next (s.refused (.modeActive tag) .noIdentity)) ∧
    (s.mode = .setup → s.chassis ≠ 0 → ∃ t : State,
      exec (.modeActive tag) s = .next (t.replied (.modeActive tag) .ok (num 1)) ∧
      t = { s with mode := .active, ports := t.ports
                   queue := (s.post none none (.modeChange .setup .active)).queue
                   overrun := (s.post none none (.modeChange .setup .active)).overrun } ∧
      ∀ p, ((s.port p).state ≠ .seated → t.port p = s.port p) ∧
        ((s.port p).state = .seated →
          (t.port p).state = .survey ∧ (t.port p).desc = (s.port p).desc ∧
          (t.port p).windowTimer = some ⟨s.uptime, s.timing.window⟩ ∧ (t.port p).settleTimer = some ⟨s.uptime, 20⟩ ∧
          (∀ h, (t.port p).pos h = (s.port p).pos h) ∧ (t.port p).plan = (s.port p).plan ∧
          ∀ i, ((t.port p).lane i).rx =
            { status := if (s.port p).inSpan i && ((s.port p).lane i).signal then .signal else .quiet }))

/-- R158, R140, R121, R151, R154: MODE SETUP in ACTIVE mode stores the score of every ISOLATED link as the residue
of its position, removes every link, with a capture attempt for each that was UP, seats every port in SURVEY or
ASSIGNED with its descriptor, keeps contexts and other residues, and silences the lanes it stops; it posts the
LINK_DOWN notices with reason MODE_SETUP in port order and then MODE_CHANGE; in SETUP mode it changes nothing.
That the removals are one event for the notice loss in the snapshots is log entry 27 (DESIGN CHOICE). -/
def Obligations.ModeSetupRemovesLinks : Prop :=
  ∀ (tag : Byte) (s : State), s.executing = none →
    (s.mode = .setup → exec (.modeSetup tag) s = .next (s.replied (.modeSetup tag) .ok (num 0))) ∧
    (s.mode = .active → ∃ t n : State,
      exec (.modeSetup tag) s = .next (t.replied (.modeSetup tag) .ok (num 0)) ∧
      n = (allPorts.foldl (fun n p => s.downNoticesIn n p .modeSetup) s).post none none
        (.modeChange .active .setup) ∧
      t = { s with mode := .setup, ports := t.ports, queue := n.queue, overrun := n.overrun } ∧
      (∀ p, s.RemovalCaptured t p .modeSetup) ∧
      (∀ p h, t.link p h = none ∧ (t.pos p h).context = (s.pos p h).context ∧
        (t.pos p h).residue =
          (match s.link p h with
           | some l => if l.state = .isolated then some l.sup.score else (s.pos p h).residue
           | none => (s.pos p h).residue)) ∧
      (∀ p, ((s.port p).state = .survey ∨ (s.port p).state = .assigned) →
        (t.port p).state = .seated ∧ (t.port p).desc = (s.port p).desc ∧ (t.port p).plan = (s.port p).plan ∧
          (∀ i, ((t.port p).lane i).txMark = none ∧ ((t.port p).lane i).rx = {}) ∧
          ((∀ h, (s.pos p h).waits = false) → s.Removed t p .seated .modeSetup)) ∧
      (∀ p, (s.port p).state ≠ .survey → (s.port p).state ≠ .assigned →
        (t.port p).state = (s.port p).state ∧ (t.port p).bare = (s.port p).bare))

/-- R161, R19, R151: RESTART sets SETUP mode, removes every link with its capture attempt, clears residues, contexts,
the queue, the focus, the line counters and the locate selection, returns every port that is not OFF to EMPTY, and
keeps the node address, plan tag, settings, presets, plan entries, filters, indicator settings and the uptime. -/
def Obligations.RestartKeepsConfiguration : Prop :=
  ∀ (tag : Byte) (s : State), s.executing = none → ∃ t : State,
    exec (.restart tag) s = .next (t.replied (.restart tag) .ok []) ∧
    t = { s with mode := .setup, ports := t.ports, queue := [], overrun := 0, focus := none, locate := none
                 blinkOn := false, framingErrors := 0, checkErrors := 0, dropped := 0 } ∧
    (∀ p h, t.link p h = none ∧ (t.pos p h).context = none ∧ (t.pos p h).residue = none) ∧
    ∀ p, s.RemovalCaptured t p .restart ∧
      ((s.port p).state ≠ .off → (s.port p).state ≠ .empty → (∀ h, (s.pos p h).waits = false) →
        s.Removed t p .empty .restart) ∧
      (t.port p).plan = (s.port p).plan ∧ (t.port p).enabled = (s.port p).enabled ∧
      (t.port p).indSource = (s.port p).indSource ∧ (t.port p).indInvert = (s.port p).indInvert ∧
      (t.port p).indDirect = (s.port p).indDirect ∧ (t.port p).gridStart = (s.port p).gridStart ∧
      (t.port p).presN = (s.port p).presN ∧
      ((s.port p).state = .off → (t.port p).state = .off) ∧
      ((s.port p).state ≠ .off →
        (t.port p).state = .empty ∧ (t.port p).desc = none ∧ (t.port p).fault = none ∧
        (t.port p).readAttempt = 0 ∧ (t.port p).accepted = false ∧ (t.port p).debounceCount = 0 ∧
        (t.port p).windowTimer = none ∧ (t.port p).settleTimer = none ∧
        ∀ i, ((t.port p).lane i).txMark = none ∧ ((t.port p).lane i).rx = {})

/-- R162: full reset sets every record to its full-reset value, takes the position from POS and the line rate
from MSPD. The lines PRES_N, the signal of the lanes, the phase of the stamp counters and the waiting
commands are not reset: the model's choice, log entry 7. -/
def Obligations.FullResetClears : Prop :=
  ∀ (pos : BitVec 2) (mspd : Level) (s : State), ∃ t : State,
    exec (.fullReset pos mspd) s = .next t ∧
    t = { State.reset with position := pos, lineFast := mspd == .high, ports := t.ports, pending := s.pending
                           replies := s.replies } ∧
    ∀ p, t.port p =
      { State.reset.port p with
        presN := (s.port p).presN, stampCounter := (s.port p).stampCounter
        lanes := Vector.ofFn fun i : Fin 8 => { signal := ((s.port p).lane i).signal } }

/-- R145 to R149: FILTER replaces the three items of the named filter, or is refused out of range; a filter accepts
a notice of its kinds that names none of the ports outside its ports; a posted notice that a filter accepts is
appended to the queue, or counted where 64 are held, and any other is discarded; ATTN is low exactly while the
queue holds a notice; FETCH removes and returns the min(n, 8) oldest notices, reports the fill and the overrun
count, and sets that count to 0. -/
def Obligations.NoticesAreFiledAndFetched : Prop :=
  (∀ (tag n e count : Byte) (kinds ports : BitVec 16) (on : Bool) (s : State), s.executing = none →
    (yesNo e = some on → kinds.toNat < 8192 → n = 1 → exec (.filter tag n e kinds ports) s =
      .next (({ s with filter1 := ⟨on, kinds, ports⟩ } : State).replied (.filter tag n e kinds ports) .ok
        ({ s with filter1 := ⟨on, kinds, ports⟩ } : State).filterBytes)) ∧
    (yesNo e = some on → kinds.toNat < 8192 → n = 2 → exec (.filter tag n e kinds ports) s =
      .next (({ s with filter2 := ⟨on, kinds, ports⟩ } : State).replied (.filter tag n e kinds ports) .ok
        ({ s with filter2 := ⟨on, kinds, ports⟩ } : State).filterBytes)) ∧
    ((yesNo e = none ∨ 8192 ≤ kinds.toNat ∨ (n ≠ 1 ∧ n ≠ 2)) → exec (.filter tag n e kinds ports) s =
      .next (s.refused (.filter tag n e kinds ports) .range)) ∧
    exec (.fetch tag count) s =
      .next (({ s with queue := s.queue.drop (min count.toNat 8), overrun := 0 } : State).replied (.fetch tag count) .ok
        (num (s.queue.take (min count.toNat 8)).length ++ num (s.queue.drop (min count.toNat 8)).length ++
          num s.overrun ++ (s.queue.take (min count.toNat 8)).flatMap fun x => x.bytes))) ∧
  (∀ (f : Filter) (n : Notice), f.accepts n = true ↔
    f.enabled = true ∧ f.kinds.getLsbD n.detail.kind = true ∧ ∀ p, n.port = some p → f.ports.getLsbD p.val = true) ∧
  (∀ (s : State) (port : Option Port) (half : Option Half) (d : Detail) (n : Notice),
    n = ⟨port, half, s.uptime, d⟩ →
    ((s.filter1.accepts n = true ∨ s.filter2.accepts n = true) → s.queue.length < 64 →
      s.post port half d = { s with queue := s.queue ++ [n] }) ∧
    ((s.filter1.accepts n = true ∨ s.filter2.accepts n = true) → 64 ≤ s.queue.length →
      s.post port half d = { s with overrun := min 255 (s.overrun + 1) }) ∧
    (s.filter1.accepts n = false → s.filter2.accepts n = false → s.post port half d = s)) ∧
  ∀ s : State, s.attn = .low ↔ s.queue ≠ []

/-- R170: FOCUS SET stores its target as the focus and refuses one above 15 with BAD_PORT; CLEAR makes the focus
absent; READ changes nothing; each reply carries the focus after it. -/
def Obligations.FocusHoldsOnePort : Prop :=
  ∀ (tag target : Byte) (s : State), s.executing = none →
    (∀ h : target.toNat < 16, exec (.focusSet tag target) s =
      .next (({ s with focus := some ⟨target.toNat, h⟩ } : State).replied (.focusSet tag target) .ok (byte target))) ∧
    (16 ≤ target.toNat → exec (.focusSet tag target) s = .next (s.refused (.focusSet tag target) .badPort)) ∧
    exec (.focusClear tag) s =
      .next (({ s with focus := none } : State).replied (.focusClear tag) .ok (byte 0xFF)) ∧
    exec (.focusRead tag) s = .next (s.replied (.focusRead tag) .ok
      (byte (match s.focus with
        | some p => BitVec.ofNat 8 p.val
        | none => 0xFF)))

/-! ### Port operands and the plan -/

/-- R167, R168 (1) to (5), R169, R174 (5), R156, R170: a port operand names a port by number or the focus, or ALL or
NONE where the message accepts it; a request with another operand, another half, or a half that has no link is
refused and changes nothing. A complete frame whose code is no message is answered UNKNOWN; one whose code is a
message and whose length is none that the message defines, and FOCUS with the length of another action, LENGTH (R167,
R168 (1) and (2)). MODE with a value above 1 and FOCUS with an action above 2 are refused with RANGE, at either
length of FOCUS: log entry 19 (DEDUCED). -/
def Obligations.OperandsAreTested : Prop :=
  ∀ (code tag b x y z : Byte) (params rest : List Byte) (s : State), s.executing = none →
    (isMessage code = false → exec (.frameComplete (code :: rest)) s =
      .next ((Answer.refuse { s with assembler := .hunt } .unknown).reply (code :: rest))) ∧
    (isMessage code = true → rest.length + 1 ∉ bodyLengths code.toNat → exec (.frameComplete (code :: rest)) s =
      .next ((Answer.refuse { s with assembler := .hunt } .length).reply (code :: rest))) ∧
    ((x = 0 ∧ params = []) ∨ ((x = 1 ∨ x = 2) ∧ params.length = 1) →
      exec (.frameComplete (28 :: tag :: x :: params)) s =
        .next ((Answer.refuse { s with assembler := .hunt } .length).reply (28 :: tag :: x :: params))) ∧
    (∀ p : Port, onePort s b = .ok p ↔ b.toNat = p.val ∨ (b = 0xF0 ∧ s.focus = some p)) ∧
    (onePort s b = .error .noFocus ↔ b = 0xF0 ∧ s.focus = none) ∧
    (onePort s b = .error .badPort ↔ 16 ≤ b.toNat ∧ b ≠ 0xF0) ∧
    (∀ takesAll takesNone, (portOperand s takesAll takesNone b = .error .noFocus ↔ b = 0xF0 ∧ s.focus = none) ∧
      (portOperand s takesAll takesNone b = .error .badPort ↔ 16 ≤ b.toNat ∧ b ≠ 0xF0 ∧
        (b = 0xFE → takesAll = false) ∧ (b = 0xFF → takesNone = false))) ∧
    (∀ r, onePort s b = .error r →
      (∀ i ∈ [Instr.planClear tag b, .planGet tag b, .train tag b x, .isolate tag b x, .recover tag b x,
          .portGet tag b x, .laneGet tag b x, .historyGet tag b, .snapArm tag b x y, .snapGet tag b x],
        exec i s = .next (s.refused i r)) ∧
      ∀ form e e', planLengthFits form e' = true →
        exec (.planSet tag b form e e') s = .next (s.refused (.planSet tag b form e e') r)) ∧
    (∀ r, portOperand s true false b = .error r →
      exec (.indicate tag b x y z) s = .next (s.refused (.indicate tag b x y z) r)) ∧
    (∀ r, portOperand s false true b = .error r → exec (.locate tag b) s = .next (s.refused (.locate tag b) r)) ∧
    (∀ p, onePort s b = .ok p → 2 ≤ x.toNat →
      ∀ i ∈ [Instr.train tag b x, .isolate tag b x, .recover tag b x, .snapArm tag b x y, .snapGet tag b x],
        exec i s = .next (s.refused i .range)) ∧
    (∀ p h, onePort s b = .ok p → halfOperand x = some h →
      ((s.port p).state ≠ .assigned ∨ (h = .B ∧ (s.port p).isSplit = false)) →
      ∀ i ∈ [Instr.train tag b x, .isolate tag b x], exec i s = .next (s.refused i .noLink)) ∧
    (2 ≤ x.toNat → exec (.frameComplete [3, tag, x]) s =
      .next ((Answer.refuse { s with assembler := .hunt } .range).reply [3, tag, x])) ∧
    (3 ≤ x.toNat → params.length ≤ 1 → exec (.frameComplete (28 :: tag :: x :: params)) s =
      .next ((Answer.refuse { s with assembler := .hunt } .range).reply (28 :: tag :: x :: params)))

/-- R42, R46, R47, R48: a PLAN_SET carries the entry its bytes mean, of form FULL with one expectation or SPLIT with
two, or a value out of range; an edit equal to the stored entry changes nothing; on a port that is not ASSIGNED
another edit stores the entry, invalidates the two retained contexts and changes nothing else; a length that
does not fit the form, and a value out of range, are refused. That a preset byte beyond the preset count is not
tested is log entry 16 (DEDUCED). -/
def Obligations.PlanEditIsStored : Prop :=
  (∀ (form : Byte) (a : RawExpectation) (b : Option RawExpectation) (e : PlanEntry),
    entryOf form a b = some e ↔
      (form = 0 ∧ b = none ∧ ∃ x, ExpectationMeans a .full x ∧ e = ⟨.full, x, none⟩) ∨
      (form = 1 ∧ ∃ b' x y, b = some b' ∧ ExpectationMeans a .split x ∧ ExpectationMeans b' .split y ∧
        e = ⟨.split, x, some y⟩)) ∧
  ∀ (s : State) (p : Port), s.executing = none →
    (∀ (i : Instr) (entry : Option PlanEntry), s.edits i p entry →
      ((s.port p).plan = entry → exec i s = .next (s.replied i .ok (s.port p).editBytes)) ∧
      ((s.port p).plan ≠ entry → (s.port p).state ≠ .assigned →
        exec i s = .next ((s.edited p entry).replied i .ok ((s.edited p entry).port p).editBytes))) ∧
    ∀ (tag port form : Byte) (a : RawExpectation) (b : Option RawExpectation),
      (planLengthFits form b = false →
        exec (.planSet tag port form a b) s = .next (s.refused (.planSet tag port form a b) .length)) ∧
      (planLengthFits form b = true → onePort s port = .ok p → entryOf form a b = none →
        exec (.planSet tag port form a b) s = .next (s.refused (.planSet tag port form a b) .range))

/-- R49, R72, R141, R151, R154: an edit that changes the plan form of an ASSIGNED port removes its links with
LINK_DOWN for each live one, with their history entries, captures and releases, leaves no context, keeps the
residues, and surveys the port afresh. That a residue held by the position of an ISOLATED link is among those kept is
log entry 35 (DEDUCED, against a sentence of R49). That the removal of link A may release link B before its own
removal is log entry 15 (DEDUCED), and that both removals are one event for the notice loss is log entry 27 (DESIGN
CHOICE). -/
def Obligations.PlanFormChangeResurveys : Prop :=
  ∀ (i : Instr) (s : State) (p : Port) (entry : Option PlanEntry), s.executing = none → s.edits i p entry →
    (s.port p).state = .assigned → ((s.edited p entry).port p).planForm ≠ (s.port p).planForm →
    ∃ t : State, exec i s = .next (t.replied i .ok (t.port p).editBytes) ∧
      (s.port p).Surveys (t.port p) s.uptime s.timing.window ∧ (t.port p).plan = entry ∧
      (s.port p).SettingsKept (t.port p) ∧ (t.port p).presN = (s.port p).presN ∧
      (∀ h, t.link p h = none ∧ (t.pos p h).context = none ∧ (t.pos p h).residue = (s.pos p h).residue) ∧
      s.PortsKept t p ∧ s.Removed t p .survey .planChange ∧ t.rest = s.rest ∧
      t.queue = (s.downNotices p .planChange).queue ∧ t.overrun = (s.downNotices p .planChange).overrun

/-- R50 to R52: an edit that keeps the plan form of an ASSIGNED port stores the entry and re-evaluates the port's
links within the request, half A before half B: each by its state and the verdict of the new entry, with its
history entry of reason PLAN_CHANGE, its snapshot and its releases (R69, R72, R151). That a link left BLOCKED with
another reason has that history reason is log entry 13 (DEDUCED), and that both re-evaluations are one event for
the notice loss in the snapshots is log entry 27 (DESIGN CHOICE). -/
def Obligations.PlanEditReevaluatesLinks : Prop :=
  ∀ (i : Instr) (s : State) (p : Port) (entry : Option PlanEntry), s.executing = none →
    s.edits i p entry → (s.port p).plan ≠ entry →
    (s.port p).state = .assigned → ((s.edited p entry).port p).planForm = (s.port p).planForm →
    ∃ u v t : State, exec i s = .next (t.replied i .ok (t.port p).editBytes) ∧
      (s.edited p entry).event.Reevaluated u p .A ∧ u.Reevaluated v p .B ∧ t = s.after v ∧
      (t.port p).plan = entry ∧ (t.port p).state = .assigned ∧ (t.port p).desc = (s.port p).desc ∧
      t.rest = s.rest

/-- R56, R153, R155, R172, R173: PLAN_GET, PORT_GET, LANE_GET and SNAP_GET answer from the records and change
nothing; the sections have their lengths; a section or a lane out of range is refused. HISTORY_GET returns the
entries and the wrapped flag and clears the flag alone; SNAP_ARM sets the mode of a position's snapshot and
discards its record. What an absent field is sent as where Chapter 12 gives no code is free: the model's choice,
log entry 20; of an absent identity only the reserved bit 0 of the second byte is given, and is zero (R174 rules
4 and 7). -/
def Obligations.RecordRequestsAct : Prop :=
  ∀ (tag b x m : Byte) (s : State) (p : Port), s.executing = none → onePort s b = .ok p →
    exec (.planGet tag b) s = .next (s.replied (.planGet tag b) .ok (s.port p).planBytes) ∧
    exec (.portGet tag b 0) s = .next (s.replied (.portGet tag b 0) .ok (s.portSection p)) ∧
    exec (.portGet tag b 1) s = .next (s.replied (.portGet tag b 1) .ok (s.pos p .A).bytes) ∧
    exec (.portGet tag b 2) s = .next (s.replied (.portGet tag b 2) .ok (s.pos p .B).bytes) ∧
    exec (.portGet tag b 3) s =
      .next (s.replied (.portGet tag b 3) .ok (allLanes.flatMap fun i => (s.port p).laneEntry i)) ∧
    (4 ≤ x.toNat → exec (.portGet tag b x) s = .next (s.refused (.portGet tag b x) .range)) ∧
    (∀ h : x.toNat < 8, exec (.laneGet tag b x) s =
      .next (s.replied (.laneGet tag b x) .ok (s.laneBytes p ⟨x.toNat, h⟩))) ∧
    (8 ≤ x.toNat → exec (.laneGet tag b x) s = .next (s.refused (.laneGet tag b x) .range)) ∧
    (∀ h, halfOperand x = some h → exec (.snapGet tag b x) s =
      .next (s.replied (.snapGet tag b x) .ok
        (num (s.pos p h).snap.mode.code ++ flag (s.pos p h).snap.record.isSome ++
          (match (s.pos p h).snap.record with
           | some r => r.bytes
           | none => [])))) ∧
    (s.port p).planBytes.length = 38 ∧ (s.portSection p).length = 18 ∧ (∀ h, (s.pos p h).bytes.length = 113) ∧
    (allLanes.flatMap fun i => (s.port p).laneEntry i).length = 64 ∧ (∀ i, (s.laneBytes p i).length = 29) ∧
    exec (.historyGet tag b) s =
      .next ((s.setPort p { s.port p with wrapped := false }).replied (.historyGet tag b) .ok
        (flag (s.port p).wrapped ++ num (s.port p).history.length ++
          (s.port p).history.flatMap fun e => e.bytes)) ∧
    (∀ h mode, halfOperand x = some h → snapModeOf m = some mode → exec (.snapArm tag b x m) s =
      .next ((s.modPos p h fun y => { y with snap := { mode := mode, record := none } }).replied (.snapArm tag b x m)
        .ok (num m.toNat ++ num 0))) ∧
    (∀ h, halfOperand x = some h → 3 ≤ m.toNat →
      exec (.snapArm tag b x m) s = .next (s.refused (.snapArm tag b x m) .range)) ∧
    (snapModeOf 0 = some .off ∧ snapModeOf 1 = some .once ∧ snapModeOf 2 = some .every) ∧
    ∀ (n : Nat) (before after : Data), ∃ y : Byte,
      ((fillData n (before ++ optId none ++ after)).drop before.length).take 2 = [0, y] ∧ y.getLsbD 0 = false

/-! ### Ports -/

/-- R12: PORT_ON takes a port in OFF to EMPTY and changes nothing on another; with ALL, every port in OFF. -/
def Obligations.PortOnTakesOffPortToEmpty : Prop :=
  ∀ (tag b : Byte) (s : State), s.executing = none →
    (∀ p, onePort s b = .ok p → (s.port p).state ≠ .off →
      exec (.portOn tag b) s = .next (s.replied (.portOn tag b) .ok (num (s.port p).state.code))) ∧
    (∀ p, onePort s b = .ok p → (s.port p).state = .off → exec (.portOn tag b) s =
      .next ((s.setPort p (({ s.port p with
          state := .empty, enabled := true, accepted := false, debounceCount := 0 } : PortUnit).append
            ⟨s.uptime, .port .off .empty, .portOn⟩)).replied (.portOn tag b) .ok (num 1))) ∧
    (∃ t : State, exec (.portOn tag 0xFE) s = .next (t.replied (.portOn tag 0xFE) .ok t.portStates) ∧
      t = { s with ports := t.ports } ∧
      ∀ p, t.port p = if (s.port p).state = .off then
          ({ s.port p with state := .empty, enabled := true, accepted := false, debounceCount := 0 } :
            PortUnit).append ⟨s.uptime, .port .off .empty, .portOn⟩
        else s.port p) ∧
    ∀ r, portOperand s true false b = .error r → exec (.portOn tag b) s = .next (s.refused (.portOn tag b) r)

/-- R11, R72, R151, R154: PORT_OFF removes the links with LINK_DOWN for each live one, with their history entries,
captures and releases, clears the residues and keeps the contexts, silences the lanes, clears the record and enters
OFF, and drops focus and locate selection from the port; a port in OFF loses those two alone. That the removal of
link A may release link B before its own removal is log entry 15 (DEDUCED), and that both removals are one event for
the notice loss is log entry 27 (DESIGN CHOICE). -/
def Obligations.PortOffDisablesPort : Prop :=
  ∀ (tag b : Byte) (s : State), s.executing = none →
    (∀ p, onePort s b = .ok p → ∃ t : State,
      exec (.portOff tag b) s = .next (t.replied (.portOff tag b) .ok (num 0)) ∧
      (t.port p).state = .off ∧ t.focus = (if s.focus = some p then none else s.focus) ∧
      t.locate = (if s.locate = some p then none else s.locate) ∧
      ((s.port p).state = .off → t.ports = s.ports ∧ t.queue = s.queue ∧ t.overrun = s.overrun) ∧
      ((s.port p).state ≠ .off →
        (t.port p).enabled = false ∧ (t.port p).accepted = false ∧ (t.port p).debounceCount = 0 ∧
        (t.port p).desc = none ∧ (t.port p).fault = none ∧ (t.port p).readAttempt = 0 ∧
        (t.port p).windowTimer = none ∧ (t.port p).settleTimer = none ∧ (t.port p).Silent ∧
        (t.port p).plan = (s.port p).plan ∧ (s.port p).SettingsKept (t.port p) ∧
        (t.port p).presN = (s.port p).presN ∧
        (∀ h, t.link p h = none ∧ (t.pos p h).context = (s.pos p h).context ∧ (t.pos p h).residue = none) ∧
        s.Removed t p .off .portOff ∧
        t.queue = (s.downNotices p .portOff).queue ∧ t.overrun = (s.downNotices p .portOff).overrun) ∧
      s.PortsKept t p ∧
      t.rest = { s.rest with
        focus := t.focus, locate := t.locate, blinkOn := if s.locate = some p then false else s.blinkOn }) ∧
    (∃ t : State, exec (.portOff tag 0xFE) s = .next (t.replied (.portOff tag 0xFE) .ok t.portStates) ∧
      (∀ p, (t.port p).state = .off) ∧ t.focus = none ∧ t.locate = none) ∧
    ∀ r, portOperand s true false b = .error r → exec (.portOff tag b) s = .next (s.refused (.portOff tag b) r)

/-- R13, R169: RESURVEY with a bad port operand is refused, then in SETUP mode, then on a single port that surveys
nothing; it starts the timers of a SURVEY port again, surveys an ASSIGNED port afresh without contexts, and reads the
cable of a CABLE_FAULT port again; with ALL it does so on every such port and leaves the others. Each removal has its
history entries, captures and releases (R72, R151, R154): that link A's may release link B first is log entry 15
(DEDUCED), and that both are one event for the notice loss is log entry 27 (DESIGN CHOICE). -/
def Obligations.ResurveyActsByPortState : Prop :=
  ∀ (tag b : Byte) (s : State), s.executing = none →
    (∀ r, portOperand s true false b = .error r →
      exec (.resurvey tag b) s = .next (s.refused (.resurvey tag b) r)) ∧
    (∀ o, portOperand s true false b = .ok o → s.mode = .setup →
      exec (.resurvey tag b) s = .next (s.refused (.resurvey tag b) .wrongMode)) ∧
    (∀ p : Port, onePort s b = .ok p → s.mode = .active →
      ((s.port p).state ∈ [PortState.off, .empty, .seating, .seated] →
        exec (.resurvey tag b) s = .next (s.refused (.resurvey tag b) .wrongState)) ∧
      ((s.port p).state = .survey → exec (.resurvey tag b) s =
        .next ((s.setPort p { s.port p with
            windowTimer := some ⟨s.uptime, s.timing.window⟩, settleTimer := some ⟨s.uptime, 20⟩ }).replied
          (.resurvey tag b) .ok (num 4))) ∧
      ((s.port p).state = .assigned → ∃ t : State,
        exec (.resurvey tag b) s = .next (t.replied (.resurvey tag b) .ok (num 4)) ∧
        (s.port p).Surveys (t.port p) s.uptime s.timing.window ∧ (t.port p).plan = (s.port p).plan ∧
        (s.port p).SettingsKept (t.port p) ∧
        (∀ h, t.link p h = none ∧ (t.pos p h).context = none ∧ (t.pos p h).residue = (s.pos p h).residue) ∧
        s.PortsKept t p ∧ s.Removed t p .survey .resurvey ∧ t.rest = s.rest ∧
        t.queue = (s.downNotices p .resurvey).queue ∧ t.overrun = (s.downNotices p .resurvey).overrun) ∧
      ((s.port p).state = .cableFault → exec (.resurvey tag b) s =
        .next ((s.setPort p (({ s.port p with fault := none, readAttempt := 1, state := .seating } :
            PortUnit).append ⟨s.uptime, .port .cableFault .seating, .resurvey⟩)).replied
          (.resurvey tag b) .ok (num 2)))) ∧
    (s.mode = .active → ∃ t n : State,
      exec (.resurvey tag 0xFE) s = .next (t.replied (.resurvey tag 0xFE) .ok t.portStates) ∧ t.rest = s.rest ∧
      n = allPorts.foldl (fun n p =>
        if (s.port p).state = .assigned then s.downNoticesIn n p .resurvey else n) s ∧
      t.queue = n.queue ∧ t.overrun = n.overrun ∧
      ∀ p, ((s.port p).state = .survey → (t.port p).lanes = (s.port p).lanes ∧
          (t.port p).bare = ({ s.port p with
            windowTimer := some ⟨s.uptime, s.timing.window⟩, settleTimer := some ⟨s.uptime, 20⟩ } : PortUnit).bare) ∧
        ((s.port p).state = .assigned → (s.port p).Surveys (t.port p) s.uptime s.timing.window ∧
          (t.port p).plan = (s.port p).plan ∧ (s.port p).SettingsKept (t.port p) ∧
          ∀ h, t.link p h = none ∧ (t.pos p h).context = none ∧ (t.pos p h).residue = (s.pos p h).residue) ∧
        ((s.port p).state = .cableFault → (t.port p).lanes = (s.port p).lanes ∧
          (t.port p).bare =
            ({ s.port p with fault := none, readAttempt := 1, state := .seating } : PortUnit).bare) ∧
        ((s.port p).state ∈ [PortState.off, .empty, .seating, .seated] →
          (t.port p).lanes = (s.port p).lanes ∧ (t.port p).bare = (s.port p).bare))

/-- R15, R18: INDICATE writes the three settings of a port, or of every port with ALL, and refuses a value out of
range; LOCATE sets and ends the one selection, a port newly selected begins to blink on, and the blink
toggles only while a port is selected. -/
def Obligations.IndicateAndLocateAct : Prop :=
  ∀ (tag b x v d : Byte) (s : State), s.executing = none →
    (∀ source invert direct, sourceOf x = some source → yesNo v = some invert → directOf d = some direct →
      (∀ p, onePort s b = .ok p → ∃ t : State,
        t = s.setPort p { s.port p with indSource := source, indInvert := invert, indDirect := direct } ∧
        exec (.indicate tag b x v d) s = .next (t.replied (.indicate tag b x v d) .ok
          ([.given x, .given v, .given d] ++ flag (t.ind p)))) ∧
      ∃ t : State, t = { s with ports := t.ports } ∧
        (∀ p, t.port p = { s.port p with indSource := source, indInvert := invert, indDirect := direct }) ∧
        exec (.indicate tag 0xFE x v d) s = .next (t.replied (.indicate tag 0xFE x v d) .ok
          ([.given x, .given v, .given d] ++ allPorts.flatMap fun p => flag (t.ind p)))) ∧
    (∀ p, onePort s b = .ok p → (5 ≤ x.toNat ∨ 2 ≤ v.toNat ∨ 3 ≤ d.toNat) →
      exec (.indicate tag b x v d) s = .next (s.refused (.indicate tag b x v d) .range)) ∧
    (∀ p, onePort s b = .ok p → exec (.locate tag b) s =
      .next ((if s.locate = some p then s else { s with locate := some p, blinkOn := true }).replied (.locate tag b)
        .ok (num p.val))) ∧
    exec (.locate tag 0xFF) s =
      .next (({ s with locate := none, blinkOn := false } : State).replied (.locate tag 0xFF) .ok (num 255)) ∧
    exec (.locate tag 0xFE) s = .next (s.refused (.locate tag 0xFE) .badPort) ∧
    exec .locateBlinkToggle s = .next (if s.locate = none then s else { s with blinkOn := !s.blinkOn })

/-- R16, R17: the IND output of a port, row by row: the locate blink before the direct setting, the direct setting
before source and invert; and the source signal of each source, by the port and its links. -/
def Obligations.IndicatorFollowsTable : Prop :=
  ∀ (s : State) (p : Port),
    (s.holdsLocate p = true → s.ind p = s.blinkOn) ∧
    (s.holdsLocate p = false → (s.port p).indDirect = .on → s.ind p = true) ∧
    (s.holdsLocate p = false → (s.port p).indDirect = .off → s.ind p = false) ∧
    (s.holdsLocate p = false → (s.port p).indDirect = .none → (s.port p).indInvert = false →
      s.ind p = (s.port p).sourceSignal) ∧
    (s.holdsLocate p = false → (s.port p).indDirect = .none → (s.port p).indInvert = true →
      s.ind p = !(s.port p).sourceSignal) ∧
    ((s.port p).state = .off → (s.port p).sourceSignal = false) ∧
    ((s.port p).indSource = .present →
      ((s.port p).sourceSignal = true ↔ (s.port p).state ≠ .off ∧ (s.port p).accepted = true)) ∧
    ((s.port p).indSource = .upAny →
      ((s.port p).sourceSignal = true ↔ (s.port p).state = .assigned ∧
        ∃ h l, s.link p h = some l ∧ l.state = .up)) ∧
    ((s.port p).indSource = .upAll →
      ((s.port p).sourceSignal = true ↔ (s.port p).state = .assigned ∧
        ∀ h l, s.link p h = some l → l.state = .up)) ∧
    ((s.port p).indSource = .attention →
      ((s.port p).sourceSignal = true ↔ (s.port p).state = .cableFault ∨ ((s.port p).state = .assigned ∧
        ∃ h l, s.link p h = some l ∧ (l.state = .blocked ∨ l.state = .isolated)))) ∧
    ((s.port p).indSource = .health →
      ((s.port p).sourceSignal = true ↔ (s.port p).state = .assigned ∧
        ∃ h l, s.link p h = some l ∧ l.state = .up ∧
          (l.sup.level = some .warned ∨ l.sup.level = some .degraded)))

/-! ### Links by request -/

/-- R108, R74, R72, R154: TRAIN by the state of the link, with the history entry of each change. On a CHECKING link
it restarts the quiet timer within the 500 ms, unless the link holds the grant already: log entry 31 (DEDUCED). -/
def Obligations.TrainActsByLinkState : Prop :=
  ∀ (tag b x : Byte) (s : State) (p : Port) (h : Half) (l : Link), s.executing = none →
    onePort s b = .ok p → halfOperand x = some h →
    (s.port p).state = .assigned → (h = .B → (s.port p).isSplit = true) → s.link p h = some l →
    (l.state = .checking → exec (.train tag b x) s =
      .next ((s.setLink p h (some
          (if l.grant = true then l
            else if l.checkEntry.any (fun e => decide ((s.uptime - e).toNat < 500)) then
              { l with grant := true, quiet := some ⟨s.uptime, 20⟩ }
            else { l with grant := true }))).replied (.train tag b x) .ok
        (num l.state.code ++ reasonCode l.reason ++ num 1 ++ num l.attempts))) ∧
    ((l.state = .training ∨ l.state = .up ∨
        (l.state = .verified ∧ (s.port p).farReady h l = false)) → exec (.train tag b x) s =
      .next ((s.setLink p h (some { l with grant := true })).replied (.train tag b x) .ok
        (num l.state.code ++ reasonCode l.reason ++ num 1 ++ num l.attempts))) ∧
    (l.state = .verified → (s.port p).farReady h l = true → ∃ (t : State) (k : Link),
      exec (.train tag b x) s =
        .next (t.replied (.train tag b x) .ok (num 3 ++ reasonCode k.reason ++ num 1 ++ num k.attempts)) ∧
      t.link p h = some k ∧ k.state = .training ∧ k.grant = true ∧ k.attempts = l.attempts ∧
      k.training.stage = some .equalize ∧ k.training.timer = some ⟨s.uptime, s.timing.timeout⟩ ∧ k.marks = {} ∧
      k.sup.trainings = min 65535 (l.sup.trainings + 1) ∧
      s.ActsAt t p h [s.moved h (some .verified) (some .training) .start] none) ∧
    (l.state = .blocked → l.reason = some .trainFailed → ∃ (t : State) (k : Link),
      exec (.train tag b x) s = .next (t.replied (.train tag b x) .ok (num 0 ++ num 0 ++ num 1 ++ num 0)) ∧
      t.link p h = some k ∧ k = { l with
        state := .checking, reason := none, grant := true, attempts := 0
        checkEntry := some s.uptime, quiet := some ⟨s.uptime, 20⟩ } ∧
      s.ActsAt t p h [s.moved h (some .blocked) (some .checking) .train] none) ∧
    ((l.state = .isolated ∨ (l.state = .blocked ∧ l.reason ≠ some .trainFailed)) →
      exec (.train tag b x) s = .next (s.refused (.train tag b x) .wrongState))

/-- R134, R135, R72, R151, R152: ISOLATE takes a link of any other state to ISOLATED with score 127, its probe set
and timer, its snapshot and its history entry, keeping grant, far identity, map class, context and residue, and
releases what waits for a link that it takes from VERIFIED, TRAINING or UP; an ISOLATED link is refused. -/
def Obligations.IsolateActsByLinkState : Prop :=
  ∀ (tag b x : Byte) (s : State) (p : Port) (h : Half) (l : Link), s.executing = none →
    onePort s b = .ok p → halfOperand x = some h →
    (s.port p).state = .assigned → (h = .B → (s.port p).isSplit = true) → s.link p h = some l →
    (l.state = .isolated → exec (.isolate tag b x) s = .next (s.refused (.isolate tag b x) .wrongState)) ∧
    (l.state ≠ .isolated → ∃ (t : State) (k : Link),
      exec (.isolate tag b x) s = .next (t.replied (.isolate tag b x) .ok (num 5 ++ num 127)) ∧
      t.link p h = some k ∧ k.state = .isolated ∧ k.sup.score = 127 ∧ k.sup.isoCause = some .hostIsolate ∧
      k.sup.probeTimer = some ⟨s.uptime, 10⟩ ∧ k.sup.probeDirty = false ∧ k.sup.probeChange = false ∧
      k.sup.probesMade = 0 ∧ k.sup.probesClean = 0 ∧
      k.sup.probeSet = (if l.state = .up then groupLanes l.agree.active ||| (s.port p).usable h l
        else (s.port p).confirmedSet h l.far) ∧
      k.grant = l.grant ∧ k.far = l.far ∧ k.map = l.map ∧ k.polarity = l.polarity ∧
      k.attempts = (if l.state = .blocked ∧ l.reason = some .trainFailed then 0 else l.attempts) ∧
      k.agree.active = (if l.live then none else l.agree.active) ∧ (l.live = true → k.marks = {}) ∧
      (t.pos p h).context = (s.pos p h).context ∧ (t.pos p h).residue = (s.pos p h).residue ∧
      t.queue = ((if l.live then s.postLink p h (l.downNotice .hostIsolate) else s).postLink p h
        (.isolated .hostIsolate 127)).queue ∧
      s.ActsAt t p h [s.moved h (some l.state) (some .isolated) .hostIsolate]
        (some (s.lostRecord p h l k .hostIsolate .hostIsolate)))

/-- R139: RECOVER by mode: in ACTIVE mode it sets the score of an ISOLATED link to 1, in SETUP mode it clears
the residue of the position. -/
def Obligations.RecoverActsByMode : Prop :=
  ∀ (tag b x : Byte) (s : State), s.executing = none →
    (∀ r, onePort s b = .error r → exec (.recover tag b x) s = .next (s.refused (.recover tag b x) r)) ∧
    onePort s 0xFE = .error .badPort ∧
    ∀ (p : Port) (h : Half), onePort s b = .ok p → halfOperand x = some h →
      (s.mode = .active → ((s.port p).state ≠ .assigned ∨ (h = .B ∧ (s.port p).isSplit = false)) →
        exec (.recover tag b x) s = .next (s.refused (.recover tag b x) .noLink)) ∧
      (∀ l, s.mode = .active → (s.port p).state = .assigned → (h = .B → (s.port p).isSplit = true) →
        s.link p h = some l →
        exec (.recover tag b x) s =
          .next (if l.state = .isolated then
              (s.setLink p h (some { l with sup := { l.sup with score := 1 } })).replied (.recover tag b x) .ok
                (num 5 ++ num 1)
            else s.refused (.recover tag b x) .wrongState)) ∧
      (∀ r, s.mode = .setup → (s.pos p h).residue = some r → exec (.recover tag b x) s =
        .next ((s.modPos p h fun y => { y with residue := none }).replied (.recover tag b x) .ok (num r))) ∧
      (s.mode = .setup → (s.pos p h).residue = none →
        exec (.recover tag b x) s = .next (s.refused (.recover tag b x) .wrongState))

/-! ### Presence and the descriptor -/

/-- R2, R3, R4, R19: a sample at the accepted level clears the count; the first at another level sets it; the second
makes that level the accepted presence. In OFF and with the period NONE no sample acts; the line itself always
follows its pin. A cable accepted on an EMPTY port, by the second sample or at once with the period NONE, takes
it to SEATING with attempt 1, a history entry and a CABLE_IN notice, and changes nothing else. A sample that
cannot be taken, and ACCEPTANCE_AT_ONCE outside EMPTY, with another period or with the line high, change nothing
by log entry 3 (DESIGN CHOICE). -/
def Obligations.PresenceTakesCableIn : Prop :=
  (∀ (p : Port) (s : State) (q : PortUnit), q = s.port p →
    ((q.state = .off ∨ s.timing.debounce = .none) → exec (.presenceSample p) s = .next s) ∧
    (q.state ≠ .off → s.timing.debounce ≠ .none → (q.presN == .low) = q.accepted →
      exec (.presenceSample p) s = .next (s.setPort p { q with debounceCount := 0 })) ∧
    (q.state ≠ .off → s.timing.debounce ≠ .none → (q.presN == .low) ≠ q.accepted → q.debounceCount = 0 →
      exec (.presenceSample p) s = .next (s.setPort p { q with debounceCount := 1 })) ∧
    (q.RecordOk → s.timing.debounce ≠ .none → (q.presN == .low) ≠ q.accepted → q.debounceCount = 1 →
      ∃ t, exec (.presenceSample p) s = .next t ∧ (t.port p).accepted = (q.presN == .low) ∧
        (t.port p).debounceCount = 0) ∧
    (∀ level, (q.state = .off ∨ s.timing.debounce ≠ .none) →
      exec (.presNChange p level) s = .next (s.setPort p { q with presN := level })) ∧
    ((q.state ≠ .empty ∨ s.timing.debounce ≠ .none ∨ q.presN = .high) →
      exec (.acceptanceAtOnce p) s = .next s)) ∧
  ∀ (p : Port) (s t : State) (q : PortUnit), q = s.port p → q.state = .empty → q.accepted = false →
    t = (s.setPort p (({ q with
        presN := .low, state := .seating, accepted := true, readAttempt := 1, debounceCount := 0 } :
        PortUnit).append ⟨s.uptime, .port .empty .seating, .cableIn⟩)).postPort p .cableIn →
    (q.presN = .low → s.timing.debounce ≠ .none → q.debounceCount = 1 → exec (.presenceSample p) s = .next t) ∧
    (s.timing.debounce = .none → q.debounceCount = 0 → exec (.presNChange p .low) s = .next t) ∧
    (q.presN = .low → s.timing.debounce = .none → q.debounceCount = 0 → exec (.acceptanceAtOnce p) s = .next t)

/-- R9, R72, R123, R141, R151, R152, R154: a cable accepted as absent takes the port to EMPTY: links removed with
LINK_DOWN for each live one, residues and contexts gone, lanes silent, descriptor and fault cleared, and CABLE_OUT
with the state left; the enabled field, plan entry and indicator settings stay. The snapshot of each position whose
link was UP has its capture attempt, with the notice loss as it stood before the removal, and no other has one; the
history entries of the links come before the port's. That the removal of link A may release link B before its own
removal is log entry 15 (DEDUCED), and that both removals are one event for the notice loss is log entry 27 (DESIGN
CHOICE). -/
def Obligations.CableOutEmptiesPort : Prop :=
  ∀ (p : Port) (i : Instr) (s : State) (q : PortUnit), q = s.port p → q.accepted = true → q.state ≠ .off →
    q.state ≠ .empty →
    ((i = .presenceSample p ∧ q.presN = .high ∧ s.timing.debounce ≠ .none ∧ q.debounceCount = 1) ∨
      (i = .presNChange p .high ∧ s.timing.debounce = .none)) →
    ∃ t : State, exec i s = .next t ∧
      (t.port p).state = .empty ∧ (t.port p).presN = .high ∧ (t.port p).accepted = false ∧
      (t.port p).desc = none ∧ (t.port p).fault = none ∧ (t.port p).readAttempt = 0 ∧
      (t.port p).windowTimer = none ∧ (t.port p).settleTimer = none ∧ (t.port p).Silent ∧
      (t.port p).enabled = q.enabled ∧ (t.port p).plan = q.plan ∧ q.SettingsKept (t.port p) ∧
      (∀ h, t.link p h = none ∧ (t.pos p h).context = none ∧ (t.pos p h).residue = none) ∧
      s.Removed t p .empty .cableOut ∧ (s.eventLoss = none → s.noticeLoss = decide (0 < s.overrun)) ∧
      s.PortsKept t p ∧ t.rest = s.rest ∧
      t.queue = ((s.downNotices p .cableOut).postPort p (.cableOut q.state)).queue

/-- R5, R7: a failed attempt is followed by the next, the third ends the read in CABLE_FAULT; unusable contents
end it at once; usable contents are stored and the port enters SEATED or, in ACTIVE mode, SURVEY. Bytes and
silence outside an attempt change nothing (NO_ANSWER there by log entry 3, DESIGN CHOICE; bytes by R5). -/
def Obligations.DescriptorAttemptsEnd : Prop :=
  ∀ (p : Port) (b0 b1 b2 b3 b4 : Byte) (s : State) (q : PortUnit), q = s.port p →
    (q.state ≠ .seating →
      exec (.noAnswer p) s = .next s ∧ exec (.descriptorAnswered p b0 b1 b2 b3 b4) s = .next s) ∧
    (q.state = .seating → ∀ i r,
      ((i = .noAnswer p ∧ r = .noAnswer) ∨
        (i = .descriptorAnswered p b0 b1 b2 b3 b4 ∧ r = .badCheck ∧ b0 + b1 + b2 + b3 + b4 ≠ 0)) →
      (q.readAttempt < 3 → exec i s = .next (s.setPort p { q with readAttempt := q.readAttempt + 1 })) ∧
      (q.readAttempt = 3 → exec i s =
        .next ((s.setPort p (({ q with state := .cableFault, fault := some r, readAttempt := 0 } :
          PortUnit).append ⟨s.uptime, .port .seating .cableFault, r⟩)).postPort p (.cableFault r 3)))) ∧
    (q.state = .seating → b0 + b1 + b2 + b3 + b4 = 0 → descriptorOf b0 b1 b2 b3 = none →
      exec (.descriptorAnswered p b0 b1 b2 b3 b4) s =
        .next ((s.setPort p (({ q with state := .cableFault, fault := some .badContents, readAttempt := 0 } :
          PortUnit).append ⟨s.uptime, .port .seating .cableFault, .badContents⟩)).postPort p
            (.cableFault .badContents q.readAttempt))) ∧
    (∀ d, q.state = .seating → b0 + b1 + b2 + b3 + b4 = 0 → descriptorOf b0 b1 b2 b3 = some d →
      (s.mode = .setup → exec (.descriptorAnswered p b0 b1 b2 b3 b4) s =
        .next (s.setPort p (({ q with state := .seated, desc := some d, readAttempt := 0 } :
          PortUnit).append ⟨s.uptime, .port .seating .seated, .readGood⟩))) ∧
      (s.mode = .active → ∃ t : State, exec (.descriptorAnswered p b0 b1 b2 b3 b4) s = .next t ∧
        ({ q with desc := some d } : PortUnit).Surveys (t.port p) s.uptime s.timing.window ∧
        (t.port p).readAttempt = 0 ∧ (t.port p).posA = q.posA ∧ (t.port p).posB = q.posB ∧
        (∀ p', p' ≠ p → t.port p' = s.port p') ∧ t.rest = s.rest ∧ t.queue = s.queue))

/-- R6, R176: the contents of a descriptor are usable when form and media are codes of the table and the lane
count, rounded down to 1, 2, 4 or 8, is not 0 and is 8 for SPLIT. -/
def Obligations.DescriptorContents : Prop :=
  ∀ (b0 b1 b2 b3 : Byte) (d : Descriptor), descriptorOf b0 b1 b2 b3 = some d ↔
    ((b0 = 1 ∧ d.form = .full) ∨ (b0 = 2 ∧ d.form = .split ∧ d.lanes = 8)) ∧
    d.lanes ∈ [1, 2, 4, 8] ∧ d.lanes ≤ b1.toNat % 16 ∧
    (∀ w ∈ [1, 2, 4, 8], w ≤ b1.toNat % 16 → w ≤ d.lanes) ∧
    ((b2 = 1 ∧ d.media = .passiveCopper) ∨ (b2 = 2 ∧ d.media = .activeCopper) ∨ (b2 = 3 ∧ d.media = .optical)) ∧
    d.length = b3.toNat ∧ d.adjusted = decide (d.lanes ≠ b1.toNat % 16)

/-- R58 to R61, R67 to R69, R109: the survey ends at its window, or by settle once every lane of a span is CONFIRMED,
with the same outcome: the port is ASSIGNED, has the links of its form, and each has its first verdict, half A before
half B. A link created so and VERIFIED enters TRAINING in the same event where the start test is met, but waits in
VERIFIED where a removal of the port falls together with the end: when that is so is log entry 30 (DEDUCED); that
both verdicts are one event for the notice loss in the snapshots is log entry 27 (DESIGN CHOICE). An expiry on a port
that is not in SURVEY changes nothing: log entry 3 (DESIGN CHOICE). -/
def Obligations.SurveyEnds : Prop :=
  ∀ (p : Port) (s : State) (q : PortUnit), q = s.port p →
    (q.state ≠ .survey → exec (.surveyWindowExpiry p) s = .next s ∧ exec (.settleExpiry p) s = .next s) ∧
    (q.state = .survey → q.settleTimer.isSome = true →
      (∃ i, q.inSpan i = true ∧ (q.lane i).rx.status ≠ .confirmed) →
      exec (.settleExpiry p) s = .next (s.setPort p { q with settleTimer := none })) ∧
    (q.state = .survey → q.windowTimer.isSome = true → q.settleTimer.isSome = true →
      (∀ i, q.inSpan i = true → (q.lane i).rx.status = .confirmed) →
      exec (.settleExpiry p) s = exec (.surveyWindowExpiry p) s) ∧
    (q.state = .survey → q.windowTimer.isSome = true → (∀ h, s.link p h = none) → ∃ v a b t : State,
      exec (.surveyWindowExpiry p) s = .next t ∧ t = s.after b ∧
      v = (s.setPort p (({ q with
          state := .assigned, windowTimer := none, settleTimer := none
          lanes := Vector.ofFn fun i : Fin 8 =>
            { q.lane i with preset := q.autoList.headD 0, best := none, delay := 0, active := false } } :
          PortUnit).append ⟨s.uptime, .port .survey .assigned, .surveyEnd⟩)).event ∧
      v.Judged a p .A {} id ∧ a.queue = (v.verdictNotices p .A).queue ∧
      (q.isSplit = true → a.Judged b p .B {} id ∧ b.queue = (a.verdictNotices p .B).queue) ∧
      (q.isSplit = false → b = a ∧ b.link p .B = none) ∧
      (∀ rest, q.accepted = true → q.presN = .high → q.debounceCount ≠ 0 → s.timing.debounce ≠ .none →
        s.pending = .presenceSample p :: rest → ∀ h k, t.link p h = some k → k.live = false) ∧
      s.PortsKept t p ∧ t.rest = s.rest)

/-! ### Lane marks and lane records -/

/-- R20, R21, R22, R24: as the stamp counter passes 0, every lane that may send begins a mark with its own
identity, span, tag, grade and echo, every other lane is silent, and nothing else changes. -/
def Obligations.MarksAreTransmitted : Prop :=
  ∀ (p : Port) (quality : Vector (BitVec 4) 8) (s : State), ∃ t : State,
    exec (.markTransmit p quality) s = .next t ∧ t = s.setPort p (t.port p) ∧
    t.port p = { s.port p with stampCounter := 0, lanes := (t.port p).lanes } ∧
    ∀ i : Lane,
      (t.port p).lane i = { (s.port p).lane i with
        txMark := if s.processed p i then some (s.formMark p i quality[i]).encode else none } ∧
      (s.formMark p i quality[i]).id = ⟨⟨⟨s.chassis, s.position, BitVec.ofNat 4 p.val,
        if (s.port p).isSplit = true ∧ 4 ≤ i.val then .B else .A⟩, BitVec.ofNat 3 i.val⟩,
        (s.port p).span ((s.port p).laneHalf i)⟩ ∧
      (s.formMark p i quality[i]).tag = s.planTag ∧
      (s.formMark p i quality[i]).grade = (if ((s.port p).lane i).signal then quality[i] else 0) ∧
      (s.formMark p i quality[i]).echo = ((s.port p).lane i).rx.held.map fun k => k.id.id

/-- R23, R25: the phase of an outgoing mark is SURVEY on a port in SURVEY and follows the state of the lane's link,
with the permission to train while VERIFIED, on an ASSIGNED port; its usable set is the confirmed lanes of the
lane's half in SURVEY and the usable set of the link in ASSIGNED, its proposal and accept are absent and no in
SURVEY and the link's own in ASSIGNED: the same for every lane of the link. -/
def Obligations.MarkFieldsFollowLink : Prop :=
  ∀ (s : State) (p : Port) (i : Lane) (quality : BitVec 4) (h : Half) (l : Link) (m : Mark),
    h = (s.port p).laneHalf i → m = s.formMark p i quality →
    ((s.port p).state = .survey → m.phase = .survey ∧ m.proposal = none ∧ m.accept = false ∧
      ∀ r, LaneSet.has m.usable r = true ↔
        r < 8 ∧ r < (s.port p).span h ∧ ((s.port p).rel h r).rx.status = .confirmed) ∧
    ((s.port p).state = .assigned → s.link p h = some l →
      (l.state = .checking → m.phase = .hold) ∧
      (l.state = .blocked → m.phase = .hold) ∧
      (l.state = .isolated → m.phase = .hold) ∧
      (l.state = .verified → (s.port p).permitted h l = false → m.phase = .hold) ∧
      (l.state = .verified → (s.port p).permitted h l = true → m.phase = .ready) ∧
      (l.state = .training → m.phase = .train) ∧
      (l.state = .up → m.phase = .link) ∧
      m.proposal = l.agree.proposal ∧ m.accept = l.agree.accept ∧
      ∀ r, LaneSet.has m.usable r = true ↔
        r < 8 ∧ r < (s.port p).span h ∧ ((s.port p).rel h r).rx.status = .confirmed ∧
        (∀ f, l.far = some f → ((s.port p).rel h r).heldFar = some f) ∧
        (l.live = true → LaneSet.has l.marks.weak r = false ∧ LaneSet.has l.marks.skewRejected r = false ∧
          LaneSet.has l.marks.lockLost r = false))

/-- R26, R32, R58: a lane that is not processed moves nothing but what its front end tracks; on a port in SURVEY
a signal event moves the status, clears what it must, and restarts the settle timer. The stamp counter field
holds the last value shown: the model's choice, log entry 6. -/
def Obligations.SignalEventsMoveStatus : Prop :=
  ∀ (p : Port) (i : Lane) (s : State) (x : LaneUnit), x = (s.port p).lane i →
    (s.processed p i = false →
      exec (.signalGained p i) s = .next (s.modLane p i fun k => { k with signal := true }) ∧
      exec (.signalLost p i) s = .next (s.modLane p i fun k => { k with signal := false }) ∧
      (∀ block stamp, exec (.markArrived p i block stamp) s =
        .next (s.modPort p fun q => { q with stampCounter := stamp })) ∧
      exec (.syncMissing p i) s = .next s ∧ exec (.lockLost p i) s = .next s) ∧
    (s.processed p i = true → x.rx.status = .quiet →
      exec (.signalLost p i) s = .next (s.modLane p i fun k => { k with signal := false })) ∧
    (s.processed p i = true → x.rx.status ≠ .quiet →
      exec (.signalGained p i) s = .next (s.modLane p i fun k => { k with signal := true })) ∧
    (s.processed p i = true → (s.port p).state = .survey → x.rx.status = .quiet →
      exec (.signalGained p i) s =
        .next ((s.modLane p i fun k => { k with signal := true, rx := { k.rx with status := .signal } }).modPort p
          fun q => { q with settleTimer := some ⟨s.uptime, 20⟩ })) ∧
    (s.processed p i = true → (s.port p).state = .survey → x.rx.status ≠ .quiet →
      exec (.signalLost p i) s =
        .next ((s.modLane p i fun k => { k with
            signal := false
            rx := { k.rx with
              status := .quiet, held := none, candidate := none, repeats := 0, consecBad := 0 } }).modPort p
          fun q => { q with settleTimer := some ⟨s.uptime, 20⟩ }))

/-- R27, R29, R33 to R36: what an arrival at a processed lane does to its receive record: the counts of every
arrival; a candidate accepted at its second consecutive mark; the heard fields, stamp and status from every
mark of the held identity; the polarity correction turned over by a valid mark decoded inverted; and the held
identity lost at the eighth consecutive bad mark. -/
def Obligations.ArrivalsBuildRecord : Prop :=
  ∀ (p : Port) (i : Lane) (s : State) (x : LaneUnit), x = (s.port p).lane i → s.processed p i = true →
    (∀ block stamp inverted b m, frameBlock (x.received block) = some (inverted, b) → readMark b = .ok m →
      ∃ (t : State) (y : LaneUnit), exec (.markArrived p i block stamp) s = .next t ∧ y = (t.port p).lane i ∧
        y.rx.good = min 255 (x.rx.good + 1) ∧ y.rx.bad = x.rx.bad ∧ y.rx.consecBad = 0 ∧
        y.rx.lastFailure = x.rx.lastFailure ∧ y.signal = x.signal ∧
        (x.rx.status = .quiet → y.rx.status = .quiet ∧ y.rx.held = x.rx.held ∧
          y.rx.candidate = x.rx.candidate ∧ y.correction = x.correction) ∧
        (x.rx.status ≠ .quiet →
          y.correction = (inverted != x.correction) ∧
          y.rx.polInverted = (if inverted then !x.correction else x.rx.polInverted) ∧
          (∀ k, x.rx.held = some k → k.id = m.id → y.rx.held = some ⟨m.id, k.firstHeard, m.heard, stamp⟩ ∧
            y.rx.candidate = none ∧ y.rx.repeats = 0 ∧
            y.rx.status = (if m.echo = some (s.ownId p i) then .confirmed else .marked)) ∧
          ((∀ k, x.rx.held = some k → k.id ≠ m.id) → x.rx.candidate = some m.id →
            y.rx.held = some ⟨m.id, s.uptime, m.heard, stamp⟩ ∧ y.rx.candidate = none ∧ y.rx.repeats = 0 ∧
            y.rx.status = (if m.echo = some (s.ownId p i) then .confirmed else .marked)) ∧
          ((∀ k, x.rx.held = some k → k.id ≠ m.id) → x.rx.candidate ≠ some m.id →
            y.rx.held = x.rx.held ∧ y.rx.candidate = some m.id ∧ y.rx.repeats = 1 ∧
              y.rx.status = x.rx.status))) ∧
    ∀ event f,
      ((event = .syncMissing p i ∧ f = .sync) ∨
        ∃ block stamp inverted b, event = .markArrived p i block stamp ∧
          frameBlock (x.received block) = some (inverted, b) ∧ readMark b = .error f) →
      ∃ (t : State) (y : LaneUnit), exec event s = .next t ∧ y = (t.port p).lane i ∧
        y.rx.bad = min 255 (x.rx.bad + 1) ∧ y.rx.good = x.rx.good ∧ y.rx.consecBad = min 8 (x.rx.consecBad + 1) ∧
        y.rx.lastFailure = some f ∧ y.correction = x.correction ∧ y.rx.polInverted = x.rx.polInverted ∧
        (x.rx.status ≠ .quiet → y.rx.candidate = none ∧ y.rx.repeats = 0 ∧
          (x.rx.held.isSome = true → 7 ≤ x.rx.consecBad → y.rx.held = none ∧ y.rx.status = .signal) ∧
          ((x.rx.held = none ∨ x.rx.consecBad < 7) → y.rx.held = x.rx.held ∧ y.rx.status = x.rx.status))

/-- R37, R38, R26: on an ASSIGNED port an arrival or a signal event hands the lane change event of what it changed
to the link of the lane's half, and then, within the same event, its stamp report or its bad mark report; an
event that changes none of the items of R37 hands on no lane change event; the far-end change flag is set when
one held identity replaces another. That the reports follow the lane change event is log entry 8 (DESIGN
CHOICE). -/
def Obligations.LaneEventsReachLinks : Prop :=
  (∀ a b : RxRecord,
    ((changedItems a b).any = false ↔ a.status = b.status ∧
      (a.held.map fun k => (k.id, k.heard)) = (b.held.map fun k => (k.id, k.heard))) ∧
    ((changedItems a b).phase = true ↔
      (a.held.map fun k => k.heard.phase) ≠ (b.held.map fun k => k.heard.phase)) ∧
    ((changedItems a b).verdictChange = true ↔ a.status ≠ b.status ∨
      (a.held.map fun k => (k.id, k.heard.tag, k.heard.usable)) ≠
        (b.held.map fun k => (k.id, k.heard.tag, k.heard.usable))) ∧
    ((changedItems a b).runsProtocol = true ↔ a.status ≠ b.status ∨
      (a.held.map fun k => (k.id, k.heard.usable, k.heard.accept)) ≠
        (b.held.map fun k => (k.id, k.heard.usable, k.heard.accept)) ∨
      (a.held.bind fun k => k.heard.proposal) ≠ (b.held.bind fun k => k.heard.proposal)) ∧
    ∀ id, farChange a b = some id ↔ ∃ x y, a.held = some x ∧ b.held = some y ∧ x.id ≠ y.id ∧ id = y.id.id) ∧
  ∀ (p : Port) (i : Lane) (s : State) (x : LaneUnit) (h : Half), x = (s.port p).lane i →
    h = (s.port p).laneHalf i → s.processed p i = true → (s.port p).state = .assigned →
    (∀ block stamp inverted b m, frameBlock (x.received block) = some (inverted, b) → readMark b = .ok m →
      ∃ (v u w : State) (y : LaneUnit) (new : RxRecord),
        exec (.markArrived p i block stamp) s = .next (s.after w) ∧
        new = x.rx.valid m (s.ownId p i) s.uptime stamp ∧
        y = (if inverted = true ∧ x.rx.status ≠ .quiet then
          { x with rx := { new with polInverted := !x.correction }, correction := !x.correction }
        else { x with rx := new }) ∧
        v = ((s.modPort p fun q => { q with stampCounter := stamp }).modLane p i fun _ => y).event ∧
        u = (if (changedItems x.rx y.rx).any then
          v.linkEvent p h (relLane h i) (changedItems x.rx y.rx) (farChange x.rx y.rx) else v) ∧
        w = (if y.rx.status ≠ .quiet ∧ (y.rx.held.map fun k => k.id) = some m.id then
          u.stampEvent p h (relLane h i) stamp.toNat else u)) ∧
    (∀ event f v, ((event = .syncMissing p i ∧ f = .sync ∧ v = s) ∨
        ∃ block stamp inverted b, event = .markArrived p i block stamp ∧
          frameBlock (x.received block) = some (inverted, b) ∧ readMark b = .error f ∧
          v = s.modPort p fun q => { q with stampCounter := stamp }) →
      ∃ (u : State) (y : RxRecord), y = x.rx.invalid f ∧
        u = (if (changedItems x.rx y).any then
          (v.modLane p i fun _ => { x with rx := y }).linkEvent p h (relLane h i) (changedItems x.rx y) none
          else v.modLane p i fun _ => { x with rx := y }) ∧
        exec event s = .next (if x.rx.status = .quiet then u else u.badMarkEvent p h (relLane h i))) ∧
    (x.rx.status = .quiet → exec (.signalGained p i) s =
      .next ((s.modLane p i fun _ => { x with signal := true, rx := { x.rx with status := .signal } }).linkEvent p h
        (relLane h i) ⟨true, false, false, false, false, false, false, false⟩ none)) ∧
    (x.rx.status ≠ .quiet → ∃ y : RxRecord, y = { x.rx with
        status := .quiet, held := none, candidate := none, repeats := 0, consecBad := 0 } ∧
      exec (.signalLost p i) s =
        .next ((s.modLane p i fun _ => { x with signal := false, rx := y }).linkEvent p h (relLane h i)
          (changedItems x.rx y) none))

/-! ### Supervision -/

/-- R126, R127: a judged interval of an UP link raises the score by 8 when an active lane reports violations and
lowers it by 1 otherwise, adds the counts, sets the level by the warning limit and posts HEALTH on a rise or on
the return to GOOD; the interval in progress at the entry to UP is not judged (the flag of log entry 5). -/
def Obligations.IntervalMovesScore : Prop :=
  ∀ (p : Port) (h : Half) (counts : Vector Nat 8) (s : State) (l k : Link) (old new : HealthLevel) (score : Nat),
    s.link p h = some l → l.state = .up → l.sup.level = some old →
    (l.sup.judging = false → k = { l with sup := { l.sup with judging := true } } →
      ∃ t, exec (.violations p counts) s = .next t ∧ t.link p h = some k ∧
        ((∀ h' l', h' ≠ h → s.link p h' = some l' → l'.state ≠ .up) → t = s.setLink p h (some k))) ∧
    (l.sup.judging = true →
      score = (if ∃ r ∈ LaneSet.members (groupLanes l.agree.active), 0 < counts[physLane h r] then l.sup.score + 8
        else l.sup.score - 1) →
      score < 255 →
      new = (if score < s.timing.warning then .good else if score ≤ 127 then .warned else .degraded) →
      k = { l with sup := { l.sup with
        score := score, level := some new
        violations := min 4294967295 (l.sup.violations +
          ((LaneSet.members (groupLanes l.agree.active)).map fun r => counts[physLane h r]).sum) } } →
      ∃ t, exec (.violations p counts) s = .next t ∧ t.link p h = some k ∧
        ((∀ h' l', h' ≠ h → s.link p h' = some l' → l'.state ≠ .up) →
          t = if old.rank < new.rank ∨ (new = .good ∧ old ≠ .good) then
              (s.setLink p h (some k)).postLink p h (.health old new score)
            else s.setLink p h (some k)))

/-- R133, R135: an UP link whose score reaches 255 by a dirty interval or a lock loss goes down with reason HEALTH
and enters ISOLATED with cause HEALTH and score 127, its snapshot recording the score 255; where the other half's
link is not UP it alone is acted on, with its history entry, its notices and the releases of R72. -/
def Obligations.HealthIsolatesLink : Prop :=
  ∀ (p : Port) (h : Half) (i : Instr) (s : State) (l : Link), s.link p h = some l → l.state = .up →
    ((∃ counts, i = .violations p counts ∧ l.sup.judging = true ∧ 247 ≤ l.sup.score ∧
        ∃ r ∈ LaneSet.members (groupLanes l.agree.active), 0 < counts[physLane h r]) ∨
      ∃ lane, i = .lockLost p lane ∧ s.processed p lane = true ∧ (s.port p).laneHalf lane = h ∧
        LaneSet.has (groupLanes l.agree.active) (relLane h lane) = true ∧ 223 ≤ l.sup.score) →
    ∃ (t : State) (k : Link), exec i s = .next t ∧ t.link p h = some k ∧
      k.state = .isolated ∧ k.sup.isoCause = some .health ∧ k.sup.score = 127 ∧ k.sup.level = none ∧
      k.sup.probeTimer = some ⟨s.uptime, 10⟩ ∧ k.agree.active = none ∧ k.marks = {} ∧
      k.sup.probeSet = groupLanes l.agree.active ||| (s.port p).usable h l ∧
      (∃ loss, (t.pos p h).snap =
        (s.pos p h).snap.attempt { s.upRecord p h l .health 255 l.far with noticeLoss := loss }) ∧
      (∀ lane, (s.port p).ofHalf h lane = true →
        ((t.port p).lane lane).active = false ∧ ((t.port p).lane lane).delay = 0) ∧
      ((∀ h' l', h' ≠ h → s.link p h' = some l' → l'.state ≠ .up) →
        t.queue = ((s.postLink p h (.linkDown .health .up (groupWidth l.agree.active))).postLink p h
          (.isolated .health 127)).queue ∧
        s.ActsAt t p h [s.moved h (some .up) (some .isolated) .health]
          (some (s.upRecord p h l .health 255 l.far)))

/-- R128, R82, R142: a lock lost report raises the counter in every state and does no more to a link that is
not UP; on an UP link that it does not isolate it marks the lane and, for an active lane, raises the score by
32, and the link stays UP or, when narrow, is taken to CHECKING. -/
def Obligations.LockLossMarksLane : Prop :=
  ∀ (p : Port) (i : Lane) (s : State) (h : Half) (l : Link), s.processed p i = true →
    h = (s.port p).laneHalf i → s.link p h = some l →
    (l.state ≠ .up → exec (.lockLost p i) s =
      .next (s.setLink p h (some { l with sup := { l.sup with lockLosses := min 65535 (l.sup.lockLosses + 1) } }))) ∧
    (l.state = .up → (LaneSet.has (groupLanes l.agree.active) (relLane h i) = true → l.sup.score < 223) →
      ∃ (t : State) (k : Link), exec (.lockLost p i) s = .next t ∧ t.link p h = some k ∧
        k.sup.lockLosses = min 65535 (l.sup.lockLosses + 1) ∧
        k.sup.score = (if LaneSet.has (groupLanes l.agree.active) (relLane h i) then l.sup.score + 32
          else l.sup.score) ∧
        ((k.state = .up ∧ LaneSet.has k.marks.lockLost (relLane h i) = true ∧ s.ActsAt t p h [] none) ∨
          (k.state = .checking ∧ k.marks = {} ∧ k.checkEntry = some s.uptime ∧
            ∃ r : SnapRecord, r.left = some .up ∧ (r.reason = .laneLoss ∨ r.reason = .skewDrift) ∧
              r.score = k.sup.score ∧
              s.ActsAt t p h [s.moved h (some .up) (some .checking) r.reason] (some r))))

/-- R77, R136, R137, R67, R68: a probe is clean when every probe lane is CONFIRMED with the far identity, no bad mark
came and no held identity of a probe lane changed since the last one; a clean one lowers the score; at 0 the verdict
runs: a failure blocks the link, and a pass posts VERDICT and RECOVERED. A pass at a position that holds a residue is
taken into ISOLATED by R67 and recovers nothing: log entry 10 (DEDUCED). An expiry at a link that is not ISOLATED
changes nothing: log entry 3 (DESIGN CHOICE). That the change of a held identity makes one probe unclean, whatever
far identity the link holds, and later ones go by the lanes, is log entry 33 (DEDUCED). -/
def Obligations.ProbeLowersScore : Prop :=
  ∀ (p : Port) (h : Half) (s : State) (l : Link) (clean : Bool) (o : Obs), s.link p h = some l →
    (l.state ≠ .isolated → exec (.probeTimerExpiry p h) s = .next s) ∧
    (l.state = .isolated → l.sup.probeTimer.isSome = true → o = (s.port p).observe h →
      (clean = true ↔ l.sup.probeDirty = false ∧ l.sup.probeChange = false ∧
        ∀ r ∈ LaneSet.members l.sup.probeSet, ((s.port p).rel h r).confirmedWith l.far = true) →
      ((clean = false ∨ 2 ≤ l.sup.score) → exec (.probeTimerExpiry p h) s =
        .next (s.setLink p h (some { l with sup := { l.sup with
          score := if clean then l.sup.score - 1 else l.sup.score
          probesMade := min 65535 (l.sup.probesMade + 1)
          probesClean := if clean then min 65535 (l.sup.probesClean + 1) else l.sup.probesClean
          probeDirty := false, probeChange := false, probeTimer := some ⟨s.uptime, 10⟩ } }))) ∧
      (clean = true → l.sup.score = 1 → ∃ (t : State) (k : Link),
        exec (.probeTimerExpiry p h) s = .next t ∧ t.link p h = some k ∧
        s.Judged t p h { l with sup := { l.sup with score := 0 } } recoveryReason ∧
        (k.state ≠ .isolated → k.sup.isoCause = none ∧ k.sup.probeTimer = none) ∧
        t.queue =
          (if s.checks p h o none = none ∧ (s.pos p h).residue = none then
            (s.verdictNotices p h).postLink p h (.recovered o.far)
          else s.verdictNotices p h).queue))

/-! ### Verdicts and what moves a link -/

/-- R63 to R66, R51: what a verdict observes in the lane records of the link's span, each marked lane holding an
identity; and that it has the reason of the first check of the table that fails, and passes when none does. -/
def Obligations.VerdictTakesFirstFailedCheck : Prop :=
  ∀ (s : State) (p : Port) (h : Half) (upWidth : Option Nat) (o : Obs) (q : PortUnit) (d : Descriptor),
    q = s.port p → q.desc = some d → o = q.observe h →
    ((∀ r, LaneSet.has o.marked r = true ↔ r < 8 ∧ r < q.span h ∧
        ((q.rel h r).rx.status = .marked ∨ (q.rel h r).rx.status = .confirmed)) ∧
      (∀ r, LaneSet.has o.confirmed r = true ↔ r < 8 ∧ r < q.span h ∧ (q.rel h r).rx.status = .confirmed) ∧
      (∀ r, LaneSet.has o.polarity r = true ↔ LaneSet.has o.marked r = true ∧ (q.rel h r).rx.polInverted = true) ∧
      (∀ x, x < 8 → (LaneSet.has o.farUsable x = true ↔ o.confirmed ≠ 0 ∧
        ∀ r, LaneSet.has o.confirmed r = true → ∃ k, (q.rel h r).heard = some k ∧ LaneSet.has k.usable x = true)) ∧
      o.usable = o.map.map (fun m => o.confirmed &&& m.set (q.span h) o.farUsable) ∧
      o.width = o.usable.map (fun S => groupWidth (select (q.span h) S)) ∧
      ((∀ r, LaneSet.has o.marked r = true → (q.rel h r).rx.held.isSome = true) →
        (∀ f, o.far = some f ↔ o.marked ≠ 0 ∧ ∀ r, LaneSet.has o.marked r = true → (q.rel h r).heldFar = some f) ∧
        (∀ n, o.span = some n ↔ o.marked ≠ 0 ∧
          ∀ r, LaneSet.has o.marked r = true → ((q.rel h r).rx.held.map fun k => k.id.span) = some n) ∧
        (o.map = some .straight ↔ o.far.isSome = true ∧ o.span = some (q.span h) ∧
          ∀ r, LaneSet.has o.marked r = true → ((q.rel h r).rx.held.map fun k => k.id.relLane) = some r) ∧
        (o.map = some .reversed ↔ o.far.isSome = true ∧ o.span = some (q.span h) ∧ o.map ≠ some .straight ∧
          ∀ r, LaneSet.has o.marked r = true →
            ((q.rel h r).rx.held.map fun k => k.id.relLane + r + 1) = some (q.span h)))) ∧
    ∀ rows : List (Reason × Prop), rows =
      [(.formMismatch, ∃ e, q.plan = some e ∧ e.form ≠ d.form),
       (.dark, q.markedSet h = 0),
       (.crossed, o.far = none),
       (.scrambled, o.span ≠ some (q.span h) ∨ o.map = none),
       (.noPlan, q.plan = none),
       (.wrongPeer, ∀ e f, q.expectation h = some e → o.far = some f → e.satisfied f = false),
       (.reversed, ∃ e, q.expectation h = some e ∧ o.map = some .reversed ∧ e.reversal = false),
       (.staleTag, ∃ (r : Nat) (k : Heard), LaneSet.has (q.markedSet h) r = true ∧ (q.rel h r).heard = some k ∧
          k.tag ≠ s.planTag),
       (.oneWay, q.confirmedSet h none = 0),
       (.duplicatePeer, ∃ p' h' l f, ¬ (p' = p ∧ h' = h) ∧ s.link p' h' = some l ∧
          (l.state = .verified ∨ l.state = .training ∨ l.state = .up) ∧ o.far = some f ∧ l.far = some f),
       (.tooNarrow, ∃ e, q.expectation h = some e ∧ upWidth.getD (o.width.getD 0) < e.minWidth)] →
    (∀ r, s.checks p h o upWidth = some r ↔ ∃ (k : Nat) (c : Prop), rows[k]? = some (r, c) ∧ c ∧
      ∀ (j : Nat) (r' : Reason) (c' : Prop), j < k → rows[j]? = some (r', c') → ¬ c') ∧
    (s.checks p h o upWidth = none ↔ ∀ x ∈ rows, ¬ x.2)

/-- R74, R67, R68, R69: the verdict that ends CHECKING, at either timer: a failure blocks the link with its reason
and clears the grant; a pass takes the observations and the role and moves the link to VERIFIED, and on into
TRAINING if the start test is met, or takes the residue into ISOLATED; each posts VERDICT. An expiry of a
stopped timer changes nothing: log entry 3 (DESIGN CHOICE). -/
def Obligations.CheckingEndsWithVerdict : Prop :=
  ∀ (p : Port) (h : Half) (i : Instr) (s : State) (l : Link), s.link p h = some l →
    (i = .checkQuietExpiry p h ∨ i = .checkBoundExpiry p h) →
    (l.checkEntry = none → l.quiet = none → exec i s = .next s) ∧
    (l.state = .checking → l.quiet.isSome = true → l.checkEntry.isSome = true →
      ∃ (t : State) (k : Link), exec i s = .next t ∧ t.link p h = some k ∧ k.quiet = none ∧ k.checkEntry = none ∧
        s.Judged t p h l id ∧ t.queue = (s.verdictNotices p h).queue)

/-- R69, R72 to R77, R109, R118, R120, R130, R131, R138: a lane change event at a link: it restarts the quiet timer
of a CHECKING link within 500 ms, takes a VERIFIED link to CHECKING on a verdict change or a far-end change, starts
its training on a change of phase, takes a BLOCKED link to CHECKING unless TRAIN_FAILED, and leaves an ISOLATED one,
whose next probe a far-end change on a probe lane makes unclean (a lane outside the probe set does not: log entry 33,
DEDUCED). A far-end change takes a live link down to CHECKING; a far end that has left takes it down to VERIFIED;
else a lane leaves the DESKEW collection, and in ALIGN and UP the protocol runs. Each change of state has its history
entry, its snapshot and its releases. That the test of the far phase comes before the protocol, so that a TRAINING
link whose far end fell back goes to VERIFIED whatever else changed, is the model's choice: log entry 9 (DEDUCED). -/
def Obligations.LaneChangesMoveLinks : Prop :=
  ∀ (p : Port) (h : Half) (r : Nat) (items : LaneItems) (newId : Option LaneId) (s t : State) (l : Link),
    s.link p h = some l → t = s.linkEvent p h r items newId →
    (∀ e, l.state = .checking → l.checkEntry = some e → t = s.setLink p h (some (
      if (s.uptime - e).toNat < 500 then { l with quiet := some ⟨s.uptime, 20⟩ } else l))) ∧
    (l.state = .verified → (newId.isSome = true ∨ items.verdictChange = true) →
      t.link p h = some { l with
        state := .checking, checkEntry := some s.uptime, quiet := some ⟨s.uptime, 20⟩ } ∧
      s.ActsAt t p h [s.moved h (some .verified) (some .checking)
        (if newId.isSome then .farEndChange else .laneChange)] none) ∧
    (l.state = .verified → newId = none → items.verdictChange = false → items.phase = false → t = s) ∧
    (l.state = .verified → newId = none → items.verdictChange = false → items.phase = true →
      (¬ ((s.port p).permitted h l = true ∧ (s.port p).farReady h l = true) → t = s) ∧
      ((s.port p).permitted h l = true → (s.port p).farReady h l = true → ∃ k, t.link p h = some k ∧
        k.state = .training ∧ k.training.stage = some .equalize ∧
        s.ActsAt t p h [s.moved h (some .verified) (some .training) .start] none)) ∧
    (l.state = .blocked → l.reason ≠ some .trainFailed →
      t.link p h = some { l with
        state := .checking, reason := none, checkEntry := some s.uptime, quiet := some ⟨s.uptime, 20⟩ } ∧
      s.ActsAt t p h [s.moved h (some .blocked) (some .checking) .laneChange] none) ∧
    (l.state = .blocked → l.reason = some .trainFailed → t = s) ∧
    (l.state = .isolated → (newId = none ∨ LaneSet.has l.sup.probeSet r = false) → t = s) ∧
    (l.state = .isolated → newId.isSome = true → LaneSet.has l.sup.probeSet r = true →
      t = s.setLink p h (some { l with sup := { l.sup with probeChange := true } })) ∧
    (∀ id, l.live = true → newId = some id →
      (∃ k, t.link p h = some k ∧ k.state = .checking ∧ k.checkEntry = some s.uptime ∧
        k.quiet = some ⟨s.uptime, 20⟩ ∧ l.Stopped k s.uptime) ∧
      (l.state = .up → t.Released p h (s.port p)) ∧
      t.queue = ((s.postLink p h (.linkDown .farEndChange l.state
          (if l.state = .up then groupWidth l.agree.active else 0))).postLink p h (.farEndChange l.far id)).queue ∧
      s.ActsAt t p h [s.moved h (some l.state) (some .checking) .farEndChange]
        (if l.state = .up then some (s.upRecord p h l .farEndChange l.sup.score l.far) else none)) ∧
    (l.state = .training → newId = none → items.phase = true → (s.port p).farFellBack h l = true →
      (∃ k, t.link p h = some k ∧ k.state = .verified ∧ l.Stopped k s.uptime) ∧
      t.queue = (s.postLink p h (.linkDown .farEndLeft .training 0)).queue ∧
      s.ActsAt t p h [s.moved h (some .training) (some .verified) .farEndLeft] none) ∧
    (l.state = .training → newId = none → (items.phase = false ∨ (s.port p).farFellBack h l = false) →
      (l.training.stage = some .equalize → t = s) ∧
      (∀ c, l.training.stage = some .deskew → c = l.training.deskew.restrict ((s.port p).usable h l) →
        t = if c.complete then
            (s.setLink p h (some (l.deskewed ((s.port p).span h) (alignment c.stamped)))).alignRun restartByTest p h
          else s.setLink p h (some { l with training := { l.training with deskew := c } })) ∧
      (l.training.stage = some .align →
        t = if items.runsProtocol then s.alignRun restartByTest p h
          else if items.phase then s.alignTest p h else s)) ∧
    (l.state = .up → newId = none → items.phase = true → (s.port p).farLeft h l = true →
      (∃ k, t.link p h = some k ∧
        (if (s.port p).permitted h l = true ∧ (s.port p).farReady h l = true then
          k.state = .training ∧ k.training.stage = some .equalize ∧ k.agree.active = none
        else k.state = .verified ∧ l.Stopped k s.uptime) ∧
        s.ActsAt t p h (s.moved h (some .up) (some .verified) .farEndLeft ::
            (if k.state = .training then [s.moved h (some .verified) (some .training) .start] else []))
          (some (s.upRecord p h l .farEndLeft l.sup.score l.far))) ∧
      t.Released p h (s.port p) ∧
      t.queue = (s.postLink p h (.linkDown .farEndLeft .up (groupWidth l.agree.active))).queue) ∧
    (l.state = .up → newId = none → (items.phase = false ∨ (s.port p).farLeft h l = false) →
      t = if items.runsProtocol then s.upProtocol p h else s)

/-! ### Training and the timers of a live link -/

/-- R119: the training timer ends the attempt as a counted failure: below the maximum the link returns to
VERIFIED, and trains again at once if it may; at the maximum it is BLOCKED with TRAIN_FAILED and loses its
grant; TRAIN_RETRY is posted either way. An expiry at a link that is not TRAINING changes nothing: log entry 3
(DESIGN CHOICE). -/
def Obligations.TrainingTimeoutIsCounted : Prop :=
  ∀ (p : Port) (h : Half) (s : State) (l : Link), s.link p h = some l →
    (l.state ≠ .training → exec (.trainingTimerExpiry p h) s = .next s) ∧
    (l.state = .training → l.training.timer.isSome = true → ∃ t : State,
      exec (.trainingTimerExpiry p h) s = .next t ∧ s.Fails t p h l .timeout)

/-- R112 to R115: a retained dwell that fails, and a list dwell before the last, are followed by the next list dwell,
the latter with the grades of the usable attempt lanes recorded; a retained dwell that succeeds ends EQUALIZE with
the grades read, and DESKEW begins over the attempt lanes. The last list dwell gives each attempt lane its highest
grade with the preset tried first of those that gave it, or no grade and the first preset, marks every lane of the
span weak whose grade is absent or below the minimum, and begins DESKEW over the usable set, or, where that is empty,
ends the attempt at once as a counted failure in ALIGN. That the minimum grade is read then, and a lane outside the
attempt weak, is log entries 29 and 11 (DEDUCED). -/
def Obligations.DwellsRunThroughList : Prop :=
  ∀ (p : Port) (h : Half) (s : State) (l : Link), s.link p h = some l → l.state = .training →
    (l.training.dwell = some .retained → (s.port p).retainedSucceeds h l = false → ∃ (t : State) (k : Link),
      exec (.retainedDwellEnd p h) s = .next t ∧ t.link p h = some k ∧
      k = { l with training := { l.training with dwell := some (.list 1), dwellTimer := some ⟨s.uptime, 2⟩ } } ∧
      (∀ i, (s.port p).ofHalf h i = true → ((t.port p).lane i).best = none ∧
        ((t.port p).lane i).preset = if LaneSet.has l.training.attemptLanes (relLane h i) then
          presetAt l.training.presets 1 else ((s.port p).lane i).preset) ∧ s.ActsAt t p h [] none) ∧
    (l.training.dwell = some .retained → (s.port p).retainedSucceeds h l = true → l.training.attemptLanes ≠ 0 →
      ∃ (t : State) (k : Link), exec (.retainedDwellEnd p h) s = .next t ∧ t.link p h = some k ∧
      k.state = .training ∧ k.training.stage = some .deskew ∧ k.training.dwell = none ∧
      LaneSet.within l.training.attemptLanes k.training.deskew.lanes = true ∧
      (∀ i, (s.port p).ofHalf h i = true → LaneSet.has l.training.attemptLanes (relLane h i) = true →
        ((t.port p).lane i).best = ((s.port p).lane i).heard.map (fun x => x.grade) ∧
        ((t.port p).lane i).preset = ((s.port p).lane i).preset) ∧ s.ActsAt t p h [] none) ∧
    (∀ n, l.training.dwell = some (.list n) → n < l.training.presets.length → ∃ (t : State) (k : Link),
      exec (.listDwellEnd p h) s = .next t ∧ t.link p h = some k ∧ k.state = .training ∧
      k.training.dwell = some (.list (n + 1)) ∧ k.training.dwellTimer = some ⟨s.uptime, 2⟩ ∧
      k.training.grades = (s.port p).recordGrades h l n ∧
      (∀ i, (s.port p).ofHalf h i = true → ((t.port p).lane i).preset =
        if LaneSet.has l.training.attemptLanes (relLane h i) then presetAt l.training.presets (n + 1)
        else ((s.port p).lane i).preset) ∧ s.ActsAt t p h [] none) ∧
    (∀ (n : Nat) (r : Fin 8) (k : Fin 4), 1 ≤ n → n ≤ 4 → (laneAt ((s.port p).recordGrades h l n) r)[k] =
      if k.val + 1 = n ∧ LaneSet.has l.training.attemptLanes r = true ∧
          LaneSet.has ((s.port p).usable h l) r = true ∧ ((s.port p).rel h r).heard.isSome = true then
        ((s.port p).rel h r).heard.map fun x => x.grade
      else (laneAt l.training.grades r)[k]) ∧
    (∀ (n : Nat) (weak : LaneSet), l.training.dwell = some (.list n) → l.training.presets.length ≤ n →
      l.training.presets.length ≤ 4 → ∃ (t : State) (k : Link) (after : Link) (best : Lane → Option (Nat × Nat)),
      exec (.listDwellEnd p h) s = .next t ∧ t.link p h = some k ∧ s.OthersKept t p h ∧
      (∀ i g, best i = some g ↔ ∃ (j : Nat) (hj : j < 4), l.training.presets[j]? = some g.2 ∧
        (laneAt ((s.port p).recordGrades h l n) (relLane h i))[j] = some g.1 ∧
        ∀ (j' : Nat) (hj' : j' < 4), j' < l.training.presets.length →
          ∀ g', (laneAt ((s.port p).recordGrades h l n) (relLane h i))[j'] = some g' →
            g' < g.1 ∨ (g' = g.1 ∧ j ≤ j')) ∧
      after = { l with marks := { l.marks with weak := weak } } ∧
      ((∀ i, (s.port p).ofHalf h i = true → (LaneSet.has weak (relLane h i) = true ↔
          ∀ g, (if LaneSet.has l.training.attemptLanes (relLane h i) then (best i).map (fun g => g.1)
            else ((s.port p).lane i).best) = some g → g < (s.port p).minGrade h)) →
        (∀ r, (∀ i, (s.port p).ofHalf h i = true → relLane h i ≠ r) → LaneSet.has weak r = false) →
        ((s.port p).usable h after ≠ 0 →
          k.state = .training ∧ k.training.stage = some .deskew ∧ k.training.dwell = none ∧ k.marks = after.marks ∧
          k.training.deskew = { lanes := (s.port p).usable h after } ∧ s.ActsAt t p h [] none ∧
          ∀ i, (s.port p).ofHalf h i = true →
            ((t.port p).lane i).best = (if LaneSet.has l.training.attemptLanes (relLane h i) then
              (best i).map (fun g => g.1) else ((s.port p).lane i).best) ∧
            ((t.port p).lane i).preset = (if LaneSet.has l.training.attemptLanes (relLane h i) then
              (match best i with
               | some g => g.2
               | none => presetAt l.training.presets 1) else ((s.port p).lane i).preset)) ∧
        ((s.port p).usable h after = 0 →
          s.Fails t p h { l with training := { l.training with stage := some .align } } .tooNarrow)))

/-- R85 to R89, R116, R117, R119, R122: a run of the protocol at a link in ALIGN: a narrow candidate set ends the
attempt as a counted failure; else the role's steps set proposal, accept and group, and a link that has adopted,
a JUNIOR one once its reference lane hears LINK, enters UP with LINK_UP and its context stored. The test for the
entry alone does no more. That a narrow set is tested before a JUNIOR adopts is log entry 9 (DESIGN CHOICE). -/
def Obligations.AlignReachesUp : Prop :=
  ∀ (p : Port) (h : Half) (s t : State) (l : Link), s.link p h = some l → l.state = .training →
    l.training.stage = some .align → l.agree.role ≠ none →
    (t = s.alignRun restartByTest p h →
      ((∀ g, ¬ (s.port p).Selects h l g) → s.Fails t p h l .tooNarrow) ∧
      ∀ g, (s.port p).Selects h l g → ∃ k, (s.port p).Agrees h l g k ∧ s.Aligns t p h k) ∧
    (t = s.alignTest p h → s.Aligns t p h l)

/-- R85 to R92, R100, R129: a run of the protocol at an UP link: a narrow candidate set takes the link down; else the
role's steps set proposal, accept and group, the group inside the one held; another group than the one held is
applied at once with its delays, its lost lanes added to the shed set, and WIDTH_CHANGE posted; and the regroup timer
runs exactly while a regroup is pending. The run that a lane change event asks for is followed, within the event, by
the end of the recheck that it may have completed. That a narrow set is tested before a JUNIOR adopts is log entry 9
(DESIGN CHOICE). That a regroup is pending by the condition of the role alone, whatever a SENIOR or SELF end hears
withdrawn, is log entry 34 (DEDUCED). -/
def Obligations.UpGroupIsRegrouped : Prop :=
  (∀ (q : PortUnit) (h : Half) (l : Link),
    (l.agree.role = some .junior → (q.regroupPending h l = true ↔
      l.agree.accept = false ∨ q.farAccept h l = false ∨ q.farProposal h l ≠ l.agree.active)) ∧
    (l.agree.role = some .senior ∨ l.agree.role = some .self → (q.regroupPending h l = true ↔
      l.agree.proposal = none ∨ l.agree.proposal ≠ l.agree.active))) ∧
  (∀ (p : Port) (h : Half) (s : State),
    s.upProtocol p h = s.after ((s.event.upRun p h .laneLoss).recheckTest p h)) ∧
  ∀ (p : Port) (h : Half) (s t : State) (l : Link) (a : Group) (reason : Reason), s.link p h = some l →
    l.state = .up → l.agree.role ≠ none → l.agree.active = some a →
    (t = s.upRun p h reason ∨
      (reason = .laneLoss ∧ l.align.recheckState = .idle ∧ t = s.upProtocol p h)) →
    ((∀ g, ¬ (s.port p).Selects h l g) → s.GoesDown t p h l reason) ∧
    ∀ g, (s.port p).Selects h l g → ∃ k k' b, (s.port p).Agrees h l g k ∧ t.link p h = some k' ∧
      k' = { k with
        agree := { k.agree with
          shed := k'.agree.shed, regroupStart := k'.agree.regroupStart, regroupTimer := k'.agree.regroupTimer }
        align := { k.align with recheck := k'.align.recheck } } ∧
      s.RegroupOf p h l k k' ∧ s.ActsAt t p h [] none ∧ k.agree.active = some b ∧
      (∀ r, LaneSet.has b.lanes r = true → LaneSet.has a.lanes r = true) ∧
      (b = a → k'.agree.shed = l.agree.shed ∧ k'.align.recheck = l.align.recheck ∧ t.queue = s.queue ∧
        (t.port p).lanes = (s.port p).lanes) ∧
      (b ≠ a → k'.agree.shed = l.agree.shed ||| (a.lanes &&& ~~~ b.lanes) ∧
        k'.align.recheck = l.align.recheck.restrict b.lanes ∧
        (∀ i, (s.port p).ofHalf h i = true →
          ((t.port p).lane i).active = LaneSet.has b.lanes (relLane h i) ∧
          ((t.port p).lane i).delay = deskewDelay l.align.skew b.lanes (relLane h i)) ∧
        t.queue = (s.postLink p h (.widthChange b k'.agree.shed)).queue)

/-- R95, R99, R103 to R105, R115: a stamp report at a link in DESKEW, or UP with a recheck in flight, gives its lane
its stamp once; the last one, or the loss of the last lane without one, ends the collection. DESKEW then takes skews,
window lane and spread, marks as skew-rejected the rejected lanes and every lane of the span that is neither weak nor
has a skew, and begins ALIGN with a run of the protocol. A recheck that rejects no lane is KEPT and sets the delays;
one that does is SHED, marks its lanes and runs the protocol once for all of them (log entry 9, DESIGN CHOICE). -/
def Obligations.StampsEndCollections : Prop :=
  (∀ (c : Collection) (r v : Nat), r < 8 → (c.take r v).lanes = c.lanes ∧
    ∀ i : Fin 8, (c.take r v).stamps[i] =
      if i.val = r ∧ LaneSet.has c.lanes r = true ∧ c.stamps[i] = none then some v else c.stamps[i]) ∧
  (∀ (c : Collection) (S : LaneSet), (c.restrict S).lanes = c.lanes &&& S ∧
    ∀ i : Fin 8, (c.restrict S).stamps[i] =
      if LaneSet.has c.lanes i = true ∧ LaneSet.has S i = true then c.stamps[i] else none) ∧
  (∀ (l : Link) (n : Nat) (r : AlignResult), ∃ d : LaneSet,
    l.deskewed n r = { l with
      align := { l.align with skew := r.skew, windowLane := r.windowLane, spread := r.spread }
      marks := { l.marks with rejDeskew := d }
      training := { l.training with stage := some .align, deskew := {} } } ∧
    ∀ i : Fin 8, LaneSet.has d i = true ↔ LaneSet.has r.rejected i = true ∨
      (i.val < n ∧ LaneSet.has l.marks.weak i = false ∧ r.skew[i] = none)) ∧
  ∀ (p : Port) (h : Half) (r v : Nat) (s t : State) (l : Link), s.link p h = some l →
    t = s.stampEvent p h r v →
    (∀ c, l.state = .training → l.training.stage = some .deskew → c = l.training.deskew.take r v →
      t = if c.complete then
          (s.setLink p h (some (l.deskewed ((s.port p).span h) (alignment c.stamped)))).alignRun restartByTest p h
        else s.setLink p h (some { l with training := { l.training with deskew := c } })) ∧
    (∀ c x k t, l.state = .up → l.align.recheckState = .collecting →
      ((t = s.stampEvent p h r v ∧ c = l.align.recheck.take r v) ∨ (t = s.recheckTest p h ∧ c = l.align.recheck)) →
      x = alignment c.stamped →
      k = { l with
        align := { l.align with
          skew := x.skew, windowLane := x.windowLane, spread := x.spread, recheckState := .idle, recheck := {}
          lastOutcome := if x.rejected = 0 then .kept else .shed, lastTime := some s.uptime }
        marks := { l.marks with rejRecheck := l.marks.rejRecheck ||| x.rejected } } →
      (c.complete = false → t = s.setLink p h (some { l with align := { l.align with recheck := c } })) ∧
      (c.complete = true → x.rejected = 0 → t.link p h = some k ∧ t.queue = s.queue ∧ s.ActsAt t p h [] none ∧
        ∀ i, (s.port p).ofHalf h i = true →
          ((t.port p).lane i).active = LaneSet.has (groupLanes l.agree.active) (relLane h i) ∧
          ((t.port p).lane i).delay = deskewDelay x.skew (groupLanes l.agree.active) (relLane h i)) ∧
      (c.complete = true → x.rejected ≠ 0 → t = (s.setLink p h (some k)).upRun p h .skewDrift)) ∧
    (¬ (l.state = .training ∧ l.training.stage = some .deskew) →
      ¬ (l.state = .up ∧ l.align.recheckState = .collecting) → t = s)

/-- R92, R102, R103, R129, R132: the regroup timer takes an UP link down with LANE_LOSS to CHECKING, its lanes
released and its group, marks and timers cleared; the recheck timer starts again at once and, when no recheck
is in flight, begins one over the active group. An expiry at a link that is not UP changes nothing: log entry 3
(DESIGN CHOICE). -/
def Obligations.LiveTimersExpire : Prop :=
  ∀ (p : Port) (h : Half) (s : State) (l : Link), s.link p h = some l →
    (l.state ≠ .up → exec (.regroupTimerExpiry p h) s = .next s ∧ exec (.recheckTimerExpiry p h) s = .next s) ∧
    (l.state = .up → l.agree.regroupTimer.isSome = true → ∃ t : State,
      exec (.regroupTimerExpiry p h) s = .next t ∧ s.GoesDown t p h l .laneLoss) ∧
    (∀ n, l.state = .up → l.align.recheckTimer = some n → groupLanes l.agree.active ≠ 0 →
      exec (.recheckTimerExpiry p h) s = .next (s.setLink p h (some { l with align := { l.align with
        recheckTimer := some ⟨s.uptime, n.length⟩
        recheckState := .collecting
        recheck := if l.align.recheckState = .idle then { lanes := groupLanes l.agree.active }
          else l.align.recheck } })))

/-! ### Groups and alignment -/

/-- R79: the selection rule: the widest candidate group inside the set, at its lowest start; none for the empty
set alone; and the same width for the mirror of the set. -/
def Obligations.SelectionRule : Prop :=
  ∀ (n : Nat) (S : LaneSet), n ∈ [1, 2, 4, 8] → (∀ r, LaneSet.has S r = true → r < n) →
    (select n S = none ↔ S = 0) ∧ groupWidth (select n (MapClass.reversed.set n S)) = groupWidth (select n S) ∧
    ∀ g, select n S = some g ↔
      (g.width ∈ [1, 2, 4, 8] ∧ g.start % g.width = 0 ∧ g.start + g.width ≤ n ∧
        (∀ r, g.start ≤ r → r < g.start + g.width → LaneSet.has S r = true) ∧
        ∀ w start, w ∈ [1, 2, 4, 8] → start % w = 0 → start + w ≤ n →
          (∀ r, start ≤ r → r < start + w → LaneSet.has S r = true) →
          w < g.width ∨ (w = g.width ∧ g.start ≤ start))

/-- R97 to R100: the computation takes the differences wrapped, chooses the fullest window, then the earliest,
retains the lanes inside it with their skew, rejects the others, gives a lane outside the collection no skew, and
reports the spread, which is 63 or less exactly when none is rejected; the delays of a group of retained lanes make
every lane as late as the latest. -/
def Obligations.AlignmentChoosesWindow : Prop :=
  (∀ a b : Nat, -512 ≤ wrapDiff a b ∧ wrapDiff a b ≤ 511 ∧ (wrapDiff a b - ((a : Int) - b)) % 1024 = 0) ∧
  (∀ (pivot : Nat × Nat) (rest : List (Nat × Nat)), wrapDiffs (pivot :: rest) =
    (pivot.1, 0) :: rest.map fun x => (x.1, ((x.2 : Int) - pivot.2 + 512) % 1024 - 512)) ∧
  alignment [] = ⟨Vector.replicate 8 none, 0, none, none⟩ ∧
  (∀ L : List (Nat × Nat), L ≠ [] → (L.map Prod.fst).Pairwise (· < ·) → (∀ x ∈ L, x.1 < 8) →
    ∃ j base, (alignment L).windowLane = some j ∧ (j, base) ∈ wrapDiffs L ∧
      (∀ x ∈ wrapDiffs L,
        windowCount (wrapDiffs L) x.2 < windowCount (wrapDiffs L) base ∨
        (windowCount (wrapDiffs L) x.2 = windowCount (wrapDiffs L) base ∧
          (base < x.2 ∨ (base = x.2 ∧ j ≤ x.1)))) ∧
      (∀ x ∈ wrapDiffs L,
        (base ≤ x.2 → x.2 ≤ base + 63 → laneAt (alignment L).skew x.1 = some (x.2 - base).toNat ∧
          LaneSet.has (alignment L).rejected x.1 = false) ∧
        ((x.2 < base ∨ base + 63 < x.2) → laneAt (alignment L).skew x.1 = none ∧
          LaneSet.has (alignment L).rejected x.1 = true)) ∧
      (∀ r, r < 8 → r ∉ L.map Prod.fst → laneAt (alignment L).skew r = none ∧
        LaneSet.has (alignment L).rejected r = false) ∧
      ∃ spread, (alignment L).spread = some spread ∧
        (∀ x ∈ wrapDiffs L, ∀ y ∈ wrapDiffs L, x.2 - y.2 ≤ spread) ∧
        (∃ x ∈ wrapDiffs L, ∃ y ∈ wrapDiffs L, x.2 - y.2 = spread) ∧
        (spread ≤ 63 ↔ (alignment L).rejected = 0)) ∧
  ∀ (skew : Vector (Option Nat) 8) (active : LaneSet), active ≠ 0 →
    (∀ r, LaneSet.has active r = false → deskewDelay skew active r = 0) ∧
    (∃ r, LaneSet.has active r = true ∧ deskewDelay skew active r = 0) ∧
    ∀ r r', LaneSet.has active r = true → LaneSet.has active r' = true →
      skewAt skew r + deskewDelay skew active r = skewAt skew r' + deskewDelay skew active r'

/-! ### Invariants -/

/-- Full reset meets every invariant (R162): R62, R71, R147, R154, R164 and the others they rest on, among them that
no event is in progress (the model's own field of log entry 27). -/
def Obligations.ResetMeetsInvariants : Prop :=
  State.reset.QueueOk ∧ State.reset.HistoriesOk ∧ State.reset.LineOk ∧ State.reset.SettingsOk ∧
    State.reset.LocateOk ∧ State.reset.PortsOk ∧ State.reset.LanesOk ∧ State.reset.LinksOk ∧
    State.reset.NoDuplicates ∧ State.reset.RangesOk ∧ State.reset.eventLoss = none ∧
    State.reset.pending = [] ∧ State.reset.mode = .setup ∧
    ∀ p : Port, (State.reset.port p).state = .empty

/-- R147, R154, R164 to R166, R45, R55, R159, R18: every step keeps the notice queue, the histories, the management
line, the settings and the locate selection in order; and no event is in progress between commands (the model's
own field of log entry 27). -/
def Obligations.StepKeepsRecordsInOrder : Prop :=
  ∀ s t : State, step s = .next t →
    (s.QueueOk → t.QueueOk) ∧ (s.HistoriesOk → t.HistoriesOk) ∧ (s.LineOk → t.LineOk) ∧
      (s.SettingsOk → t.SettingsOk) ∧ (s.LocateOk → t.LocateOk) ∧ (s.eventLoss = none → t.eventLoss = none)

/-- R1, R5, R57, R61, R156, R20, R30, R31: every step keeps the port records, their links by form, the mode and
the lane records in order. -/
def Obligations.StepKeepsPortsInOrder : Prop :=
  ∀ s t : State, s.PortsOk → s.LanesOk → step s = .next t → t.PortsOk ∧ t.LanesOk

/-- R62, R68, R73, R82, R84, R92, R96, R106, R125: every step keeps each link record to the fields its state allows:
reason, grant and check timers; stage, timers, dwell, presets, context and grades of training; proposal, accept,
active group, regroup and exclusion marks; recheck state, set and timer; level, isolation cause and probe. -/
def Obligations.StepKeepsLinksInOrder : Prop :=
  ∀ s t : State, s.LinksOk → step s = .next t → t.LinksOk

/-- R71: every step keeps that no two links in VERIFIED, TRAINING or UP hold the same far identity. -/
def Obligations.StepKeepsFarIdentitiesApart : Prop :=
  ∀ s t : State, s.NoDuplicates → step s = .next t → t.NoDuplicates

/-- R90, R95, R99, R100, R119, R125, R140: every step keeps the score of an ISOLATED link and every residue within
1..127, the attempt count within the maximum, the active group a candidate group of the span, and every skew and
every deskew delay within 0..63. -/
def Obligations.StepKeepsLinkRanges : Prop :=
  ∀ s t : State, s.PortsOk → s.SettingsOk → s.RangesOk → step s = .next t → t.RangesOk
end

