-- ==== Sys2Proof/Laws/State.lean ====
section
/-! SUPPORT. One lemma per field per update: an update of a port, a position, a link or a lane leaves every
field outside the ports as it is, and a posted notice every field but the queue and the overrun count. -/

namespace Sys2Proof.Machine

open Sys2Proof

variable (s : State)

/-! ### setPort -/

@[simp] theorem State.setPort_pending (p : Port) (q : PortUnit) : (s.setPort p q).pending = s.pending := rfl
@[simp] theorem State.setPort_replies (p : Port) (q : PortUnit) : (s.setPort p q).replies = s.replies := rfl
@[simp] theorem State.setPort_eventLoss (p : Port) (q : PortUnit) : (s.setPort p q).eventLoss = s.eventLoss := rfl
@[simp] theorem State.setPort_mode (p : Port) (q : PortUnit) : (s.setPort p q).mode = s.mode := rfl
@[simp] theorem State.setPort_timing (p : Port) (q : PortUnit) : (s.setPort p q).timing = s.timing := rfl
@[simp] theorem State.setPort_uptime (p : Port) (q : PortUnit) : (s.setPort p q).uptime = s.uptime := rfl
@[simp] theorem State.setPort_chassis (p : Port) (q : PortUnit) : (s.setPort p q).chassis = s.chassis := rfl
@[simp] theorem State.setPort_position (p : Port) (q : PortUnit) : (s.setPort p q).position = s.position := rfl
@[simp] theorem State.setPort_planTag (p : Port) (q : PortUnit) : (s.setPort p q).planTag = s.planTag := rfl
@[simp] theorem State.setPort_presets (p : Port) (q : PortUnit) : (s.setPort p q).presets = s.presets := rfl
@[simp] theorem State.setPort_locate (p : Port) (q : PortUnit) : (s.setPort p q).locate = s.locate := rfl
@[simp] theorem State.setPort_blinkOn (p : Port) (q : PortUnit) : (s.setPort p q).blinkOn = s.blinkOn := rfl
@[simp] theorem State.setPort_filter1 (p : Port) (q : PortUnit) : (s.setPort p q).filter1 = s.filter1 := rfl
@[simp] theorem State.setPort_filter2 (p : Port) (q : PortUnit) : (s.setPort p q).filter2 = s.filter2 := rfl
@[simp] theorem State.setPort_queue (p : Port) (q : PortUnit) : (s.setPort p q).queue = s.queue := rfl
@[simp] theorem State.setPort_overrun (p : Port) (q : PortUnit) : (s.setPort p q).overrun = s.overrun := rfl
@[simp] theorem State.setPort_lineFast (p : Port) (q : PortUnit) : (s.setPort p q).lineFast = s.lineFast := rfl
@[simp] theorem State.setPort_assembler (p : Port) (q : PortUnit) : (s.setPort p q).assembler = s.assembler := rfl
@[simp] theorem State.setPort_executing (p : Port) (q : PortUnit) : (s.setPort p q).executing = s.executing := rfl
@[simp] theorem State.setPort_waiting (p : Port) (q : PortUnit) : (s.setPort p q).waiting = s.waiting := rfl
@[simp] theorem State.setPort_framingErrors (p : Port) (q : PortUnit) : (s.setPort p q).framingErrors = s.framingErrors := rfl
@[simp] theorem State.setPort_checkErrors (p : Port) (q : PortUnit) : (s.setPort p q).checkErrors = s.checkErrors := rfl
@[simp] theorem State.setPort_dropped (p : Port) (q : PortUnit) : (s.setPort p q).dropped = s.dropped := rfl
@[simp] theorem State.setPort_focus (p : Port) (q : PortUnit) : (s.setPort p q).focus = s.focus := rfl

/-! ### modPort -/

@[simp] theorem State.modPort_pending (p : Port) (f : PortUnit → PortUnit) : (s.modPort p f).pending = s.pending := rfl
@[simp] theorem State.modPort_replies (p : Port) (f : PortUnit → PortUnit) : (s.modPort p f).replies = s.replies := rfl
@[simp] theorem State.modPort_eventLoss (p : Port) (f : PortUnit → PortUnit) : (s.modPort p f).eventLoss = s.eventLoss := rfl
@[simp] theorem State.modPort_mode (p : Port) (f : PortUnit → PortUnit) : (s.modPort p f).mode = s.mode := rfl
@[simp] theorem State.modPort_timing (p : Port) (f : PortUnit → PortUnit) : (s.modPort p f).timing = s.timing := rfl
@[simp] theorem State.modPort_uptime (p : Port) (f : PortUnit → PortUnit) : (s.modPort p f).uptime = s.uptime := rfl
@[simp] theorem State.modPort_chassis (p : Port) (f : PortUnit → PortUnit) : (s.modPort p f).chassis = s.chassis := rfl
@[simp] theorem State.modPort_position (p : Port) (f : PortUnit → PortUnit) : (s.modPort p f).position = s.position := rfl
@[simp] theorem State.modPort_planTag (p : Port) (f : PortUnit → PortUnit) : (s.modPort p f).planTag = s.planTag := rfl
@[simp] theorem State.modPort_presets (p : Port) (f : PortUnit → PortUnit) : (s.modPort p f).presets = s.presets := rfl
@[simp] theorem State.modPort_locate (p : Port) (f : PortUnit → PortUnit) : (s.modPort p f).locate = s.locate := rfl
@[simp] theorem State.modPort_blinkOn (p : Port) (f : PortUnit → PortUnit) : (s.modPort p f).blinkOn = s.blinkOn := rfl
@[simp] theorem State.modPort_filter1 (p : Port) (f : PortUnit → PortUnit) : (s.modPort p f).filter1 = s.filter1 := rfl
@[simp] theorem State.modPort_filter2 (p : Port) (f : PortUnit → PortUnit) : (s.modPort p f).filter2 = s.filter2 := rfl
@[simp] theorem State.modPort_queue (p : Port) (f : PortUnit → PortUnit) : (s.modPort p f).queue = s.queue := rfl
@[simp] theorem State.modPort_overrun (p : Port) (f : PortUnit → PortUnit) : (s.modPort p f).overrun = s.overrun := rfl
@[simp] theorem State.modPort_lineFast (p : Port) (f : PortUnit → PortUnit) : (s.modPort p f).lineFast = s.lineFast := rfl
@[simp] theorem State.modPort_assembler (p : Port) (f : PortUnit → PortUnit) : (s.modPort p f).assembler = s.assembler := rfl
@[simp] theorem State.modPort_executing (p : Port) (f : PortUnit → PortUnit) : (s.modPort p f).executing = s.executing := rfl
@[simp] theorem State.modPort_waiting (p : Port) (f : PortUnit → PortUnit) : (s.modPort p f).waiting = s.waiting := rfl
@[simp] theorem State.modPort_framingErrors (p : Port) (f : PortUnit → PortUnit) : (s.modPort p f).framingErrors = s.framingErrors := rfl
@[simp] theorem State.modPort_checkErrors (p : Port) (f : PortUnit → PortUnit) : (s.modPort p f).checkErrors = s.checkErrors := rfl
@[simp] theorem State.modPort_dropped (p : Port) (f : PortUnit → PortUnit) : (s.modPort p f).dropped = s.dropped := rfl
@[simp] theorem State.modPort_focus (p : Port) (f : PortUnit → PortUnit) : (s.modPort p f).focus = s.focus := rfl

/-! ### modPos -/

@[simp] theorem State.modPos_pending (p : Port) (h : Half) (f : Position → Position) : (s.modPos p h f).pending = s.pending := rfl
@[simp] theorem State.modPos_replies (p : Port) (h : Half) (f : Position → Position) : (s.modPos p h f).replies = s.replies := rfl
@[simp] theorem State.modPos_eventLoss (p : Port) (h : Half) (f : Position → Position) : (s.modPos p h f).eventLoss = s.eventLoss := rfl
@[simp] theorem State.modPos_mode (p : Port) (h : Half) (f : Position → Position) : (s.modPos p h f).mode = s.mode := rfl
@[simp] theorem State.modPos_timing (p : Port) (h : Half) (f : Position → Position) : (s.modPos p h f).timing = s.timing := rfl
@[simp] theorem State.modPos_uptime (p : Port) (h : Half) (f : Position → Position) : (s.modPos p h f).uptime = s.uptime := rfl
@[simp] theorem State.modPos_chassis (p : Port) (h : Half) (f : Position → Position) : (s.modPos p h f).chassis = s.chassis := rfl
@[simp] theorem State.modPos_position (p : Port) (h : Half) (f : Position → Position) : (s.modPos p h f).position = s.position := rfl
@[simp] theorem State.modPos_planTag (p : Port) (h : Half) (f : Position → Position) : (s.modPos p h f).planTag = s.planTag := rfl
@[simp] theorem State.modPos_presets (p : Port) (h : Half) (f : Position → Position) : (s.modPos p h f).presets = s.presets := rfl
@[simp] theorem State.modPos_locate (p : Port) (h : Half) (f : Position → Position) : (s.modPos p h f).locate = s.locate := rfl
@[simp] theorem State.modPos_blinkOn (p : Port) (h : Half) (f : Position → Position) : (s.modPos p h f).blinkOn = s.blinkOn := rfl
@[simp] theorem State.modPos_filter1 (p : Port) (h : Half) (f : Position → Position) : (s.modPos p h f).filter1 = s.filter1 := rfl
@[simp] theorem State.modPos_filter2 (p : Port) (h : Half) (f : Position → Position) : (s.modPos p h f).filter2 = s.filter2 := rfl
@[simp] theorem State.modPos_queue (p : Port) (h : Half) (f : Position → Position) : (s.modPos p h f).queue = s.queue := rfl
@[simp] theorem State.modPos_overrun (p : Port) (h : Half) (f : Position → Position) : (s.modPos p h f).overrun = s.overrun := rfl
@[simp] theorem State.modPos_lineFast (p : Port) (h : Half) (f : Position → Position) : (s.modPos p h f).lineFast = s.lineFast := rfl
@[simp] theorem State.modPos_assembler (p : Port) (h : Half) (f : Position → Position) : (s.modPos p h f).assembler = s.assembler := rfl
@[simp] theorem State.modPos_executing (p : Port) (h : Half) (f : Position → Position) : (s.modPos p h f).executing = s.executing := rfl
@[simp] theorem State.modPos_waiting (p : Port) (h : Half) (f : Position → Position) : (s.modPos p h f).waiting = s.waiting := rfl
@[simp] theorem State.modPos_framingErrors (p : Port) (h : Half) (f : Position → Position) : (s.modPos p h f).framingErrors = s.framingErrors := rfl
@[simp] theorem State.modPos_checkErrors (p : Port) (h : Half) (f : Position → Position) : (s.modPos p h f).checkErrors = s.checkErrors := rfl
@[simp] theorem State.modPos_dropped (p : Port) (h : Half) (f : Position → Position) : (s.modPos p h f).dropped = s.dropped := rfl
@[simp] theorem State.modPos_focus (p : Port) (h : Half) (f : Position → Position) : (s.modPos p h f).focus = s.focus := rfl

/-! ### setLink -/

@[simp] theorem State.setLink_pending (p : Port) (h : Half) (l : Option Link) : (s.setLink p h l).pending = s.pending := rfl
@[simp] theorem State.setLink_replies (p : Port) (h : Half) (l : Option Link) : (s.setLink p h l).replies = s.replies := rfl
@[simp] theorem State.setLink_eventLoss (p : Port) (h : Half) (l : Option Link) : (s.setLink p h l).eventLoss = s.eventLoss := rfl
@[simp] theorem State.setLink_mode (p : Port) (h : Half) (l : Option Link) : (s.setLink p h l).mode = s.mode := rfl
@[simp] theorem State.setLink_timing (p : Port) (h : Half) (l : Option Link) : (s.setLink p h l).timing = s.timing := rfl
@[simp] theorem State.setLink_uptime (p : Port) (h : Half) (l : Option Link) : (s.setLink p h l).uptime = s.uptime := rfl
@[simp] theorem State.setLink_chassis (p : Port) (h : Half) (l : Option Link) : (s.setLink p h l).chassis = s.chassis := rfl
@[simp] theorem State.setLink_position (p : Port) (h : Half) (l : Option Link) : (s.setLink p h l).position = s.position := rfl
@[simp] theorem State.setLink_planTag (p : Port) (h : Half) (l : Option Link) : (s.setLink p h l).planTag = s.planTag := rfl
@[simp] theorem State.setLink_presets (p : Port) (h : Half) (l : Option Link) : (s.setLink p h l).presets = s.presets := rfl
@[simp] theorem State.setLink_locate (p : Port) (h : Half) (l : Option Link) : (s.setLink p h l).locate = s.locate := rfl
@[simp] theorem State.setLink_blinkOn (p : Port) (h : Half) (l : Option Link) : (s.setLink p h l).blinkOn = s.blinkOn := rfl
@[simp] theorem State.setLink_filter1 (p : Port) (h : Half) (l : Option Link) : (s.setLink p h l).filter1 = s.filter1 := rfl
@[simp] theorem State.setLink_filter2 (p : Port) (h : Half) (l : Option Link) : (s.setLink p h l).filter2 = s.filter2 := rfl
@[simp] theorem State.setLink_queue (p : Port) (h : Half) (l : Option Link) : (s.setLink p h l).queue = s.queue := rfl
@[simp] theorem State.setLink_overrun (p : Port) (h : Half) (l : Option Link) : (s.setLink p h l).overrun = s.overrun := rfl
@[simp] theorem State.setLink_lineFast (p : Port) (h : Half) (l : Option Link) : (s.setLink p h l).lineFast = s.lineFast := rfl
@[simp] theorem State.setLink_assembler (p : Port) (h : Half) (l : Option Link) : (s.setLink p h l).assembler = s.assembler := rfl
@[simp] theorem State.setLink_executing (p : Port) (h : Half) (l : Option Link) : (s.setLink p h l).executing = s.executing := rfl
@[simp] theorem State.setLink_waiting (p : Port) (h : Half) (l : Option Link) : (s.setLink p h l).waiting = s.waiting := rfl
@[simp] theorem State.setLink_framingErrors (p : Port) (h : Half) (l : Option Link) : (s.setLink p h l).framingErrors = s.framingErrors := rfl
@[simp] theorem State.setLink_checkErrors (p : Port) (h : Half) (l : Option Link) : (s.setLink p h l).checkErrors = s.checkErrors := rfl
@[simp] theorem State.setLink_dropped (p : Port) (h : Half) (l : Option Link) : (s.setLink p h l).dropped = s.dropped := rfl
@[simp] theorem State.setLink_focus (p : Port) (h : Half) (l : Option Link) : (s.setLink p h l).focus = s.focus := rfl

/-! ### modLink -/

@[simp] theorem State.modLink_pending (p : Port) (h : Half) (f : Link → Link) : (s.modLink p h f).pending = s.pending := rfl
@[simp] theorem State.modLink_replies (p : Port) (h : Half) (f : Link → Link) : (s.modLink p h f).replies = s.replies := rfl
@[simp] theorem State.modLink_eventLoss (p : Port) (h : Half) (f : Link → Link) : (s.modLink p h f).eventLoss = s.eventLoss := rfl
@[simp] theorem State.modLink_mode (p : Port) (h : Half) (f : Link → Link) : (s.modLink p h f).mode = s.mode := rfl
@[simp] theorem State.modLink_timing (p : Port) (h : Half) (f : Link → Link) : (s.modLink p h f).timing = s.timing := rfl
@[simp] theorem State.modLink_uptime (p : Port) (h : Half) (f : Link → Link) : (s.modLink p h f).uptime = s.uptime := rfl
@[simp] theorem State.modLink_chassis (p : Port) (h : Half) (f : Link → Link) : (s.modLink p h f).chassis = s.chassis := rfl
@[simp] theorem State.modLink_position (p : Port) (h : Half) (f : Link → Link) : (s.modLink p h f).position = s.position := rfl
@[simp] theorem State.modLink_planTag (p : Port) (h : Half) (f : Link → Link) : (s.modLink p h f).planTag = s.planTag := rfl
@[simp] theorem State.modLink_presets (p : Port) (h : Half) (f : Link → Link) : (s.modLink p h f).presets = s.presets := rfl
@[simp] theorem State.modLink_locate (p : Port) (h : Half) (f : Link → Link) : (s.modLink p h f).locate = s.locate := rfl
@[simp] theorem State.modLink_blinkOn (p : Port) (h : Half) (f : Link → Link) : (s.modLink p h f).blinkOn = s.blinkOn := rfl
@[simp] theorem State.modLink_filter1 (p : Port) (h : Half) (f : Link → Link) : (s.modLink p h f).filter1 = s.filter1 := rfl
@[simp] theorem State.modLink_filter2 (p : Port) (h : Half) (f : Link → Link) : (s.modLink p h f).filter2 = s.filter2 := rfl
@[simp] theorem State.modLink_queue (p : Port) (h : Half) (f : Link → Link) : (s.modLink p h f).queue = s.queue := rfl
@[simp] theorem State.modLink_overrun (p : Port) (h : Half) (f : Link → Link) : (s.modLink p h f).overrun = s.overrun := rfl
@[simp] theorem State.modLink_lineFast (p : Port) (h : Half) (f : Link → Link) : (s.modLink p h f).lineFast = s.lineFast := rfl
@[simp] theorem State.modLink_assembler (p : Port) (h : Half) (f : Link → Link) : (s.modLink p h f).assembler = s.assembler := rfl
@[simp] theorem State.modLink_executing (p : Port) (h : Half) (f : Link → Link) : (s.modLink p h f).executing = s.executing := rfl
@[simp] theorem State.modLink_waiting (p : Port) (h : Half) (f : Link → Link) : (s.modLink p h f).waiting = s.waiting := rfl
@[simp] theorem State.modLink_framingErrors (p : Port) (h : Half) (f : Link → Link) : (s.modLink p h f).framingErrors = s.framingErrors := rfl
@[simp] theorem State.modLink_checkErrors (p : Port) (h : Half) (f : Link → Link) : (s.modLink p h f).checkErrors = s.checkErrors := rfl
@[simp] theorem State.modLink_dropped (p : Port) (h : Half) (f : Link → Link) : (s.modLink p h f).dropped = s.dropped := rfl
@[simp] theorem State.modLink_focus (p : Port) (h : Half) (f : Link → Link) : (s.modLink p h f).focus = s.focus := rfl

/-! ### modLane -/

@[simp] theorem State.modLane_pending (p : Port) (i : Lane) (f : LaneUnit → LaneUnit) : (s.modLane p i f).pending = s.pending := rfl
@[simp] theorem State.modLane_replies (p : Port) (i : Lane) (f : LaneUnit → LaneUnit) : (s.modLane p i f).replies = s.replies := rfl
@[simp] theorem State.modLane_eventLoss (p : Port) (i : Lane) (f : LaneUnit → LaneUnit) : (s.modLane p i f).eventLoss = s.eventLoss := rfl
@[simp] theorem State.modLane_mode (p : Port) (i : Lane) (f : LaneUnit → LaneUnit) : (s.modLane p i f).mode = s.mode := rfl
@[simp] theorem State.modLane_timing (p : Port) (i : Lane) (f : LaneUnit → LaneUnit) : (s.modLane p i f).timing = s.timing := rfl
@[simp] theorem State.modLane_uptime (p : Port) (i : Lane) (f : LaneUnit → LaneUnit) : (s.modLane p i f).uptime = s.uptime := rfl
@[simp] theorem State.modLane_chassis (p : Port) (i : Lane) (f : LaneUnit → LaneUnit) : (s.modLane p i f).chassis = s.chassis := rfl
@[simp] theorem State.modLane_position (p : Port) (i : Lane) (f : LaneUnit → LaneUnit) : (s.modLane p i f).position = s.position := rfl
@[simp] theorem State.modLane_planTag (p : Port) (i : Lane) (f : LaneUnit → LaneUnit) : (s.modLane p i f).planTag = s.planTag := rfl
@[simp] theorem State.modLane_presets (p : Port) (i : Lane) (f : LaneUnit → LaneUnit) : (s.modLane p i f).presets = s.presets := rfl
@[simp] theorem State.modLane_locate (p : Port) (i : Lane) (f : LaneUnit → LaneUnit) : (s.modLane p i f).locate = s.locate := rfl
@[simp] theorem State.modLane_blinkOn (p : Port) (i : Lane) (f : LaneUnit → LaneUnit) : (s.modLane p i f).blinkOn = s.blinkOn := rfl
@[simp] theorem State.modLane_filter1 (p : Port) (i : Lane) (f : LaneUnit → LaneUnit) : (s.modLane p i f).filter1 = s.filter1 := rfl
@[simp] theorem State.modLane_filter2 (p : Port) (i : Lane) (f : LaneUnit → LaneUnit) : (s.modLane p i f).filter2 = s.filter2 := rfl
@[simp] theorem State.modLane_queue (p : Port) (i : Lane) (f : LaneUnit → LaneUnit) : (s.modLane p i f).queue = s.queue := rfl
@[simp] theorem State.modLane_overrun (p : Port) (i : Lane) (f : LaneUnit → LaneUnit) : (s.modLane p i f).overrun = s.overrun := rfl
@[simp] theorem State.modLane_lineFast (p : Port) (i : Lane) (f : LaneUnit → LaneUnit) : (s.modLane p i f).lineFast = s.lineFast := rfl
@[simp] theorem State.modLane_assembler (p : Port) (i : Lane) (f : LaneUnit → LaneUnit) : (s.modLane p i f).assembler = s.assembler := rfl
@[simp] theorem State.modLane_executing (p : Port) (i : Lane) (f : LaneUnit → LaneUnit) : (s.modLane p i f).executing = s.executing := rfl
@[simp] theorem State.modLane_waiting (p : Port) (i : Lane) (f : LaneUnit → LaneUnit) : (s.modLane p i f).waiting = s.waiting := rfl
@[simp] theorem State.modLane_framingErrors (p : Port) (i : Lane) (f : LaneUnit → LaneUnit) : (s.modLane p i f).framingErrors = s.framingErrors := rfl
@[simp] theorem State.modLane_checkErrors (p : Port) (i : Lane) (f : LaneUnit → LaneUnit) : (s.modLane p i f).checkErrors = s.checkErrors := rfl
@[simp] theorem State.modLane_dropped (p : Port) (i : Lane) (f : LaneUnit → LaneUnit) : (s.modLane p i f).dropped = s.dropped := rfl
@[simp] theorem State.modLane_focus (p : Port) (i : Lane) (f : LaneUnit → LaneUnit) : (s.modLane p i f).focus = s.focus := rfl

/-! ### log -/

@[simp] theorem State.log_pending (p : Port) (c : Change) (r : Reason) : (s.log p c r).pending = s.pending := rfl
@[simp] theorem State.log_replies (p : Port) (c : Change) (r : Reason) : (s.log p c r).replies = s.replies := rfl
@[simp] theorem State.log_eventLoss (p : Port) (c : Change) (r : Reason) : (s.log p c r).eventLoss = s.eventLoss := rfl
@[simp] theorem State.log_mode (p : Port) (c : Change) (r : Reason) : (s.log p c r).mode = s.mode := rfl
@[simp] theorem State.log_timing (p : Port) (c : Change) (r : Reason) : (s.log p c r).timing = s.timing := rfl
@[simp] theorem State.log_uptime (p : Port) (c : Change) (r : Reason) : (s.log p c r).uptime = s.uptime := rfl
@[simp] theorem State.log_chassis (p : Port) (c : Change) (r : Reason) : (s.log p c r).chassis = s.chassis := rfl
@[simp] theorem State.log_position (p : Port) (c : Change) (r : Reason) : (s.log p c r).position = s.position := rfl
@[simp] theorem State.log_planTag (p : Port) (c : Change) (r : Reason) : (s.log p c r).planTag = s.planTag := rfl
@[simp] theorem State.log_presets (p : Port) (c : Change) (r : Reason) : (s.log p c r).presets = s.presets := rfl
@[simp] theorem State.log_locate (p : Port) (c : Change) (r : Reason) : (s.log p c r).locate = s.locate := rfl
@[simp] theorem State.log_blinkOn (p : Port) (c : Change) (r : Reason) : (s.log p c r).blinkOn = s.blinkOn := rfl
@[simp] theorem State.log_filter1 (p : Port) (c : Change) (r : Reason) : (s.log p c r).filter1 = s.filter1 := rfl
@[simp] theorem State.log_filter2 (p : Port) (c : Change) (r : Reason) : (s.log p c r).filter2 = s.filter2 := rfl
@[simp] theorem State.log_queue (p : Port) (c : Change) (r : Reason) : (s.log p c r).queue = s.queue := rfl
@[simp] theorem State.log_overrun (p : Port) (c : Change) (r : Reason) : (s.log p c r).overrun = s.overrun := rfl
@[simp] theorem State.log_lineFast (p : Port) (c : Change) (r : Reason) : (s.log p c r).lineFast = s.lineFast := rfl
@[simp] theorem State.log_assembler (p : Port) (c : Change) (r : Reason) : (s.log p c r).assembler = s.assembler := rfl
@[simp] theorem State.log_executing (p : Port) (c : Change) (r : Reason) : (s.log p c r).executing = s.executing := rfl
@[simp] theorem State.log_waiting (p : Port) (c : Change) (r : Reason) : (s.log p c r).waiting = s.waiting := rfl
@[simp] theorem State.log_framingErrors (p : Port) (c : Change) (r : Reason) : (s.log p c r).framingErrors = s.framingErrors := rfl
@[simp] theorem State.log_checkErrors (p : Port) (c : Change) (r : Reason) : (s.log p c r).checkErrors = s.checkErrors := rfl
@[simp] theorem State.log_dropped (p : Port) (c : Change) (r : Reason) : (s.log p c r).dropped = s.dropped := rfl
@[simp] theorem State.log_focus (p : Port) (c : Change) (r : Reason) : (s.log p c r).focus = s.focus := rfl

/-! ### portTo -/

@[simp] theorem State.portTo_pending (p : Port) (x : PortState) (r : Reason) : (s.portTo p x r).pending = s.pending := rfl
@[simp] theorem State.portTo_replies (p : Port) (x : PortState) (r : Reason) : (s.portTo p x r).replies = s.replies := rfl
@[simp] theorem State.portTo_eventLoss (p : Port) (x : PortState) (r : Reason) : (s.portTo p x r).eventLoss = s.eventLoss := rfl
@[simp] theorem State.portTo_mode (p : Port) (x : PortState) (r : Reason) : (s.portTo p x r).mode = s.mode := rfl
@[simp] theorem State.portTo_timing (p : Port) (x : PortState) (r : Reason) : (s.portTo p x r).timing = s.timing := rfl
@[simp] theorem State.portTo_uptime (p : Port) (x : PortState) (r : Reason) : (s.portTo p x r).uptime = s.uptime := rfl
@[simp] theorem State.portTo_chassis (p : Port) (x : PortState) (r : Reason) : (s.portTo p x r).chassis = s.chassis := rfl
@[simp] theorem State.portTo_position (p : Port) (x : PortState) (r : Reason) : (s.portTo p x r).position = s.position := rfl
@[simp] theorem State.portTo_planTag (p : Port) (x : PortState) (r : Reason) : (s.portTo p x r).planTag = s.planTag := rfl
@[simp] theorem State.portTo_presets (p : Port) (x : PortState) (r : Reason) : (s.portTo p x r).presets = s.presets := rfl
@[simp] theorem State.portTo_locate (p : Port) (x : PortState) (r : Reason) : (s.portTo p x r).locate = s.locate := rfl
@[simp] theorem State.portTo_blinkOn (p : Port) (x : PortState) (r : Reason) : (s.portTo p x r).blinkOn = s.blinkOn := rfl
@[simp] theorem State.portTo_filter1 (p : Port) (x : PortState) (r : Reason) : (s.portTo p x r).filter1 = s.filter1 := rfl
@[simp] theorem State.portTo_filter2 (p : Port) (x : PortState) (r : Reason) : (s.portTo p x r).filter2 = s.filter2 := rfl
@[simp] theorem State.portTo_queue (p : Port) (x : PortState) (r : Reason) : (s.portTo p x r).queue = s.queue := rfl
@[simp] theorem State.portTo_overrun (p : Port) (x : PortState) (r : Reason) : (s.portTo p x r).overrun = s.overrun := rfl
@[simp] theorem State.portTo_lineFast (p : Port) (x : PortState) (r : Reason) : (s.portTo p x r).lineFast = s.lineFast := rfl
@[simp] theorem State.portTo_assembler (p : Port) (x : PortState) (r : Reason) : (s.portTo p x r).assembler = s.assembler := rfl
@[simp] theorem State.portTo_executing (p : Port) (x : PortState) (r : Reason) : (s.portTo p x r).executing = s.executing := rfl
@[simp] theorem State.portTo_waiting (p : Port) (x : PortState) (r : Reason) : (s.portTo p x r).waiting = s.waiting := rfl
@[simp] theorem State.portTo_framingErrors (p : Port) (x : PortState) (r : Reason) : (s.portTo p x r).framingErrors = s.framingErrors := rfl
@[simp] theorem State.portTo_checkErrors (p : Port) (x : PortState) (r : Reason) : (s.portTo p x r).checkErrors = s.checkErrors := rfl
@[simp] theorem State.portTo_dropped (p : Port) (x : PortState) (r : Reason) : (s.portTo p x r).dropped = s.dropped := rfl
@[simp] theorem State.portTo_focus (p : Port) (x : PortState) (r : Reason) : (s.portTo p x r).focus = s.focus := rfl

/-! ### capture -/

@[simp] theorem State.capture_pending (p : Port) (h : Half) (r : SnapRecord) : (s.capture p h r).pending = s.pending := rfl
@[simp] theorem State.capture_replies (p : Port) (h : Half) (r : SnapRecord) : (s.capture p h r).replies = s.replies := rfl
@[simp] theorem State.capture_eventLoss (p : Port) (h : Half) (r : SnapRecord) : (s.capture p h r).eventLoss = s.eventLoss := rfl
@[simp] theorem State.capture_mode (p : Port) (h : Half) (r : SnapRecord) : (s.capture p h r).mode = s.mode := rfl
@[simp] theorem State.capture_timing (p : Port) (h : Half) (r : SnapRecord) : (s.capture p h r).timing = s.timing := rfl
@[simp] theorem State.capture_uptime (p : Port) (h : Half) (r : SnapRecord) : (s.capture p h r).uptime = s.uptime := rfl
@[simp] theorem State.capture_chassis (p : Port) (h : Half) (r : SnapRecord) : (s.capture p h r).chassis = s.chassis := rfl
@[simp] theorem State.capture_position (p : Port) (h : Half) (r : SnapRecord) : (s.capture p h r).position = s.position := rfl
@[simp] theorem State.capture_planTag (p : Port) (h : Half) (r : SnapRecord) : (s.capture p h r).planTag = s.planTag := rfl
@[simp] theorem State.capture_presets (p : Port) (h : Half) (r : SnapRecord) : (s.capture p h r).presets = s.presets := rfl
@[simp] theorem State.capture_locate (p : Port) (h : Half) (r : SnapRecord) : (s.capture p h r).locate = s.locate := rfl
@[simp] theorem State.capture_blinkOn (p : Port) (h : Half) (r : SnapRecord) : (s.capture p h r).blinkOn = s.blinkOn := rfl
@[simp] theorem State.capture_filter1 (p : Port) (h : Half) (r : SnapRecord) : (s.capture p h r).filter1 = s.filter1 := rfl
@[simp] theorem State.capture_filter2 (p : Port) (h : Half) (r : SnapRecord) : (s.capture p h r).filter2 = s.filter2 := rfl
@[simp] theorem State.capture_queue (p : Port) (h : Half) (r : SnapRecord) : (s.capture p h r).queue = s.queue := rfl
@[simp] theorem State.capture_overrun (p : Port) (h : Half) (r : SnapRecord) : (s.capture p h r).overrun = s.overrun := rfl
@[simp] theorem State.capture_lineFast (p : Port) (h : Half) (r : SnapRecord) : (s.capture p h r).lineFast = s.lineFast := rfl
@[simp] theorem State.capture_assembler (p : Port) (h : Half) (r : SnapRecord) : (s.capture p h r).assembler = s.assembler := rfl
@[simp] theorem State.capture_executing (p : Port) (h : Half) (r : SnapRecord) : (s.capture p h r).executing = s.executing := rfl
@[simp] theorem State.capture_waiting (p : Port) (h : Half) (r : SnapRecord) : (s.capture p h r).waiting = s.waiting := rfl
@[simp] theorem State.capture_framingErrors (p : Port) (h : Half) (r : SnapRecord) : (s.capture p h r).framingErrors = s.framingErrors := rfl
@[simp] theorem State.capture_checkErrors (p : Port) (h : Half) (r : SnapRecord) : (s.capture p h r).checkErrors = s.checkErrors := rfl
@[simp] theorem State.capture_dropped (p : Port) (h : Half) (r : SnapRecord) : (s.capture p h r).dropped = s.dropped := rfl
@[simp] theorem State.capture_focus (p : Port) (h : Half) (r : SnapRecord) : (s.capture p h r).focus = s.focus := rfl

/-! ### enqueue and post -/

@[simp] theorem State.enqueue_pending (n : Notice) : (s.enqueue n).pending = s.pending := by
  unfold State.enqueue; split <;> rfl
@[simp] theorem State.enqueue_replies (n : Notice) : (s.enqueue n).replies = s.replies := by
  unfold State.enqueue; split <;> rfl
@[simp] theorem State.enqueue_eventLoss (n : Notice) : (s.enqueue n).eventLoss = s.eventLoss := by
  unfold State.enqueue; split <;> rfl
@[simp] theorem State.enqueue_mode (n : Notice) : (s.enqueue n).mode = s.mode := by
  unfold State.enqueue; split <;> rfl
@[simp] theorem State.enqueue_timing (n : Notice) : (s.enqueue n).timing = s.timing := by
  unfold State.enqueue; split <;> rfl
@[simp] theorem State.enqueue_uptime (n : Notice) : (s.enqueue n).uptime = s.uptime := by
  unfold State.enqueue; split <;> rfl
@[simp] theorem State.enqueue_chassis (n : Notice) : (s.enqueue n).chassis = s.chassis := by
  unfold State.enqueue; split <;> rfl
@[simp] theorem State.enqueue_position (n : Notice) : (s.enqueue n).position = s.position := by
  unfold State.enqueue; split <;> rfl
@[simp] theorem State.enqueue_planTag (n : Notice) : (s.enqueue n).planTag = s.planTag := by
  unfold State.enqueue; split <;> rfl
@[simp] theorem State.enqueue_presets (n : Notice) : (s.enqueue n).presets = s.presets := by
  unfold State.enqueue; split <;> rfl
@[simp] theorem State.enqueue_locate (n : Notice) : (s.enqueue n).locate = s.locate := by
  unfold State.enqueue; split <;> rfl
@[simp] theorem State.enqueue_blinkOn (n : Notice) : (s.enqueue n).blinkOn = s.blinkOn := by
  unfold State.enqueue; split <;> rfl
@[simp] theorem State.enqueue_filter1 (n : Notice) : (s.enqueue n).filter1 = s.filter1 := by
  unfold State.enqueue; split <;> rfl
@[simp] theorem State.enqueue_filter2 (n : Notice) : (s.enqueue n).filter2 = s.filter2 := by
  unfold State.enqueue; split <;> rfl
@[simp] theorem State.enqueue_lineFast (n : Notice) : (s.enqueue n).lineFast = s.lineFast := by
  unfold State.enqueue; split <;> rfl
@[simp] theorem State.enqueue_assembler (n : Notice) : (s.enqueue n).assembler = s.assembler := by
  unfold State.enqueue; split <;> rfl
@[simp] theorem State.enqueue_executing (n : Notice) : (s.enqueue n).executing = s.executing := by
  unfold State.enqueue; split <;> rfl
@[simp] theorem State.enqueue_waiting (n : Notice) : (s.enqueue n).waiting = s.waiting := by
  unfold State.enqueue; split <;> rfl
@[simp] theorem State.enqueue_framingErrors (n : Notice) : (s.enqueue n).framingErrors = s.framingErrors := by
  unfold State.enqueue; split <;> rfl
@[simp] theorem State.enqueue_checkErrors (n : Notice) : (s.enqueue n).checkErrors = s.checkErrors := by
  unfold State.enqueue; split <;> rfl
@[simp] theorem State.enqueue_dropped (n : Notice) : (s.enqueue n).dropped = s.dropped := by
  unfold State.enqueue; split <;> rfl
@[simp] theorem State.enqueue_focus (n : Notice) : (s.enqueue n).focus = s.focus := by
  unfold State.enqueue; split <;> rfl
@[simp] theorem State.enqueue_ports (n : Notice) : (s.enqueue n).ports = s.ports := by
  unfold State.enqueue; split <;> rfl
@[simp] theorem State.post_pending (p : Option Port) (h : Option Half) (d : Detail) : (s.post p h d).pending = s.pending := by
  unfold State.post; dsimp only; split <;> simp
@[simp] theorem State.post_replies (p : Option Port) (h : Option Half) (d : Detail) : (s.post p h d).replies = s.replies := by
  unfold State.post; dsimp only; split <;> simp
@[simp] theorem State.post_eventLoss (p : Option Port) (h : Option Half) (d : Detail) : (s.post p h d).eventLoss = s.eventLoss := by
  unfold State.post; dsimp only; split <;> simp
@[simp] theorem State.post_mode (p : Option Port) (h : Option Half) (d : Detail) : (s.post p h d).mode = s.mode := by
  unfold State.post; dsimp only; split <;> simp
@[simp] theorem State.post_timing (p : Option Port) (h : Option Half) (d : Detail) : (s.post p h d).timing = s.timing := by
  unfold State.post; dsimp only; split <;> simp
@[simp] theorem State.post_uptime (p : Option Port) (h : Option Half) (d : Detail) : (s.post p h d).uptime = s.uptime := by
  unfold State.post; dsimp only; split <;> simp
@[simp] theorem State.post_chassis (p : Option Port) (h : Option Half) (d : Detail) : (s.post p h d).chassis = s.chassis := by
  unfold State.post; dsimp only; split <;> simp
@[simp] theorem State.post_position (p : Option Port) (h : Option Half) (d : Detail) : (s.post p h d).position = s.position := by
  unfold State.post; dsimp only; split <;> simp
@[simp] theorem State.post_planTag (p : Option Port) (h : Option Half) (d : Detail) : (s.post p h d).planTag = s.planTag := by
  unfold State.post; dsimp only; split <;> simp
@[simp] theorem State.post_presets (p : Option Port) (h : Option Half) (d : Detail) : (s.post p h d).presets = s.presets := by
  unfold State.post; dsimp only; split <;> simp
@[simp] theorem State.post_locate (p : Option Port) (h : Option Half) (d : Detail) : (s.post p h d).locate = s.locate := by
  unfold State.post; dsimp only; split <;> simp
@[simp] theorem State.post_blinkOn (p : Option Port) (h : Option Half) (d : Detail) : (s.post p h d).blinkOn = s.blinkOn := by
  unfold State.post; dsimp only; split <;> simp
@[simp] theorem State.post_filter1 (p : Option Port) (h : Option Half) (d : Detail) : (s.post p h d).filter1 = s.filter1 := by
  unfold State.post; dsimp only; split <;> simp
@[simp] theorem State.post_filter2 (p : Option Port) (h : Option Half) (d : Detail) : (s.post p h d).filter2 = s.filter2 := by
  unfold State.post; dsimp only; split <;> simp
@[simp] theorem State.post_lineFast (p : Option Port) (h : Option Half) (d : Detail) : (s.post p h d).lineFast = s.lineFast := by
  unfold State.post; dsimp only; split <;> simp
@[simp] theorem State.post_assembler (p : Option Port) (h : Option Half) (d : Detail) : (s.post p h d).assembler = s.assembler := by
  unfold State.post; dsimp only; split <;> simp
@[simp] theorem State.post_executing (p : Option Port) (h : Option Half) (d : Detail) : (s.post p h d).executing = s.executing := by
  unfold State.post; dsimp only; split <;> simp
@[simp] theorem State.post_waiting (p : Option Port) (h : Option Half) (d : Detail) : (s.post p h d).waiting = s.waiting := by
  unfold State.post; dsimp only; split <;> simp
@[simp] theorem State.post_framingErrors (p : Option Port) (h : Option Half) (d : Detail) : (s.post p h d).framingErrors = s.framingErrors := by
  unfold State.post; dsimp only; split <;> simp
@[simp] theorem State.post_checkErrors (p : Option Port) (h : Option Half) (d : Detail) : (s.post p h d).checkErrors = s.checkErrors := by
  unfold State.post; dsimp only; split <;> simp
@[simp] theorem State.post_dropped (p : Option Port) (h : Option Half) (d : Detail) : (s.post p h d).dropped = s.dropped := by
  unfold State.post; dsimp only; split <;> simp
@[simp] theorem State.post_focus (p : Option Port) (h : Option Half) (d : Detail) : (s.post p h d).focus = s.focus := by
  unfold State.post; dsimp only; split <;> simp
@[simp] theorem State.post_ports (p : Option Port) (h : Option Half) (d : Detail) : (s.post p h d).ports = s.ports := by
  unfold State.post; dsimp only; split <;> simp
@[simp] theorem State.postPort_pending (p : Port) (d : Detail) : (s.postPort p d).pending = s.pending := s.post_pending _ _ _
@[simp] theorem State.postPort_replies (p : Port) (d : Detail) : (s.postPort p d).replies = s.replies := s.post_replies _ _ _
@[simp] theorem State.postPort_eventLoss (p : Port) (d : Detail) : (s.postPort p d).eventLoss = s.eventLoss := s.post_eventLoss _ _ _
@[simp] theorem State.postPort_mode (p : Port) (d : Detail) : (s.postPort p d).mode = s.mode := s.post_mode _ _ _
@[simp] theorem State.postPort_timing (p : Port) (d : Detail) : (s.postPort p d).timing = s.timing := s.post_timing _ _ _
@[simp] theorem State.postPort_uptime (p : Port) (d : Detail) : (s.postPort p d).uptime = s.uptime := s.post_uptime _ _ _
@[simp] theorem State.postPort_chassis (p : Port) (d : Detail) : (s.postPort p d).chassis = s.chassis := s.post_chassis _ _ _
@[simp] theorem State.postPort_position (p : Port) (d : Detail) : (s.postPort p d).position = s.position := s.post_position _ _ _
@[simp] theorem State.postPort_planTag (p : Port) (d : Detail) : (s.postPort p d).planTag = s.planTag := s.post_planTag _ _ _
@[simp] theorem State.postPort_presets (p : Port) (d : Detail) : (s.postPort p d).presets = s.presets := s.post_presets _ _ _
@[simp] theorem State.postPort_locate (p : Port) (d : Detail) : (s.postPort p d).locate = s.locate := s.post_locate _ _ _
@[simp] theorem State.postPort_blinkOn (p : Port) (d : Detail) : (s.postPort p d).blinkOn = s.blinkOn := s.post_blinkOn _ _ _
@[simp] theorem State.postPort_filter1 (p : Port) (d : Detail) : (s.postPort p d).filter1 = s.filter1 := s.post_filter1 _ _ _
@[simp] theorem State.postPort_filter2 (p : Port) (d : Detail) : (s.postPort p d).filter2 = s.filter2 := s.post_filter2 _ _ _
@[simp] theorem State.postPort_lineFast (p : Port) (d : Detail) : (s.postPort p d).lineFast = s.lineFast := s.post_lineFast _ _ _
@[simp] theorem State.postPort_assembler (p : Port) (d : Detail) : (s.postPort p d).assembler = s.assembler := s.post_assembler _ _ _
@[simp] theorem State.postPort_executing (p : Port) (d : Detail) : (s.postPort p d).executing = s.executing := s.post_executing _ _ _
@[simp] theorem State.postPort_waiting (p : Port) (d : Detail) : (s.postPort p d).waiting = s.waiting := s.post_waiting _ _ _
@[simp] theorem State.postPort_framingErrors (p : Port) (d : Detail) : (s.postPort p d).framingErrors = s.framingErrors := s.post_framingErrors _ _ _
@[simp] theorem State.postPort_checkErrors (p : Port) (d : Detail) : (s.postPort p d).checkErrors = s.checkErrors := s.post_checkErrors _ _ _
@[simp] theorem State.postPort_dropped (p : Port) (d : Detail) : (s.postPort p d).dropped = s.dropped := s.post_dropped _ _ _
@[simp] theorem State.postPort_focus (p : Port) (d : Detail) : (s.postPort p d).focus = s.focus := s.post_focus _ _ _
@[simp] theorem State.postPort_ports (p : Port) (d : Detail) : (s.postPort p d).ports = s.ports := s.post_ports _ _ _
@[simp] theorem State.postLink_pending (p : Port) (h : Half) (d : Detail) : (s.postLink p h d).pending = s.pending := s.post_pending _ _ _
@[simp] theorem State.postLink_replies (p : Port) (h : Half) (d : Detail) : (s.postLink p h d).replies = s.replies := s.post_replies _ _ _
@[simp] theorem State.postLink_eventLoss (p : Port) (h : Half) (d : Detail) : (s.postLink p h d).eventLoss = s.eventLoss := s.post_eventLoss _ _ _
@[simp] theorem State.postLink_mode (p : Port) (h : Half) (d : Detail) : (s.postLink p h d).mode = s.mode := s.post_mode _ _ _
@[simp] theorem State.postLink_timing (p : Port) (h : Half) (d : Detail) : (s.postLink p h d).timing = s.timing := s.post_timing _ _ _
@[simp] theorem State.postLink_uptime (p : Port) (h : Half) (d : Detail) : (s.postLink p h d).uptime = s.uptime := s.post_uptime _ _ _
@[simp] theorem State.postLink_chassis (p : Port) (h : Half) (d : Detail) : (s.postLink p h d).chassis = s.chassis := s.post_chassis _ _ _
@[simp] theorem State.postLink_position (p : Port) (h : Half) (d : Detail) : (s.postLink p h d).position = s.position := s.post_position _ _ _
@[simp] theorem State.postLink_planTag (p : Port) (h : Half) (d : Detail) : (s.postLink p h d).planTag = s.planTag := s.post_planTag _ _ _
@[simp] theorem State.postLink_presets (p : Port) (h : Half) (d : Detail) : (s.postLink p h d).presets = s.presets := s.post_presets _ _ _
@[simp] theorem State.postLink_locate (p : Port) (h : Half) (d : Detail) : (s.postLink p h d).locate = s.locate := s.post_locate _ _ _
@[simp] theorem State.postLink_blinkOn (p : Port) (h : Half) (d : Detail) : (s.postLink p h d).blinkOn = s.blinkOn := s.post_blinkOn _ _ _
@[simp] theorem State.postLink_filter1 (p : Port) (h : Half) (d : Detail) : (s.postLink p h d).filter1 = s.filter1 := s.post_filter1 _ _ _
@[simp] theorem State.postLink_filter2 (p : Port) (h : Half) (d : Detail) : (s.postLink p h d).filter2 = s.filter2 := s.post_filter2 _ _ _
@[simp] theorem State.postLink_lineFast (p : Port) (h : Half) (d : Detail) : (s.postLink p h d).lineFast = s.lineFast := s.post_lineFast _ _ _
@[simp] theorem State.postLink_assembler (p : Port) (h : Half) (d : Detail) : (s.postLink p h d).assembler = s.assembler := s.post_assembler _ _ _
@[simp] theorem State.postLink_executing (p : Port) (h : Half) (d : Detail) : (s.postLink p h d).executing = s.executing := s.post_executing _ _ _
@[simp] theorem State.postLink_waiting (p : Port) (h : Half) (d : Detail) : (s.postLink p h d).waiting = s.waiting := s.post_waiting _ _ _
@[simp] theorem State.postLink_framingErrors (p : Port) (h : Half) (d : Detail) : (s.postLink p h d).framingErrors = s.framingErrors := s.post_framingErrors _ _ _
@[simp] theorem State.postLink_checkErrors (p : Port) (h : Half) (d : Detail) : (s.postLink p h d).checkErrors = s.checkErrors := s.post_checkErrors _ _ _
@[simp] theorem State.postLink_dropped (p : Port) (h : Half) (d : Detail) : (s.postLink p h d).dropped = s.dropped := s.post_dropped _ _ _
@[simp] theorem State.postLink_focus (p : Port) (h : Half) (d : Detail) : (s.postLink p h d).focus = s.focus := s.post_focus _ _ _
@[simp] theorem State.postLink_ports (p : Port) (h : Half) (d : Detail) : (s.postLink p h d).ports = s.ports := s.post_ports _ _ _

/-! ### inEvent -/

@[simp] theorem State.inEvent_eventLoss (f : State → State) : (s.inEvent f).eventLoss = s.eventLoss := rfl
@[simp] theorem State.inEvent_pending (f : State → State) :
    (s.inEvent f).pending = (f { s with eventLoss := some s.noticeLoss }).pending := rfl
@[simp] theorem State.inEvent_replies (f : State → State) :
    (s.inEvent f).replies = (f { s with eventLoss := some s.noticeLoss }).replies := rfl
@[simp] theorem State.inEvent_mode (f : State → State) :
    (s.inEvent f).mode = (f { s with eventLoss := some s.noticeLoss }).mode := rfl
@[simp] theorem State.inEvent_timing (f : State → State) :
    (s.inEvent f).timing = (f { s with eventLoss := some s.noticeLoss }).timing := rfl
@[simp] theorem State.inEvent_uptime (f : State → State) :
    (s.inEvent f).uptime = (f { s with eventLoss := some s.noticeLoss }).uptime := rfl
@[simp] theorem State.inEvent_chassis (f : State → State) :
    (s.inEvent f).chassis = (f { s with eventLoss := some s.noticeLoss }).chassis := rfl
@[simp] theorem State.inEvent_position (f : State → State) :
    (s.inEvent f).position = (f { s with eventLoss := some s.noticeLoss }).position := rfl
@[simp] theorem State.inEvent_planTag (f : State → State) :
    (s.inEvent f).planTag = (f { s with eventLoss := some s.noticeLoss }).planTag := rfl
@[simp] theorem State.inEvent_presets (f : State → State) :
    (s.inEvent f).presets = (f { s with eventLoss := some s.noticeLoss }).presets := rfl
@[simp] theorem State.inEvent_ports (f : State → State) :
    (s.inEvent f).ports = (f { s with eventLoss := some s.noticeLoss }).ports := rfl
@[simp] theorem State.inEvent_locate (f : State → State) :
    (s.inEvent f).locate = (f { s with eventLoss := some s.noticeLoss }).locate := rfl
@[simp] theorem State.inEvent_blinkOn (f : State → State) :
    (s.inEvent f).blinkOn = (f { s with eventLoss := some s.noticeLoss }).blinkOn := rfl
@[simp] theorem State.inEvent_filter1 (f : State → State) :
    (s.inEvent f).filter1 = (f { s with eventLoss := some s.noticeLoss }).filter1 := rfl
@[simp] theorem State.inEvent_filter2 (f : State → State) :
    (s.inEvent f).filter2 = (f { s with eventLoss := some s.noticeLoss }).filter2 := rfl
@[simp] theorem State.inEvent_queue (f : State → State) :
    (s.inEvent f).queue = (f { s with eventLoss := some s.noticeLoss }).queue := rfl
@[simp] theorem State.inEvent_overrun (f : State → State) :
    (s.inEvent f).overrun = (f { s with eventLoss := some s.noticeLoss }).overrun := rfl
@[simp] theorem State.inEvent_lineFast (f : State → State) :
    (s.inEvent f).lineFast = (f { s with eventLoss := some s.noticeLoss }).lineFast := rfl
@[simp] theorem State.inEvent_assembler (f : State → State) :
    (s.inEvent f).assembler = (f { s with eventLoss := some s.noticeLoss }).assembler := rfl
@[simp] theorem State.inEvent_executing (f : State → State) :
    (s.inEvent f).executing = (f { s with eventLoss := some s.noticeLoss }).executing := rfl
@[simp] theorem State.inEvent_waiting (f : State → State) :
    (s.inEvent f).waiting = (f { s with eventLoss := some s.noticeLoss }).waiting := rfl
@[simp] theorem State.inEvent_framingErrors (f : State → State) :
    (s.inEvent f).framingErrors = (f { s with eventLoss := some s.noticeLoss }).framingErrors := rfl
@[simp] theorem State.inEvent_checkErrors (f : State → State) :
    (s.inEvent f).checkErrors = (f { s with eventLoss := some s.noticeLoss }).checkErrors := rfl
@[simp] theorem State.inEvent_dropped (f : State → State) :
    (s.inEvent f).dropped = (f { s with eventLoss := some s.noticeLoss }).dropped := rfl
@[simp] theorem State.inEvent_focus (f : State → State) :
    (s.inEvent f).focus = (f { s with eventLoss := some s.noticeLoss }).focus := rfl

/-- An event in which nothing happens. -/
@[simp] theorem State.inEvent_id : s.inEvent (fun t => t) = s := rfl

end Sys2Proof.Machine
end

