-- ==== Sys2Proof/Laws/Access.lean ====
section
/-! SUPPORT. What is read back after an update: ports, lanes, link positions and links. -/

namespace Sys2Proof.Machine

open Sys2Proof

variable (s : State) (p p' : Port)

/-! ### Ports -/

theorem State.port_setPort (q : PortUnit) : (s.setPort p q).port p' = if p = p' then q else s.port p' := by
  simp only [State.port, State.setPort, Fin.getElem_fin, Vector.getElem_set, Fin.ext_iff]

@[simp] theorem State.port_setPort_self (q : PortUnit) : (s.setPort p q).port p = q := by
  simp [State.port_setPort]

theorem State.port_setPort_of_ne (q : PortUnit) {p p' : Port} (h : p ≠ p') : (s.setPort p q).port p' = s.port p' := by
  simp [State.port_setPort, h]

theorem State.port_modPort (f : PortUnit → PortUnit) :
    (s.modPort p f).port p' = if p = p' then f (s.port p) else s.port p' := by
  simp only [State.modPort, State.port_setPort]

@[simp] theorem State.port_modPort_self (f : PortUnit → PortUnit) : (s.modPort p f).port p = f (s.port p) := by
  simp [State.port_modPort]

theorem State.port_modPort_of_ne (f : PortUnit → PortUnit) {p p' : Port} (h : p ≠ p') :
    (s.modPort p f).port p' = s.port p' := by
  simp [State.port_modPort, h]

@[simp] theorem State.port_post (a : Option Port) (b : Option Half) (d : Detail) : (s.post a b d).port p = s.port p := by
  simp [State.port]

@[simp] theorem State.port_postPort (a : Port) (d : Detail) : (s.postPort a d).port p = s.port p := s.port_post p _ _ _

@[simp] theorem State.port_postLink (a : Port) (b : Half) (d : Detail) : (s.postLink a b d).port p = s.port p :=
  s.port_post p _ _ _

/-! ### Histories -/

@[simp] theorem PortUnit.pos_append (q : PortUnit) (e : HistEntry) (h : Half) : (q.append e).pos h = q.pos h := by
  unfold PortUnit.append; split <;> cases h <;> rfl

/-- R154: an append changes the history and the wrapped flag and nothing else. -/
theorem PortUnit.append_eq (q : PortUnit) (e : HistEntry) :
    q.append e = { q with history := (q.append e).history, wrapped := (q.append e).wrapped } := by
  unfold PortUnit.append; split <;> rfl

/-! ### Positions and links -/

@[simp] theorem PortUnit.pos_setPos_self (q : PortUnit) (h : Half) (x : Position) : (q.setPos h x).pos h = x := by
  cases h <;> rfl

theorem PortUnit.pos_setPos_of_ne (q : PortUnit) {h h' : Half} (x : Position) (hne : h ≠ h') :
    (q.setPos h x).pos h' = q.pos h' := by
  cases h <;> cases h' <;> first | rfl | exact absurd rfl hne

theorem PortUnit.pos_setPos (q : PortUnit) (h h' : Half) (x : Position) :
    (q.setPos h x).pos h' = if h = h' then x else q.pos h' := by
  cases h <;> cases h' <;> rfl

theorem State.pos_modPos (h h' : Half) (f : Position → Position) :
    (s.modPos p h f).pos p' h' = if p = p' ∧ h = h' then f (s.pos p h) else s.pos p' h' := by
  by_cases hp : p = p'
  · subst hp
    simp only [State.pos, State.modPos, State.port_modPort_self, PortUnit.pos_setPos, true_and]
  · simp only [State.pos, State.modPos, State.port_modPort_of_ne s _ hp, hp, false_and, if_false]

theorem State.link_modPos (h h' : Half) (f : Position → Position) :
    (s.modPos p h f).link p' h' = if p = p' ∧ h = h' then (f (s.pos p h)).link else s.link p' h' := by
  simp only [State.link, State.pos_modPos]; split <;> rfl

theorem State.link_setLink (h h' : Half) (l : Option Link) :
    (s.setLink p h l).link p' h' = if p = p' ∧ h = h' then l else s.link p' h' := by
  simp only [State.setLink, State.link_modPos]

@[simp] theorem State.link_setLink_self (h : Half) (l : Option Link) : (s.setLink p h l).link p h = l := by
  simp [State.link_setLink]

theorem State.link_modLink (h h' : Half) (f : Link → Link) :
    (s.modLink p h f).link p' h' = if p = p' ∧ h = h' then (s.link p h).map f else s.link p' h' := by
  rw [State.modLink, State.link_modPos]; rfl

@[simp] theorem State.link_modLink_self (h : Half) (f : Link → Link) :
    (s.modLink p h f).link p h = (s.link p h).map f := by
  simp [State.link_modLink]

/-- A change of a port that keeps its positions keeps every link. -/
theorem State.link_modPort (f : PortUnit → PortUnit) (h' : Half) (hf : ∀ q h, ((f q).pos h).link = (q.pos h).link) :
    (s.modPort p f).link p' h' = s.link p' h' := by
  simp only [State.link, State.pos, State.port_modPort]; split
  · subst_vars; exact hf _ _
  · rfl

@[simp] theorem State.link_post (a : Option Port) (b : Option Half) (d : Detail) (h : Half) :
    (s.post a b d).link p h = s.link p h := by
  simp [State.link, State.pos]

@[simp] theorem State.link_postPort (a : Port) (d : Detail) (h : Half) : (s.postPort a d).link p h = s.link p h :=
  s.link_post p _ _ _ h

@[simp] theorem State.link_postLink (a : Port) (b : Half) (d : Detail) (h : Half) :
    (s.postLink a b d).link p h = s.link p h :=
  s.link_post p _ _ _ h

@[simp] theorem State.link_log (c : Change) (r : Reason) (h : Half) : (s.log p c r).link p' h = s.link p' h :=
  s.link_modPort p p' _ h fun q k => by simp

@[simp] theorem State.link_capture (k : Half) (r : SnapRecord) (h : Half) : (s.capture p k r).link p' h = s.link p' h := by
  simp only [State.capture, State.link_modPos]; split
  · next hk => obtain ⟨rfl, rfl⟩ := hk; rfl
  · rfl

@[simp] theorem PortUnit.pos_mapLanes (q : PortUnit) (f : Lane → LaneUnit → LaneUnit) (h : Half) :
    (q.mapLanes f).pos h = q.pos h := by
  cases h <;> rfl

@[simp] theorem PortUnit.pos_mapHalf (q : PortUnit) (k : Half) (f : Nat → LaneUnit → LaneUnit) (h : Half) :
    (q.mapHalf k f).pos h = q.pos h := PortUnit.pos_mapLanes q _ h

/-! ### Lanes -/

/-- The lane read back after every lane is changed. -/
theorem PortUnit.lane_mapLanes (q : PortUnit) (f : Lane → LaneUnit → LaneUnit) (i : Lane) :
    (q.mapLanes f).lane i = f i (q.lane i) := by
  match i with
  | 0 => rfl
  | 1 => rfl
  | 2 => rfl
  | 3 => rfl
  | 4 => rfl
  | 5 => rfl
  | 6 => rfl
  | 7 => rfl

theorem PortUnit.lane_modLane (q : PortUnit) (i j : Lane) (f : LaneUnit → LaneUnit) :
    (q.modLane i f).lane j = if i = j then f (q.lane i) else q.lane j := by
  simp only [PortUnit.lane, PortUnit.modLane, Fin.getElem_fin, Vector.getElem_set, Fin.ext_iff]

/-- The lanes of a half's span are changed, the others not. -/
theorem PortUnit.lane_mapHalf (q : PortUnit) (h : Half) (f : Nat → LaneUnit → LaneUnit) (i : Lane) :
    (q.mapHalf h f).lane i = if q.ofHalf h i then f (relLane h i) (q.lane i) else q.lane i :=
  q.lane_mapLanes _ i

end Sys2Proof.Machine
end

