-- ==== Sys2Proof/Laws/Bare.lean ====
section
/-! SUPPORT. What the Link Engine does not touch. The bare state is the state without links, contexts,
residues, snapshots, histories, the link part of the lane records, the notice queue and its overrun count;
every operation of the Link Engine and of the Notice Unit leaves it as it is. -/

namespace Sys2Proof.Machine

open Sys2Proof

/-! ### What a bare state shows -/

theorem State.port_bare (s : State) (p : Port) : s.bare.port p = (s.port p).bare := by
  simp [State.bare, State.port]

theorem State.bare_port {s t : State} (h : s.bare = t.bare) (p : Port) : (s.port p).bare = (t.port p).bare := by
  rw [← State.port_bare, ← State.port_bare, h]

theorem PortUnit.lane_bare (q : PortUnit) (i : Lane) : q.bare.lane i = (q.lane i).bare :=
  q.lane_mapLanes (fun _ x => x.bare) i

theorem PortUnit.bare_lane {q r : PortUnit} (h : q.bare = r.bare) (i : Lane) : (q.lane i).bare = (r.lane i).bare := by
  rw [← PortUnit.lane_bare, ← PortUnit.lane_bare, h]

/-! ### Primitive updates -/

theorem State.bare_setPort {s : State} {p : Port} {q : PortUnit} (h : q.bare = (s.port p).bare) :
    (s.setPort p q).bare = s.bare := by
  simp only [State.bare, State.setPort]
  congr 1
  rw [Vector.map_set, h]
  ext i hi : 1
  simp only [Vector.getElem_set, Vector.getElem_map]
  split
  · next hp => simp [State.port, hp]
  · rfl

theorem State.bare_modPort {s : State} {p : Port} {f : PortUnit → PortUnit} (h : ∀ q, (f q).bare = q.bare) :
    (s.modPort p f).bare = s.bare :=
  State.bare_setPort (h _)

@[simp] theorem PortUnit.bare_setPos (q : PortUnit) (h : Half) (x : Position) : (q.setPos h x).bare = q.bare := by
  cases h <;> rfl

@[simp] theorem PortUnit.bare_append (q : PortUnit) (e : HistEntry) : (q.append e).bare = q.bare := by
  unfold PortUnit.append; split <;> rfl

theorem PortUnit.bare_mapLanes {q : PortUnit} {f : Lane → LaneUnit → LaneUnit} (h : ∀ i x, (f i x).bare = x.bare) :
    (q.mapLanes f).bare = q.bare := by
  simp only [PortUnit.bare, PortUnit.mapLanes, PortUnit.lane]
  simp [h]

theorem PortUnit.bare_mapHalf {q : PortUnit} {k : Half} {f : Nat → LaneUnit → LaneUnit} (h : ∀ r x, (f r x).bare = x.bare) :
    (q.mapHalf k f).bare = q.bare := by
  refine PortUnit.bare_mapLanes fun i x => ?_
  split
  · exact h _ _
  · rfl

variable (s : State) (p : Port) (h : Half)

@[simp] theorem State.bare_modPos (f : Position → Position) : (s.modPos p h f).bare = s.bare :=
  State.bare_modPort fun _ => by simp

@[simp] theorem State.bare_setLink (l : Option Link) : (s.setLink p h l).bare = s.bare := s.bare_modPos p h _

@[simp] theorem State.bare_modLink (f : Link → Link) : (s.modLink p h f).bare = s.bare := s.bare_modPos p h _

@[simp] theorem State.bare_capture (r : SnapRecord) : (s.capture p h r).bare = s.bare := s.bare_modPos p h _

@[simp] theorem State.bare_setResidue (r : Option Nat) : (s.setResidue p h r).bare = s.bare := s.bare_modPos p h _

@[simp] theorem State.bare_log (c : Change) (r : Reason) : (s.log p c r).bare = s.bare :=
  State.bare_modPort fun _ => by simp

@[simp] theorem State.bare_post (a : Option Port) (b : Option Half) (d : Detail) : (s.post a b d).bare = s.bare := by
  unfold State.post State.enqueue; dsimp only; split
  · split <;> rfl
  · rfl

@[simp] theorem State.bare_postPort (d : Detail) : (s.postPort p d).bare = s.bare := s.bare_post _ _ _

@[simp] theorem State.bare_postLink (d : Detail) : (s.postLink p h d).bare = s.bare := s.bare_post _ _ _

/-! ### Lanes of a half -/

@[simp] theorem State.bare_applyGroup (a : LaneSet) (v : Vector (Option Nat) 8) :
    (s.modPort p fun q => q.applyGroup h a v).bare = s.bare :=
  State.bare_modPort fun _ => PortUnit.bare_mapHalf fun _ _ => rfl

@[simp] theorem State.bare_releaseLanes : (s.modPort p fun q => q.releaseLanes h).bare = s.bare :=
  State.bare_modPort fun _ => PortUnit.bare_mapHalf fun _ _ => rfl

@[simp] theorem State.bare_clearBest : (s.modPort p fun q => q.clearBest h).bare = s.bare :=
  State.bare_modPort fun _ => PortUnit.bare_mapHalf fun _ _ => rfl

@[simp] theorem State.bare_choosePresets (S : LaneSet) (f : Nat → Nat) :
    (s.modPort p fun q => q.choosePresets h S f).bare = s.bare :=
  State.bare_modPort fun _ => PortUnit.bare_mapHalf fun _ _ => by split <;> rfl

@[simp] theorem State.bare_takeGrades (S : LaneSet) : (s.modPort p fun q => q.takeGrades h S).bare = s.bare :=
  State.bare_modPort fun _ => PortUnit.bare_mapHalf fun _ _ => by split <;> rfl

@[simp] theorem State.bare_takeBest (t : Training) : (s.modPort p fun q => q.takeBest h t).bare = s.bare :=
  State.bare_modPort fun _ => PortUnit.bare_mapHalf fun _ _ => by split <;> [split <;> rfl; rfl]

/-! ### Operations of the Link Engine -/

theorem State.bare_inEvent {f : State → State} (hf : ∀ t, (f t).bare = t.bare) : (s.inEvent f).bare = s.bare :=
  congrArg (fun t : State => { t with eventLoss := s.eventLoss }) (hf { s with eventLoss := some s.noticeLoss })

theorem State.bare_withLink {f : Link → State} (hf : ∀ l, (f l).bare = s.bare) : (s.withLink p h f).bare = s.bare := by
  unfold State.withLink; split
  · exact hf _
  · rfl

theorem State.bare_forPositions {f : State → Port → Half → State} (hf : ∀ t p h, (f t p h).bare = t.bare) :
    (s.forPositions f).bare = s.bare := by
  unfold State.forPositions
  generalize allPositions = L
  induction L generalizing s with
  | nil => rfl
  | cons a L ih => rw [List.foldl_cons, ih, hf]

@[simp] theorem State.bare_storeMove (old new : Option Link) (down hist : Reason) :
    (s.storeMove p h old new down hist).bare = s.bare := by
  unfold State.storeMove; dsimp only; (repeat' split) <;> simp

@[simp] theorem State.bare_releaseDuplicates : (s.releaseDuplicates p h).bare = s.bare :=
  s.bare_forPositions fun t p' h' => by
    split
    · rfl
    · unfold State.releasePosition
      exact t.bare_withLink p' h' fun l => by split <;> simp

@[simp] theorem State.bare_moveLink (old new : Option Link) (down hist : Reason) :
    (s.moveLink p h old new down hist).bare = s.bare := by
  unfold State.moveLink; dsimp only; split <;> simp

@[simp] theorem State.bare_linkDown (l new : Link) (reason hist : Reason) :
    (s.linkDown p h l new reason hist).bare = s.bare := by
  simp [State.linkDown]

@[simp] theorem State.bare_enterChecking (l : Link) (hist : Reason) : (s.enterChecking p h l hist).bare = s.bare := by
  simp [State.enterChecking]

@[simp] theorem State.bare_removeLink (reason : Reason) : (s.removeLink p h reason).bare = s.bare :=
  s.bare_withLink p h fun l => by dsimp only; split <;> simp

@[simp] theorem State.bare_removeLinks (reason : Reason) : (s.removeLinks p reason).bare = s.bare :=
  s.bare_inEvent fun t => by simp

@[simp] theorem State.bare_updateRegroup : (s.updateRegroup p h).bare = s.bare := s.bare_modLink p h _

@[simp] theorem State.bare_setScore (n : Nat) : (s.setScore p h n).bare = s.bare :=
  s.bare_withLink p h fun l => by dsimp only; split <;> simp

@[simp] theorem State.bare_storeContext (far : Option FarId) (g : Group) : (s.storeContext p h far g).bare = s.bare := by
  unfold State.storeContext; split <;> simp

@[simp] theorem State.bare_enterUp : (s.enterUp p h).bare = s.bare :=
  s.bare_withLink p h fun l => by dsimp only; split <;> simp

@[simp] theorem State.bare_alignTest : (s.alignTest p h).bare = s.bare :=
  s.bare_withLink p h fun l => by split <;> simp

section
variable {restart : Restart} (hr : ∀ t p h, (restart t p h).bare = t.bare)
include hr

theorem State.bare_countFailure (cause : Reason) : (s.countFailure restart p h cause).bare = s.bare :=
  s.bare_withLink p h fun l => by
    dsimp only; split
    · rw [hr]; simp
    · simp

theorem State.bare_alignRun : (s.alignRun restart p h).bare = s.bare :=
  s.bare_withLink p h fun l => by
    split
    · exact s.bare_countFailure p h hr _
    · simp

theorem State.bare_endDeskew : (s.endDeskew restart p h).bare = s.bare :=
  s.bare_withLink p h fun l => by rw [State.bare_alignRun _ _ _ hr]; simp

theorem State.bare_deskewTest : (s.deskewTest restart p h).bare = s.bare :=
  s.bare_withLink p h fun l => by
    split
    · exact s.bare_endDeskew p h hr
    · rfl

theorem State.bare_deskewDrop : (s.deskewDrop restart p h).bare = s.bare := by
  unfold State.deskewDrop; rw [State.bare_deskewTest _ _ _ hr]; simp

theorem State.bare_endEqualize : (s.endEqualize restart p h).bare = s.bare := by
  unfold State.endEqualize; dsimp only; rw [State.bare_deskewTest _ _ _ hr]; simp

omit hr in
@[simp] theorem State.bare_beginListDwell (k : Nat) : (s.beginListDwell p h k).bare = s.bare :=
  s.bare_withLink p h fun l => by simp

omit hr in
@[simp] theorem State.bare_beginRetained (c : Context) : (s.beginRetained p h c).bare = s.bare :=
  s.bare_withLink p h fun l => by simp

theorem State.bare_beginEqualize : (s.beginEqualize restart p h).bare = s.bare :=
  s.bare_withLink p h fun l => by
    dsimp only; split
    · rw [State.bare_endEqualize _ _ _ hr]; simp
    · split <;> simp

theorem State.bare_endRetained : (s.endRetained restart p h).bare = s.bare :=
  s.bare_withLink p h fun l => by
    split
    · rw [State.bare_endEqualize _ _ _ hr]; simp
    · simp

theorem State.bare_endListDwell (k : Nat) : (s.endListDwell restart p h k).bare = s.bare :=
  s.bare_withLink p h fun l => by
    dsimp only; split
    · simp
    · refine (State.bare_withLink _ p h (f := _) fun l => ?_).trans (s.bare_modLink p h _)
      rw [State.bare_endEqualize _ _ _ hr]; simp
end

@[simp] theorem State.bare_enterTraining (l : Link) : (s.enterTraining p h l).bare = s.bare := by
  unfold State.enterTraining; rw [State.bare_beginEqualize _ _ _ fun _ _ _ => rfl]; simp

@[simp] theorem State.bare_startTest : (s.startTest p h).bare = s.bare :=
  s.bare_withLink p h fun l => by split <;> simp

theorem State.bare_restartByTest (t : State) (p : Port) (h : Half) : (restartByTest t p h).bare = t.bare :=
  t.bare_startTest p h

@[simp] theorem State.bare_adoptUp (l : Link) (old new : Group) : (s.adoptUp p h l old new).bare = s.bare := by
  simp [State.adoptUp]

@[simp] theorem State.bare_loseLanes (reason : Reason) : (s.loseLanes p h reason).bare = s.bare :=
  s.bare_withLink p h fun l => by simp

@[simp] theorem State.bare_upRun (reason : Reason) : (s.upRun p h reason).bare = s.bare :=
  s.bare_withLink p h fun l => by
    split
    · simp
    · dsimp only; rw [State.bare_updateRegroup]; split
      · split <;> simp
      · simp

@[simp] theorem State.bare_recheckTest : (s.recheckTest p h).bare = s.bare :=
  s.bare_withLink p h fun l => by
    split
    · dsimp only; split <;> simp
    · rfl

@[simp] theorem State.bare_upProtocol : (s.upProtocol p h).bare = s.bare :=
  s.bare_inEvent fun t => by simp

@[simp] theorem State.bare_beginRecheck : (s.beginRecheck p h).bare = s.bare := by simp [State.beginRecheck]

theorem State.bare_enterIsolated (old : Option Link) (new : Link) (down hist : Reason) {f : State → State}
    (hf : ∀ t, (f t).bare = t.bare) : (s.enterIsolated p h old new down hist f).bare = s.bare := by
  simp [State.enterIsolated, hf]

@[simp] theorem State.bare_verdictContext (o : Obs) : (s.verdictContext p h o).bare = s.bare := s.bare_modPos p h _

/-- R60: the start test at the entry to VERIFIED is left out at the creation of a link alone. -/
@[simp] theorem State.noStart_some (l : Link) : s.noStart p (some l) = false := rfl

@[simp] theorem State.noStart_none : s.noStart p none = s.removalWaits p := rfl

/-- R60: what changes links, notices and histories alone does not move a removal that waits. -/
theorem State.removalWaits_of_bare {s t : State} (p : Port) (h : t.bare = s.bare) :
    t.removalWaits p = s.removalWaits p := by
  have hp : (t.port p).bare = (s.port p).bare := State.bare_port h p
  have h1 : t.pending = s.pending := (congrArg State.pending h :)
  have h2 : t.timing = s.timing := (congrArg State.timing h :)
  have h3 : (t.port p).accepted = (s.port p).accepted := (congrArg PortUnit.accepted hp :)
  have h4 : (t.port p).presN = (s.port p).presN := (congrArg PortUnit.presN hp :)
  have h5 : (t.port p).debounceCount = (s.port p).debounceCount := (congrArg PortUnit.debounceCount hp :)
  simp only [State.removalWaits, State.removes, h1, h2, h3, h4, h5]

@[simp] theorem State.bare_giveVerdict (old : Option Link) (l : Link) (hist : Option Reason) :
    (s.giveVerdict p h old l hist).bare = s.bare := by
  unfold State.giveVerdict; dsimp only; split
  · simp
  · split
    · split <;> simp
    · rw [State.bare_enterIsolated _ _ _ _ _ _ _ fun t => by simp]; simp

@[simp] theorem State.bare_createLink : (s.createLink p h).bare = s.bare := by simp [State.createLink]

@[simp] theorem State.bare_endChecking : (s.endChecking p h).bare = s.bare :=
  s.bare_withLink p h fun l => by split <;> simp

@[simp] theorem State.bare_reevaluateHolder (l : Link) : (s.reevaluateHolder p h l).bare = s.bare := by
  have hr : ∀ (t : State) p h, ((fun (t : State) p h => t.startTest p h) t p h).bare = t.bare := fun t p h =>
    t.bare_startTest p h
  unfold State.reevaluateHolder; dsimp only; split
  · split <;> simp
  · split
    · simp
    · simp
    · split
      · rw [State.bare_deskewDrop _ _ _ hr]; simp
      · rw [State.bare_alignRun _ _ _ hr]; simp
      · simp
    · simp

@[simp] theorem State.bare_reevaluate : (s.reevaluate p h).bare = s.bare :=
  s.bare_withLink p h fun l => by split <;> simp

@[simp] theorem State.bare_retag : (s.retag p h).bare = s.bare :=
  s.bare_withLink p h fun l => by split <;> simp

@[simp] theorem State.bare_isolateByHealth : (s.isolateByHealth p h).bare = s.bare :=
  s.bare_withLink p h fun l => by
    dsimp only; rw [State.bare_enterIsolated _ _ _ _ _ _ _ fun t => by simp]

@[simp] theorem State.bare_isolateByHost (l : Link) : (s.isolateByHost p h l).bare = s.bare := by
  unfold State.isolateByHost; dsimp only
  rw [State.bare_enterIsolated _ _ _ _ _ _ _ fun t => by split <;> simp]

@[simp] theorem State.bare_endRecovery : (s.endRecovery p h).bare = s.bare :=
  s.bare_withLink p h fun l => by
    dsimp only; split
    · simp
    · split
      · simp
      · rw [State.bare_enterIsolated _ _ _ _ _ _ _ fun t => by simp]; simp

@[simp] theorem State.bare_probe : (s.probe p h).bare = s.bare :=
  s.bare_withLink p h fun l => by dsimp only; split <;> simp

@[simp] theorem State.bare_scoreTo (n : Nat) : (s.scoreTo p h n).bare = s.bare := by
  unfold State.scoreTo; split <;> simp

@[simp] theorem State.bare_judgeInterval (v : Vector Nat 8) : (s.judgeInterval p h v).bare = s.bare :=
  s.bare_withLink p h fun l => by
    split
    · rfl
    · split
      · simp
      · dsimp only; split <;> simp

@[simp] theorem State.bare_lockLostAt (r : Nat) : (s.lockLostAt p h r).bare = s.bare := by
  unfold State.lockLostAt; dsimp only
  refine (State.bare_withLink _ p h fun l => ?_).trans (s.bare_modLink p h _)
  split
  · rfl
  · split
    · simp
    · exact State.bare_inEvent _ fun t => by rw [State.bare_upProtocol, State.bare_modLink]; split <;> simp

@[simp] theorem State.bare_farEndChange (l : Link) (n : LaneId) : (s.farEndChange p h l n).bare = s.bare := by
  simp [State.farEndChange]

@[simp] theorem State.bare_farEndLeft (l : Link) : (s.farEndLeft p h l).bare = s.bare := by simp [State.farEndLeft]

@[simp] theorem State.bare_trainingEvent (l : Link) (x : LaneItems) : (s.trainingEvent p h l x).bare = s.bare := by
  unfold State.trainingEvent; split
  · simp
  · split
    · exact s.bare_deskewDrop p h State.bare_restartByTest
    · split
      · exact s.bare_alignRun p h State.bare_restartByTest
      · split <;> simp
    · rfl

@[simp] theorem State.bare_upEvent (l : Link) (x : LaneItems) : (s.upEvent p h l x).bare = s.bare := by
  unfold State.upEvent; (repeat' split) <;> simp

/-- R37: a lane change event acts on links, notices and histories alone. -/
@[simp] theorem State.bare_linkEvent (r : Nat) (x : LaneItems) (n : Option LaneId) :
    (s.linkEvent p h r x n).bare = s.bare :=
  s.bare_withLink p h fun l => by (repeat' split) <;> simp

@[simp] theorem State.bare_stampEvent (r v : Nat) : (s.stampEvent p h r v).bare = s.bare :=
  s.bare_withLink p h fun l => by
    split
    · rw [State.bare_deskewTest _ _ _ State.bare_restartByTest]; simp
    · split <;> simp

@[simp] theorem State.bare_badMarkEvent (r : Nat) : (s.badMarkEvent p h r).bare = s.bare := s.bare_modLink p h _

@[simp] theorem State.bare_keepResidue : (s.keepResidue p h).bare = s.bare :=
  s.bare_withLink p h fun l => by split <;> simp

@[simp] theorem State.bare_dropContexts : (s.dropContexts p).bare = s.bare := State.bare_modPort fun _ => rfl

@[simp] theorem State.bare_dropResidues : (s.dropResidues p).bare = s.bare := State.bare_modPort fun _ => rfl

end Sys2Proof.Machine
end

