-- ==== Sys2Proof/Laws/Line.lean ====
section
/-! SUPPORT. The input hold and the event: what an offered frame does, and what a capture reads within one event
(R166, R151, R152). -/

namespace Sys2Proof.Machine

open Sys2Proof

/-- R166: an offered frame executes, waits, or is dropped and counted; nothing else. -/
theorem State.offered_cases (s : State) (body : List Byte) (f : State → Answer) :
    (s.executing = none ∧ s.offered body f = (f s).reply body) ∨
      (s.executing.isSome = true ∧ s.waiting = none ∧ s.offered body f = { s with waiting := some body }) ∨
      (s.executing.isSome = true ∧ s.waiting.isSome = true ∧
        s.offered body f = { s with dropped := min 255 (s.dropped + 1) }) := by
  unfold State.offered
  cases he : s.executing with
  | none => exact .inl ⟨rfl, rfl⟩
  | some x =>
    cases hw : s.waiting with
    | none => exact .inr (.inl ⟨rfl, rfl, rfl⟩)
    | some y => exact .inr (.inr ⟨rfl, rfl, rfl⟩)

/-- R166: with nothing executing, an offered frame executes. -/
theorem State.offered_of_idle {s : State} (h : s.executing = none) (body : List Byte) (f : State → Answer) :
    s.offered body f = (f s).reply body := by unfold State.offered; rw [h]

/-- R152: within an event the notice loss is what it was at its beginning. -/
@[simp] theorem State.noticeLoss_of_event (s : State) (b : Bool) :
    ({ s with eventLoss := some b } : State).noticeLoss = b := rfl

/-- R152: between events the notice loss is whether the overrun count is raised. -/
theorem State.noticeLoss_of_none {s : State} (h : s.eventLoss = none) : s.noticeLoss = decide (0 < s.overrun) := by
  simp [State.noticeLoss, h]

end Sys2Proof.Machine
end

