-- ==== Sys2Proof/Laws/Others.lean ====
section
/-! SUPPORT. What an operation of one link leaves as it is elsewhere: `State.OthersKept` holds of every
operation of the Link Engine at a position, and chains. -/

namespace Sys2Proof.Machine

open Sys2Proof

/-! ### Chaining -/

theorem Position.Kept.refl (now : Uptime) (x : Position) : x.Kept now x := .inl rfl

theorem Position.Kept.trans {now : Uptime} {x y z : Position} (h1 : x.Kept now y) (h2 : y.Kept now z) : x.Kept now z := by
  rcases h1 with rfl | ⟨l, hl, hs, hr, rfl⟩
  · exact h2
  · rcases h2 with rfl | ⟨k, hk, hks, -, -⟩
    · exact .inr ⟨l, hl, hs, hr, rfl⟩
    · obtain rfl : l.toChecking now = k := Option.some.inj hk
      exact absurd hks (by simp [Link.toChecking])

/-- A position that ends as it began was not released on the way. -/
theorem Position.Kept.back {now : Uptime} {x y : Position} (h1 : x.Kept now y) (h2 : y.Kept now x) : y = x := by
  rcases h1 with rfl | ⟨l, hl, hs, hr, rfl⟩
  · rfl
  · rcases h2 with h | ⟨k, hk, hks, -, -⟩
    · exact h.symm
    · obtain rfl : l.toChecking now = k := Option.some.inj hk
      exact absurd hks (by simp [Link.toChecking])

theorem State.uptime_of_bare {s t : State} (h : t.bare = s.bare) : t.uptime = s.uptime :=
  show t.bare.uptime = s.bare.uptime from congrArg State.uptime h

theorem PortUnit.ofHalf_of_bare {q r : PortUnit} (h : q.bare = r.bare) (k : Half) (i : Lane) :
    q.ofHalf k i = r.ofHalf k i := by
  have hd : q.desc = r.desc := show q.bare.desc = r.bare.desc from congrArg PortUnit.desc h
  unfold PortUnit.ofHalf PortUnit.inSpan PortUnit.laneHalf PortUnit.isSplit
  rw [hd]

variable (s : State) (p : Port) (h : Half)

theorem State.OthersKept.refl : s.OthersKept s p h :=
  ⟨rfl, fun _ _ _ => .refl _ _, fun _ _ _ => rfl, fun _ _ _ => ⟨rfl, rfl⟩⟩

variable {s p h}

theorem State.OthersKept.trans {t u : State} (h1 : s.OthersKept t p h) (h2 : t.OthersKept u p h) :
    s.OthersKept u p h := by
  have hu := State.uptime_of_bare h1.bare
  refine ⟨h2.bare.trans h1.bare, fun p' h' hn => ?_, fun p' i hn => ?_, fun p' hp he => ?_⟩
  · have := h2.positions p' h' hn
    rw [hu] at this
    exact (h1.positions p' h' hn).trans this
  · have ho := PortUnit.ofHalf_of_bare (State.bare_port h1.bare p) h i
    exact (h2.lanes p' i (by rw [ho]; exact hn)).trans (h1.lanes p' i hn)
  · have hk : ∀ h', t.pos p' h' = s.pos p' h' := fun h' => by
      have a := h1.positions p' h' fun c => hp c.1
      have b := h2.positions p' h' fun c => hp c.1
      rw [hu, he h'] at b
      exact a.back b
    obtain ⟨a, b⟩ := h1.histories p' hp hk
    obtain ⟨c, d⟩ := h2.histories p' hp fun h' => (he h').trans (hk h').symm
    exact ⟨c.trans a, d.trans b⟩

/-! ### Primitive updates -/

/-- A change of the port `p` that keeps its bare record, its other position and the lanes outside the half. -/
theorem State.others_modPort {f : PortUnit → PortUnit} (hb : ∀ q, (f q).bare = q.bare)
    (hp : ∀ q h', h' ≠ h → (f q).pos h' = q.pos h')
    (hl : ∀ q i, q.ofHalf h i = false → (f q).lane i = q.lane i) : s.OthersKept (s.modPort p f) p h := by
  refine ⟨State.bare_modPort hb, fun p' h' hn => ?_, fun p' i hn => ?_, fun p' hp' _ => ?_⟩
  · refine .inl ?_
    simp only [State.pos]
    by_cases hpp : p = p'
    · subst hpp; rw [State.port_modPort_self]; exact hp _ _ fun c => hn ⟨rfl, c⟩
    · rw [State.port_modPort_of_ne s f hpp]
  · by_cases hpp : p = p'
    · subst hpp; rw [State.port_modPort_self]; exact hl _ _ (by simpa using hn)
    · rw [State.port_modPort_of_ne s f hpp]
  · rw [State.port_modPort_of_ne s f (Ne.symm hp')]; exact ⟨rfl, rfl⟩

theorem PortUnit.lane_setPos (q : PortUnit) (x : Position) (i : Lane) : (q.setPos h x).lane i = q.lane i := by
  cases h <;> rfl

theorem PortUnit.lane_append (q : PortUnit) (e : HistEntry) (i : Lane) : (q.append e).lane i = q.lane i := by
  unfold PortUnit.append; split <;> rfl

variable (s p h)

theorem State.others_modPos (f : Position → Position) : s.OthersKept (s.modPos p h f) p h :=
  State.others_modPort (fun _ => by simp) (fun q h' hn => q.pos_setPos_of_ne _ (Ne.symm hn))
    fun q i _ => q.lane_setPos _ i

theorem State.others_setLink (l : Option Link) : s.OthersKept (s.setLink p h l) p h := s.others_modPos p h _

theorem State.others_modLink (f : Link → Link) : s.OthersKept (s.modLink p h f) p h := s.others_modPos p h _

theorem State.others_capture (r : SnapRecord) : s.OthersKept (s.capture p h r) p h := s.others_modPos p h _

theorem State.others_setResidue (r : Option Nat) : s.OthersKept (s.setResidue p h r) p h := s.others_modPos p h _

theorem State.others_log (c : Change) (r : Reason) : s.OthersKept (s.log p c r) p h :=
  State.others_modPort (fun _ => by simp) (fun q _ _ => q.pos_append _ _) fun q i _ => q.lane_append _ i

theorem State.others_post (a : Option Port) (b : Option Half) (d : Detail) : s.OthersKept (s.post a b d) p h :=
  ⟨by simp, fun p' h' _ => .inl (by simp [State.pos]), fun p' i _ => by simp, fun p' _ _ => by simp⟩

theorem State.others_postLink (a : Port) (b : Half) (d : Detail) : s.OthersKept (s.postLink a b d) p h :=
  s.others_post p h _ _ _

/-- A change of the lanes of the half's span, in their link part. -/
theorem State.others_mapHalf {f : PortUnit → Nat → LaneUnit → LaneUnit} (hf : ∀ q r x, (f q r x).bare = x.bare) :
    s.OthersKept (s.modPort p fun q => q.mapHalf h (f q)) p h :=
  State.others_modPort (fun q => PortUnit.bare_mapHalf (hf q)) (fun q h' _ => q.pos_mapHalf h _ h')
    fun q i hn => by rw [PortUnit.lane_mapHalf]; simp [hn]

/-! ### Operations of the Link Engine -/

theorem State.others_inEvent {f : State → State} (hf : ∀ t, State.OthersKept t (f t) p h) :
    s.OthersKept (s.inEvent f) p h :=
  have k := hf { s with eventLoss := some s.noticeLoss }
  ⟨congrArg (fun t : State => { t with eventLoss := s.eventLoss }) k.bare, k.positions, k.lanes, k.histories⟩

theorem State.others_withLink {f : Link → State} (hf : ∀ l, s.OthersKept (f l) p h) :
    s.OthersKept (s.withLink p h f) p h := by
  unfold State.withLink; split
  · exact hf _
  · exact .refl _ _ _

theorem State.others_applyGroup (a : LaneSet) (v : Vector (Option Nat) 8) :
    s.OthersKept (s.modPort p fun q => q.applyGroup h a v) p h := s.others_mapHalf p h fun _ _ _ => rfl

theorem State.others_releaseLanes : s.OthersKept (s.modPort p fun q => q.releaseLanes h) p h :=
  s.others_mapHalf p h fun _ _ _ => rfl

theorem State.others_clearBest : s.OthersKept (s.modPort p fun q => q.clearBest h) p h :=
  s.others_mapHalf p h fun _ _ _ => rfl

theorem State.others_choosePresets (S : LaneSet) (f : Nat → Nat) :
    s.OthersKept (s.modPort p fun q => q.choosePresets h S f) p h :=
  s.others_mapHalf p h (f := fun _ r x => if LaneSet.has S r then { x with preset := f r } else x)
    fun _ _ _ => by split <;> rfl

theorem State.others_takeGrades (S : LaneSet) : s.OthersKept (s.modPort p fun q => q.takeGrades h S) p h :=
  s.others_mapHalf p h
    (f := fun _ r x => if LaneSet.has S r then { x with best := x.heard.map fun k => k.grade } else x)
    fun _ _ _ => by split <;> rfl

theorem State.others_takeBest (t : Training) : s.OthersKept (s.modPort p fun q => q.takeBest h t) p h :=
  s.others_mapHalf p h (f := fun _ r x => if LaneSet.has t.attemptLanes r then
      match bestOf (laneAt t.grades r) t.presets with
      | some b => { x with best := some b.1, preset := b.2 }
      | none => { x with best := none, preset := presetAt t.presets 1 }
    else x) fun _ r x => by
      cases LaneSet.has t.attemptLanes r
      · rfl
      · cases bestOf (laneAt t.grades r) t.presets <;> rfl

theorem State.others_storeMove (old new : Option Link) (down hist : Reason) :
    s.OthersKept (s.storeMove p h old new down hist) p h := by
  unfold State.storeMove
  dsimp only
  have h1 : ∀ t : State, t.OthersKept (if leavesUp old new then t.modPort p fun q => q.releaseLanes h else t) p h := by
    intro t; split
    · exact t.others_releaseLanes p h
    · exact .refl _ _ _
  have h2 : ∀ t : State, t.OthersKept
      (if changesHistory old new then (t.setLink p h new).log p
        (.link h (old.map fun l => l.state) (new.map fun l => l.state)) hist else t.setLink p h new) p h := by
    intro t; split
    · exact (t.others_setLink p h _).trans (State.others_log _ p h _ _)
    · exact t.others_setLink p h _
  cases s.snapOf p h old new down with
  | none => exact (h1 s).trans (h2 _)
  | some r => exact (s.others_capture p h r).trans ((h1 _).trans (h2 _))

/-- R72: the release at one position, seen from any link. -/
theorem State.others_releasePosition (t : State) (a : Port) (b : Half) : t.OthersKept (t.releasePosition a b) p h := by
  unfold State.releasePosition State.withLink
  split
  · next l hl =>
    dsimp only
    split
    · next hd =>
      have hsnap : t.snapOf a b (some l) (some (l.toChecking t.uptime)) .peerReleased = none := by
        simp [State.snapOf, Link.toChecking, hd.1]
      have hup : leavesUp (some l) (some (l.toChecking t.uptime)) = false := by simp [leavesUp, hd.1]
      have hh : changesHistory (some l) (some (l.toChecking t.uptime)) = true := by
        simp [changesHistory, Link.toChecking, hd.1]
      have he : t.storeMove a b (some l) (some (l.toChecking t.uptime)) .peerReleased .peerReleased =
          (t.setLink a b (some (l.toChecking t.uptime))).log a
            (.link b (some l.state) (some (l.toChecking t.uptime).state)) .peerReleased := by
        simp only [State.storeMove, hsnap, hup, hh]; rfl
      rw [he]
      have hpos : ∀ p' h', ((t.setLink a b (some (l.toChecking t.uptime))).log a
            (.link b (some l.state) (some (l.toChecking t.uptime).state)) .peerReleased).pos p' h' =
          if a = p' ∧ b = h' then { t.pos a b with link := some (l.toChecking t.uptime) } else t.pos p' h' := by
        intro p' h'
        have h1 : ∀ (u : State) c r, (u.log a c r).pos p' h' = u.pos p' h' := by
          intro u c r
          simp only [State.pos, State.log, State.port_modPort]
          split
          · subst_vars; exact PortUnit.pos_append _ _ _
          · rfl
        rw [h1, State.setLink, State.pos_modPos]
      refine ⟨by simp, fun p' h' _ => ?_, fun p' i _ => ?_, fun p' _ he => ?_⟩
      · rw [hpos]
        split
        · next hc => obtain ⟨rfl, rfl⟩ := hc; exact .inr ⟨l, hl, hd.1, hd.2, rfl⟩
        · exact .inl rfl
      · simp only [State.log, State.setLink, State.modPos, State.port_modPort]
        split
        · subst_vars; simp [PortUnit.lane_append, PortUnit.lane_setPos]
        · rfl
      · have hap : a ≠ p' := by
          intro hap; subst hap
          have := he b
          rw [hpos] at this
          simp only [and_self, if_true] at this
          have h2 : some (l.toChecking t.uptime) = t.link a b := by
            rw [State.link, ← this]
          rw [hl] at h2
          have h3 := congrArg Link.state (Option.some.inj h2)
          rw [hd.1] at h3
          exact absurd h3 (by simp [Link.toChecking])
        simp only [State.log, State.setLink, State.modPos, State.port_modPort_of_ne _ _ hap]
        exact ⟨trivial, trivial⟩
    · exact .refl _ _ _
  · exact .refl _ _ _

theorem State.others_releaseDuplicates : s.OthersKept (s.releaseDuplicates p h) p h := by
  unfold State.releaseDuplicates State.forPositions
  generalize allPositions = L
  induction L generalizing s with
  | nil => exact .refl _ _ _
  | cons a L ih =>
    refine State.OthersKept.trans ?_ (ih _)
    dsimp only; split
    · exact .refl _ _ _
    · exact State.others_releasePosition p h s a.1 a.2

theorem State.others_moveLink (old new : Option Link) (down hist : Reason) :
    s.OthersKept (s.moveLink p h old new down hist) p h := by
  unfold State.moveLink; dsimp only; split
  · exact (s.others_storeMove p h _ _ _ _).trans (State.others_releaseDuplicates _ p h)
  · exact s.others_storeMove p h _ _ _ _

theorem State.others_linkDown (l new : Link) (reason hist : Reason) :
    s.OthersKept (s.linkDown p h l new reason hist) p h :=
  (s.others_moveLink p h _ _ _ _).trans (State.others_postLink _ p h _ _ _)

theorem State.others_enterChecking (l : Link) (hist : Reason) : s.OthersKept (s.enterChecking p h l hist) p h :=
  s.others_moveLink p h _ _ _ _

theorem State.others_removeLink (reason : Reason) : s.OthersKept (s.removeLink p h reason) p h :=
  s.others_withLink p h fun l => by
    dsimp only; split
    · exact (s.others_moveLink p h _ _ _ _).trans (State.others_postLink _ p h _ _ _)
    · exact s.others_moveLink p h _ _ _ _

theorem State.others_updateRegroup : s.OthersKept (s.updateRegroup p h) p h := s.others_modLink p h _

theorem State.others_setScore (n : Nat) : s.OthersKept (s.setScore p h n) p h :=
  s.others_withLink p h fun l => by
    dsimp only; split
    · exact (s.others_modLink p h _).trans (State.others_postLink _ p h _ _ _)
    · exact s.others_modLink p h _

theorem State.others_storeContext (far : Option FarId) (g : Group) : s.OthersKept (s.storeContext p h far g) p h := by
  unfold State.storeContext; split
  · exact s.others_modPos p h _
  · exact .refl _ _ _

theorem State.others_enterUp : s.OthersKept (s.enterUp p h) p h :=
  s.others_withLink p h fun l => by
    dsimp only; split
    · exact .refl _ _ _
    · exact (((((s.others_applyGroup p h _ _).trans (State.others_storeContext _ p h _ _)).trans
        (State.others_moveLink _ p h _ _ _ _)).trans (State.others_postLink _ p h _ _ _)).trans
        (State.others_setScore _ p h _)).trans (State.others_updateRegroup _ p h)

theorem State.others_alignTest : s.OthersKept (s.alignTest p h) p h :=
  s.others_withLink p h fun l => by
    split
    · exact s.others_enterUp p h
    · exact .refl _ _ _

section
variable {restart : Restart} (hr : ∀ t p h, State.OthersKept t (restart t p h) p h)
include hr

theorem State.others_countFailure (cause : Reason) : s.OthersKept (s.countFailure restart p h cause) p h :=
  s.others_withLink p h fun l => by
    dsimp only; split
    · exact ((s.others_moveLink p h _ _ _ _).trans (State.others_postLink _ p h _ _ _)).trans (hr _ _ _)
    · exact (s.others_moveLink p h _ _ _ _).trans (State.others_postLink _ p h _ _ _)

theorem State.others_alignRun : s.OthersKept (s.alignRun restart p h) p h :=
  s.others_withLink p h fun l => by
    split
    · exact s.others_countFailure p h hr _
    · exact (s.others_setLink p h _).trans (State.others_alignTest _ p h)

theorem State.others_endDeskew : s.OthersKept (s.endDeskew restart p h) p h :=
  s.others_withLink p h fun l => (s.others_setLink p h _).trans (State.others_alignRun _ p h hr)

theorem State.others_deskewTest : s.OthersKept (s.deskewTest restart p h) p h :=
  s.others_withLink p h fun l => by
    split
    · exact s.others_endDeskew p h hr
    · exact .refl _ _ _

theorem State.others_deskewDrop : s.OthersKept (s.deskewDrop restart p h) p h :=
  (s.others_modLink p h _).trans (State.others_deskewTest _ p h hr)

theorem State.others_endEqualize : s.OthersKept (s.endEqualize restart p h) p h :=
  (s.others_modLink p h _).trans (State.others_deskewTest _ p h hr)

omit hr in
theorem State.others_beginListDwell (k : Nat) : s.OthersKept (s.beginListDwell p h k) p h :=
  s.others_withLink p h fun l => (s.others_choosePresets p h _ _).trans (State.others_modLink _ p h _)

omit hr in
theorem State.others_beginRetained (c : Context) : s.OthersKept (s.beginRetained p h c) p h :=
  s.others_withLink p h fun l => (s.others_choosePresets p h _ _).trans (State.others_modLink _ p h _)

theorem State.others_beginEqualize : s.OthersKept (s.beginEqualize restart p h) p h :=
  s.others_withLink p h fun l => by
    have h1 := fun f => (s.others_clearBest p h).trans (State.others_modLink _ p h f)
    dsimp only; split
    · exact (h1 _).trans (State.others_endEqualize _ p h hr)
    · split
      · exact (h1 _).trans (State.others_beginRetained _ p h _)
      · exact (h1 _).trans (State.others_beginListDwell _ p h _)

theorem State.others_endRetained : s.OthersKept (s.endRetained restart p h) p h :=
  s.others_withLink p h fun l => by
    split
    · exact (s.others_takeGrades p h _).trans (State.others_endEqualize _ p h hr)
    · exact (s.others_clearBest p h).trans (State.others_beginListDwell _ p h _)

theorem State.others_endListDwell (k : Nat) : s.OthersKept (s.endListDwell restart p h k) p h :=
  s.others_withLink p h fun l => by
    dsimp only; split
    · exact (s.others_modLink p h _).trans (State.others_beginListDwell _ p h _)
    · exact (s.others_modLink p h _).trans (State.others_withLink _ p h fun l =>
        (State.others_takeBest _ p h _).trans (State.others_endEqualize _ p h hr))
end

theorem State.others_enterTraining (l : Link) : s.OthersKept (s.enterTraining p h l) p h :=
  (s.others_moveLink p h _ _ _ _).trans (State.others_beginEqualize _ p h fun _ _ _ => .refl _ _ _)

theorem State.others_startTest : s.OthersKept (s.startTest p h) p h :=
  s.others_withLink p h fun l => by
    split
    · exact s.others_enterTraining p h l
    · exact .refl _ _ _

theorem State.others_restartByTest (t : State) (p : Port) (h : Half) : t.OthersKept (restartByTest t p h) p h :=
  t.others_startTest p h

theorem State.others_adoptUp (l : Link) (old new : Group) : s.OthersKept (s.adoptUp p h l old new) p h :=
  ((s.others_setLink p h _).trans (State.others_applyGroup _ p h _ _)).trans (State.others_postLink _ p h _ _ _)

theorem State.others_loseLanes (reason : Reason) : s.OthersKept (s.loseLanes p h reason) p h :=
  s.others_withLink p h fun l => s.others_linkDown p h _ _ _ _

theorem State.others_upRun (reason : Reason) : s.OthersKept (s.upRun p h reason) p h :=
  s.others_withLink p h fun l => by
    split
    · exact s.others_loseLanes p h _
    · dsimp only
      refine State.OthersKept.trans ?_ (State.others_updateRegroup _ p h)
      split
      · split
        · exact s.others_setLink p h _
        · exact s.others_adoptUp p h _ _ _
      · exact s.others_setLink p h _

theorem State.others_recheckTest : s.OthersKept (s.recheckTest p h) p h :=
  s.others_withLink p h fun l => by
    split
    · dsimp only; split
      · exact (s.others_setLink p h _).trans (State.others_applyGroup _ p h _ _)
      · exact (s.others_setLink p h _).trans (State.others_upRun _ p h _)
    · exact .refl _ _ _

theorem State.others_upProtocol : s.OthersKept (s.upProtocol p h) p h :=
  s.others_inEvent p h fun t => (t.others_upRun p h _).trans (State.others_recheckTest _ p h)

theorem State.others_beginRecheck : s.OthersKept (s.beginRecheck p h) p h :=
  (s.others_modLink p h _).trans (State.others_recheckTest _ p h)

theorem State.others_enterIsolated (old : Option Link) (new : Link) (down hist : Reason) {f : State → State}
    (hf : ∀ t, State.OthersKept t (f t) p h) : s.OthersKept (s.enterIsolated p h old new down hist f) p h :=
  ((s.others_moveLink p h _ _ _ _).trans (hf _)).trans (State.others_postLink _ p h _ _ _)

theorem State.others_verdictContext (o : Obs) : s.OthersKept (s.verdictContext p h o) p h := s.others_modPos p h _

theorem State.others_giveVerdict (old : Option Link) (l : Link) (hist : Option Reason) :
    s.OthersKept (s.giveVerdict p h old l hist) p h := by
  unfold State.giveVerdict; dsimp only; split
  · exact ((s.others_verdictContext p h _).trans (State.others_moveLink _ p h _ _ _ _)).trans
      (State.others_postLink _ p h _ _ _)
  · split
    · split
      · exact ((s.others_verdictContext p h _).trans (State.others_moveLink _ p h _ _ _ _)).trans
          (State.others_postLink _ p h _ _ _)
      · exact (((s.others_verdictContext p h _).trans (State.others_moveLink _ p h _ _ _ _)).trans
          (State.others_postLink _ p h _ _ _)).trans (State.others_startTest _ p h)
    · exact ((s.others_verdictContext p h _).trans (State.others_setResidue _ p h _)).trans
        (State.others_enterIsolated _ p h _ _ _ _ fun t => t.others_postLink p h _ _ _)

theorem State.others_createLink : s.OthersKept (s.createLink p h) p h := s.others_giveVerdict p h _ _ _

theorem State.others_endChecking : s.OthersKept (s.endChecking p h) p h :=
  s.others_withLink p h fun l => by
    split
    · exact s.others_giveVerdict p h _ _ _
    · exact .refl _ _ _

theorem State.others_reevaluateHolder (l : Link) : s.OthersKept (s.reevaluateHolder p h l) p h := by
  have hr : ∀ (t : State) p h, t.OthersKept ((fun (t : State) p h => t.startTest p h) t p h) p h := fun t p h =>
    t.others_startTest p h
  unfold State.reevaluateHolder; dsimp only; split
  · have h1 := fun new a b d => ((s.others_verdictContext p h ((s.port p).observe h)).trans
      (State.others_moveLink _ p h (some l) new a b)).trans (State.others_postLink _ p h p h d)
    split
    · exact (h1 _ _ _ _).trans (State.others_postLink _ p h _ _ _)
    · exact h1 _ _ _ _
  · have h1 := fun k d => ((s.others_verdictContext p h ((s.port p).observe h)).trans
      (State.others_setLink _ p h k)).trans (State.others_postLink _ p h p h d)
    split
    · exact (h1 _ _).trans (State.others_startTest _ p h)
    · exact (h1 _ _).trans (State.others_upProtocol _ p h)
    · split
      · exact (h1 _ _).trans (State.others_deskewDrop _ p h hr)
      · exact (h1 _ _).trans (State.others_alignRun _ p h hr)
      · exact h1 _ _
    · exact h1 _ _

theorem State.others_reevaluate : s.OthersKept (s.reevaluate p h) p h :=
  s.others_withLink p h fun l => by
    split
    · exact .refl _ _ _
    · exact .refl _ _ _
    · exact s.others_giveVerdict p h _ _ _
    · exact s.others_reevaluateHolder p h l

theorem State.others_retag : s.OthersKept (s.retag p h) p h :=
  s.others_withLink p h fun l => by
    split
    · exact s.others_giveVerdict p h _ _ _
    · exact .refl _ _ _

theorem State.others_isolateByHealth : s.OthersKept (s.isolateByHealth p h) p h :=
  s.others_withLink p h fun l => s.others_enterIsolated p h _ _ _ _ fun t => t.others_postLink p h _ _ _

theorem State.others_isolateByHost (l : Link) : s.OthersKept (s.isolateByHost p h l) p h := by
  have hf : ∀ t : State, t.OthersKept (if l.live then t.postLink p h (l.downNotice .hostIsolate) else t) p h := by
    intro t; split
    · exact t.others_postLink p h _ _ _
    · exact .refl _ _ _
  exact State.others_enterIsolated s p h _ _ _ _
    (f := fun u => if l.live then u.postLink p h (l.downNotice .hostIsolate) else u) hf

theorem State.others_endRecovery : s.OthersKept (s.endRecovery p h) p h :=
  s.others_withLink p h fun l => by
    dsimp only; split
    · exact ((s.others_verdictContext p h _).trans (State.others_moveLink _ p h _ _ _ _)).trans
        (State.others_postLink _ p h _ _ _)
    · split
      · exact ((((s.others_verdictContext p h _).trans (State.others_moveLink _ p h _ _ _ _)).trans
          (State.others_postLink _ p h _ _ _)).trans (State.others_postLink _ p h _ _ _)).trans
          (State.others_startTest _ p h)
      · exact ((s.others_verdictContext p h _).trans (State.others_setResidue _ p h _)).trans
          (State.others_enterIsolated _ p h _ _ _ _ fun t => t.others_postLink p h _ _ _)

theorem State.others_probe : s.OthersKept (s.probe p h) p h :=
  s.others_withLink p h fun l => by
    dsimp only; split
    · exact (s.others_setLink p h _).trans (State.others_endRecovery _ p h)
    · exact s.others_setLink p h _

theorem State.others_scoreTo (n : Nat) : s.OthersKept (s.scoreTo p h n) p h := by
  unfold State.scoreTo; split
  · exact s.others_isolateByHealth p h
  · exact s.others_setScore p h n

theorem State.others_judgeInterval (v : Vector Nat 8) : s.OthersKept (s.judgeInterval p h v) p h :=
  s.others_withLink p h fun l => by
    split
    · exact .refl _ _ _
    · split
      · exact s.others_modLink p h _
      · dsimp only; split <;> exact (s.others_modLink p h _).trans (State.others_scoreTo _ p h _)

theorem State.others_lockLostAt (r : Nat) : s.OthersKept (s.lockLostAt p h r) p h := by
  unfold State.lockLostAt; dsimp only
  refine (s.others_modLink p h _).trans (State.others_withLink _ p h fun l => ?_)
  split
  · exact .refl _ _ _
  · split
    · exact State.others_isolateByHealth _ p h
    · refine State.others_inEvent _ p h fun t => State.OthersKept.trans ?_
        ((State.others_modLink _ p h _).trans (State.others_upProtocol _ p h))
      split
      · exact State.others_setScore _ p h _
      · exact .refl _ _ _

theorem State.others_farEndChange (l : Link) (n : LaneId) : s.OthersKept (s.farEndChange p h l n) p h :=
  (s.others_linkDown p h _ _ _ _).trans (State.others_postLink _ p h _ _ _)

theorem State.others_farEndLeft (l : Link) : s.OthersKept (s.farEndLeft p h l) p h :=
  (s.others_linkDown p h _ _ _ _).trans (State.others_startTest _ p h)

theorem State.others_trainingEvent (l : Link) (x : LaneItems) : s.OthersKept (s.trainingEvent p h l x) p h := by
  unfold State.trainingEvent; split
  · exact s.others_farEndLeft p h l
  · split
    · exact s.others_deskewDrop p h State.others_restartByTest
    · split
      · exact s.others_alignRun p h State.others_restartByTest
      · split
        · exact s.others_alignTest p h
        · exact .refl _ _ _
    · exact .refl _ _ _

theorem State.others_upEvent (l : Link) (x : LaneItems) : s.OthersKept (s.upEvent p h l x) p h := by
  unfold State.upEvent; split
  · exact s.others_farEndLeft p h l
  · split
    · exact s.others_upProtocol p h
    · exact .refl _ _ _

theorem State.others_linkEvent (r : Nat) (x : LaneItems) (n : Option LaneId) :
    s.OthersKept (s.linkEvent p h r x n) p h :=
  s.others_withLink p h fun l => by
    split
    · exact s.others_setLink p h _
    · split
      · exact s.others_enterChecking p h l _
      · split
        · exact s.others_enterChecking p h l _
        · split
          · exact s.others_startTest p h
          · exact .refl _ _ _
    · split
      · exact .refl _ _ _
      · exact s.others_enterChecking p h l _
    · split
      · exact s.others_farEndChange p h l _
      · exact s.others_trainingEvent p h l x
    · split
      · exact s.others_farEndChange p h l _
      · exact s.others_upEvent p h l x
    · exact s.others_setLink p h _

theorem State.others_stampEvent (r v : Nat) : s.OthersKept (s.stampEvent p h r v) p h :=
  s.others_withLink p h fun l => by
    split
    · exact (s.others_modLink p h _).trans (State.others_deskewTest _ p h State.others_restartByTest)
    · split
      · exact (s.others_modLink p h _).trans (State.others_recheckTest _ p h)
      · exact .refl _ _ _

theorem State.others_badMarkEvent (r : Nat) : s.OthersKept (s.badMarkEvent p h r) p h := s.others_modLink p h _

end Sys2Proof.Machine
end

