-- ==== Sys2Proof/Laws/Moves.lean ====
section
/-! SUPPORT. What a change of link state does, said once: the release of R72 at every other position, the history
entries and the capture (`State.acts_moveLink`), which a notice after it keeps (`State.ActsAt.post`). -/

namespace Sys2Proof.Machine

open Sys2Proof

/-! ### Histories -/

/-- What appends leave of history and wrapped flag depends on these two alone. -/
theorem PortUnit.foldl_append_congr (E : List HistEntry) {q r : PortUnit} (hh : q.history = r.history)
    (hw : q.wrapped = r.wrapped) :
    (E.foldl PortUnit.append q).history = (E.foldl PortUnit.append r).history ∧
      (E.foldl PortUnit.append q).wrapped = (E.foldl PortUnit.append r).wrapped := by
  induction E generalizing q r with
  | nil => exact ⟨hh, hw⟩
  | cons e E ih =>
    refine ih ?_ ?_ <;> unfold PortUnit.append <;> rw [hh] <;> split <;> simp [hw]

theorem State.Appended.refl (s : State) (p : Port) : s.Appended s p [] := ⟨rfl, rfl⟩

/-- Appends to one port's history chain. -/
theorem State.Appended.trans {s t u : State} {p : Port} {E F : List HistEntry} (h1 : s.Appended t p E)
    (h2 : t.Appended u p F) : s.Appended u p (E ++ F) := by
  have k := PortUnit.foldl_append_congr F h1.1 h1.2
  unfold State.Appended
  rw [List.foldl_append]
  exact ⟨h2.1.trans k.1, h2.2.trans k.2⟩

theorem State.appended_log (s : State) (p : Port) (c : Change) (r : Reason) :
    s.Appended (s.log p c r) p [⟨s.uptime, c, r⟩] := by
  simp [State.Appended, State.log]

/-- Two states with the same ports have the same histories. -/
theorem State.Appended.of_port {s t : State} {p : Port} (h : t.port p = s.port p) : s.Appended t p [] := by
  simp [State.Appended, h]

/-! ### The release at one position -/

theorem Position.released_of_not_waits {x : Position} {now : Uptime} (h : x.waits = false) : x.released now = x := by
  simp [Position.released, h]

theorem Position.waits_iff (x : Position) :
    x.waits = true ↔ ∃ l, x.link = some l ∧ l.state = .blocked ∧ l.reason = some .duplicatePeer := by
  cases hx : x.link <;> simp [Position.waits, hx]

/-- A released position waits no more. -/
theorem Position.waits_released (x : Position) (now : Uptime) : (x.released now).waits = false := by
  unfold Position.released
  split
  · cases hx : x.link <;> simp [Position.waits, Link.toChecking]
  · simpa using ‹¬ x.waits = true›

theorem State.releasePosition_of_not_waits (s : State) {a : Port} {b : Half} (h : (s.pos a b).waits = false) :
    s.releasePosition a b = s := by
  unfold State.releasePosition State.withLink
  split
  · next l hl =>
    refine if_neg fun hd => ?_
    rw [(Position.waits_iff _).mpr ⟨l, hl, hd⟩] at h
    cases h
  · rfl

theorem State.releasePosition_of_waits (s : State) {a : Port} {b : Half} (h : (s.pos a b).waits = true) :
    s.releasePosition a b = (s.modPos a b fun x => x.released s.uptime).log a
      (.link b (some .blocked) (some .checking)) .peerReleased := by
  obtain ⟨l, hl, hs, hr⟩ := (Position.waits_iff _).mp h
  have hsnap : s.snapOf a b (some l) (some (l.toChecking s.uptime)) .peerReleased = none := by
    simp [State.snapOf, Link.toChecking, hs]
  have hup : leavesUp (some l) (some (l.toChecking s.uptime)) = false := by simp [leavesUp, hs]
  have hh : changesHistory (some l) (some (l.toChecking s.uptime)) = true := by
    simp [changesHistory, Link.toChecking, hs]
  have hset : s.setLink a b (some (l.toChecking s.uptime)) = s.modPos a b fun x => x.released s.uptime := by
    have : (s.pos a b).released s.uptime = { s.pos a b with link := some (l.toChecking s.uptime) } := by
      rw [Position.released, if_pos h, hl]; rfl
    simp only [State.setLink, State.modPos, State.modPort]
    exact congrArg (fun x => s.setPort a ((s.port a).setPos b x)) this.symm
  unfold State.releasePosition State.withLink
  rw [show s.link a b = some l from hl]
  simp only [hs, hr, and_self, if_true, State.storeMove, hsnap, hup, hh, Option.map, Bool.false_eq_true, if_false,
    hset]
  rfl

/-- R72: the release at one position, at every position. -/
theorem State.pos_releasePosition (s : State) (a p' : Port) (b h' : Half) : (s.releasePosition a b).pos p' h' =
    if a = p' ∧ b = h' then (s.pos p' h').released s.uptime else s.pos p' h' := by
  by_cases hw : (s.pos a b).waits = true
  · rw [s.releasePosition_of_waits hw]
    have : ∀ (u : State) c r, (u.log a c r).pos p' h' = u.pos p' h' := fun u c r => by
      simp only [State.pos, State.log, State.port_modPort]
      split
      · subst_vars; exact PortUnit.pos_append _ _ _
      · rfl
    rw [this, State.pos_modPos]
    split
    · next hc => obtain ⟨rfl, rfl⟩ := hc; rfl
    · rfl
  · have hw : (s.pos a b).waits = false := by simpa using hw
    rw [s.releasePosition_of_not_waits hw]
    split
    · next hc => obtain ⟨rfl, rfl⟩ := hc; rw [Position.released_of_not_waits hw]
    · rfl

/-- R154: the release at one position, in every history. -/
theorem State.appended_releasePosition (s : State) (a p' : Port) (b : Half) : s.Appended (s.releasePosition a b) p'
    (if a = p' ∧ (s.pos a b).waits = true then [s.moved b (some .blocked) (some .checking) .peerReleased] else []) := by
  by_cases hw : (s.pos a b).waits = true
  · rw [s.releasePosition_of_waits hw]
    by_cases hp : a = p'
    · subst hp
      simp only [hw, and_self, if_true, State.moved]
      have h1 : s.Appended (s.modPos a b fun x => x.released s.uptime) a [] := by
        cases b <;> simp [State.Appended, State.modPos, PortUnit.setPos]
      exact h1.trans (State.appended_log _ a _ _)
    · simp only [hp, false_and, if_false]
      exact .of_port (by simp only [State.log, State.modPos, State.port_modPort_of_ne _ _ hp])
  · rw [s.releasePosition_of_not_waits (by simpa using hw)]
    rw [if_neg fun c => hw c.2]
    exact .refl s p'

@[simp] theorem State.uptime_releasePosition (s : State) (a : Port) (b : Half) :
    (s.releasePosition a b).uptime = s.uptime :=
  State.uptime_of_bare (State.others_releasePosition a b s a b).bare

/-! ### The release of R72 -/

/-- R72: the release as one fold over the positions. -/
theorem State.release_fold (s t : State) (p : Port) (h : Half) (L : List (Port × Half)) (hL : L.Nodup)
    (ht : t = L.foldl (fun t x => if x.1 = p ∧ x.2 = h then t else t.releasePosition x.1 x.2) s) :
    (∀ p' h', t.pos p' h' = if (p', h') ∈ L ∧ ¬ (p' = p ∧ h' = h) then (s.pos p' h').released s.uptime
      else s.pos p' h') ∧
    ∀ p', s.Appended t p' ((L.filter fun x => decide (x.1 = p') && ((x != (p, h)) && (s.pos x.1 x.2).waits)).map
      fun x => s.moved x.2 (some .blocked) (some .checking) .peerReleased) := by
  induction L generalizing s t with
  | nil => subst ht; exact ⟨fun p' h' => by simp, fun p' => .refl _ p'⟩
  | cons a L ih =>
    obtain ⟨ha, hL⟩ := List.nodup_cons.mp hL
    rw [List.foldl_cons] at ht
    by_cases hs : a.1 = p ∧ a.2 = h
    · rw [if_pos hs] at ht
      have hap : a = (p, h) := Prod.ext hs.1 hs.2
      obtain ⟨i1, i2⟩ := ih s t hL ht
      refine ⟨fun p' h' => ?_, fun p' => ?_⟩
      · rw [i1]
        have : ((p', h') ∈ a :: L ∧ ¬ (p' = p ∧ h' = h)) ↔ ((p', h') ∈ L ∧ ¬ (p' = p ∧ h' = h)) := by
          simp only [List.mem_cons, hap, Prod.mk.injEq]; tauto
        simp only [this]
      · simpa [List.filter_cons, hap] using i2 p'
    · rw [if_neg hs] at ht
      have hap : a ≠ (p, h) := fun c => hs ⟨congrArg Prod.fst c, congrArg Prod.snd c⟩
      obtain ⟨i1, i2⟩ := ih _ t hL ht
      have hu := s.uptime_releasePosition a.1 a.2
      refine ⟨fun p' h' => ?_, fun p' => ?_⟩
      · rw [i1, hu, State.pos_releasePosition]
        by_cases hc : a.1 = p' ∧ a.2 = h'
        · have hac : a = (p', h') := Prod.ext hc.1 hc.2
          subst hac
          simp [ha, hs]
        · have hac : (p', h') ≠ a := fun c => hc ⟨congrArg Prod.fst c.symm, congrArg Prod.snd c.symm⟩
          simp [hc, hac]
      · have hf : (L.filter fun x => decide (x.1 = p') &&
            ((x != (p, h)) && ((s.releasePosition a.1 a.2).pos x.1 x.2).waits)) =
            L.filter fun x => decide (x.1 = p') && ((x != (p, h)) && (s.pos x.1 x.2).waits) := by
          refine List.filter_congr fun x hx => ?_
          have hxa : ¬ (a.1 = x.1 ∧ a.2 = x.2) := fun c => ha ((Prod.ext c.1 c.2 : a = x) ▸ hx)
          rw [State.pos_releasePosition, if_neg hxa]
        have i3 := i2 p'
        rw [hf] at i3
        simp only [State.moved, hu] at i3
        have i4 := (s.appended_releasePosition a.1 p' a.2).trans i3
        by_cases hp : a.1 = p'
        · subst hp
          by_cases hw : (s.pos a.1 a.2).waits = true
          · simpa [List.filter_cons, hap, hw, State.moved] using i4
          · simpa [List.filter_cons, hap, hw, State.moved] using i4
        · simpa [List.filter_cons, hp, State.moved] using i4

theorem allPositions_of (p : Port) : (allPositions.filter fun x => decide (x.1 = p)) = [(p, .A), (p, .B)] := by
  revert p; decide

theorem mem_allPositions (p : Port) (h : Half) : (p, h) ∈ allPositions := by
  revert p; cases h <;> decide

/-- R72: every other waiting link enters CHECKING. -/
theorem State.pos_releaseDuplicates (s : State) (p p' : Port) (h h' : Half) : (s.releaseDuplicates p h).pos p' h' =
    if p' = p ∧ h' = h then s.pos p' h' else (s.pos p' h').released s.uptime := by
  rw [(State.release_fold s (s.releaseDuplicates p h) p h allPositions (by decide) rfl).1]
  simp only [mem_allPositions, true_and]
  split <;> simp_all

/-- R72, R154: the histories of the release. -/
theorem State.appended_releaseDuplicates (s : State) (p p' : Port) (h : Half) :
    s.Appended (s.releaseDuplicates p h) p' (s.releaseEntries p h p') := by
  have k := (State.release_fold s (s.releaseDuplicates p h) p h allPositions (by decide) rfl).2 p'
  rw [← List.filter_filter, List.filter_comm, allPositions_of] at k
  refine (congrArg (s.Appended (s.releaseDuplicates p h) p') ?_).mp k
  simp only [State.releaseEntries, List.filter_cons, List.filter_nil]
  split <;> split <;> rfl

/-! ### A change of link state -/

theorem State.appended_modPos (s : State) (p p' : Port) (h : Half) (f : Position → Position) :
    s.Appended (s.modPos p h f) p' [] := by
  simp only [State.Appended, State.modPos, State.port_modPort, List.foldl_nil]
  split
  · subst_vars; cases h <;> exact ⟨rfl, rfl⟩
  · exact ⟨rfl, rfl⟩

theorem State.pos_log (s : State) (p p' : Port) (h' : Half) (c : Change) (r : Reason) :
    (s.log p c r).pos p' h' = s.pos p' h' := by
  simp only [State.pos, State.log, State.port_modPort]
  split
  · subst_vars; exact PortUnit.pos_append _ _ _
  · rfl

/-- The three parts of a change of link state: the record at its position, the other positions, the histories. -/
theorem State.storeMove_spec (s : State) (p : Port) (h : Half) (old new : Option Link) (down hist : Reason) :
    (∀ p' h', (s.storeMove p h old new down hist).pos p' h' = if p = p' ∧ h = h' then
      { s.pos p h with link := new, snap := (s.pos p h).snap.after (s.snapOf p h old new down) } else s.pos p' h') ∧
    ∀ p', s.Appended (s.storeMove p h old new down hist) p' (if p' = p then
      (if changesHistory old new then
        [s.moved h (old.map fun l => l.state) (new.map fun l => l.state) hist] else []) else []) := by
  obtain ⟨u, hu⟩ : ∃ u, u = (match s.snapOf p h old new down with
    | some r => s.capture p h r
    | none => s) := ⟨_, rfl⟩
  obtain ⟨v, hv⟩ : ∃ v, v = (if leavesUp old new then u.modPort p fun q => q.releaseLanes h else u) := ⟨_, rfl⟩
  have u1 : ∀ p' h', u.pos p' h' = if p = p' ∧ h = h' then
      { s.pos p h with snap := (s.pos p h).snap.after (s.snapOf p h old new down) } else s.pos p' h' := by
    intro p' h'
    subst hu
    cases s.snapOf p h old new down with
    | none =>
      dsimp only [Snapshot.after]
      split
      · next hc => obtain ⟨rfl, rfl⟩ := hc; rfl
      · rfl
    | some r => exact s.pos_modPos p p' h h' _
  have u2 : ∀ p', s.Appended u p' [] := by
    intro p'
    subst hu
    cases s.snapOf p h old new down with
    | none => exact .refl s p'
    | some r => exact s.appended_modPos p p' h _
  have u3 : u.uptime = s.uptime := by
    subst hu
    cases s.snapOf p h old new down <;> rfl
  have v1 : ∀ p' h', v.pos p' h' = u.pos p' h' := by
    intro p' h'
    subst hv
    split
    · simp only [State.pos, State.port_modPort]
      split
      · subst_vars; exact PortUnit.pos_mapHalf _ _ _ _
      · rfl
    · rfl
  have v2 : ∀ p', u.Appended v p' [] := by
    intro p'
    subst hv
    split
    · simp only [State.Appended, State.port_modPort, List.foldl_nil]
      split
      · subst_vars; exact ⟨rfl, rfl⟩
      · exact ⟨rfl, rfl⟩
    · exact .refl u p'
  have v3 : v.uptime = s.uptime := by
    subst hv
    split <;> exact u3
  have w1 : ∀ p' h', (v.setLink p h new).pos p' h' = if p = p' ∧ h = h' then
      { s.pos p h with link := new, snap := (s.pos p h).snap.after (s.snapOf p h old new down) }
      else s.pos p' h' := by
    intro p' h'
    rw [State.setLink, State.pos_modPos, v1, v1, u1, u1]
    simp only [and_self, if_true]
    split <;> rfl
  have w2 : ∀ p', s.Appended (v.setLink p h new) p' [] := fun p' =>
    ((u2 p').trans (v2 p')).trans (v.appended_modPos p p' h _)
  have he : s.storeMove p h old new down hist = if changesHistory old new then
      (v.setLink p h new).log p (.link h (old.map fun l => l.state) (new.map fun l => l.state)) hist
      else v.setLink p h new := by
    subst hv hu; rfl
  rw [he]
  split
  · refine ⟨fun p' h' => (State.pos_log _ p p' h' _ _).trans (w1 p' h'), fun p' => ?_⟩
    by_cases hp : p' = p
    · subst hp
      have k := (w2 p').trans (State.appended_log (v.setLink p' h new) p'
        (.link h (old.map fun l => l.state) (new.map fun l => l.state)) hist)
      simpa [State.moved, State.setLink, State.modPos, State.modPort, State.setPort, v3] using k
    · rw [if_neg hp]
      refine (w2 p').trans (.of_port ?_)
      simp only [State.log, State.port_modPort_of_ne _ _ (Ne.symm hp)]
  · exact ⟨w1, fun p' => by simpa using w2 p'⟩

/-- A change of link state leaves the new record. -/
theorem State.link_moveLink (s : State) (p : Port) (h : Half) (old new : Option Link) (down hist : Reason) :
    (s.moveLink p h old new down hist).link p h = new := by
  have k := (s.storeMove_spec p h old new down hist).1 p h
  simp only [and_self, if_true] at k
  unfold State.moveLink State.link
  dsimp only
  split
  · rw [State.pos_releaseDuplicates, if_pos ⟨rfl, rfl⟩, k]
  · rw [k]

/-- R69, R72, R151, R154: what a change of link state does: its release, its history entries and its capture. -/
theorem State.acts_moveLink {s : State} {p : Port} {h : Half} {old : Option Link} (ho : s.link p h = old)
    (new : Option Link) (down hist : Reason) :
    s.ActsAt (s.moveLink p h old new down hist) p h
      (if changesHistory old new then
        [s.moved h (old.map fun l => l.state) (new.map fun l => l.state) hist] else [])
      (s.snapOf p h old new down) := by
  obtain ⟨k1, k2⟩ := s.storeMove_spec p h old new down hist
  have hd : s.departs (s.moveLink p h old new down hist) p h = (holds old && !holds new) := by
    rw [State.departs, ho, State.link_moveLink]
  have hu : (s.storeMove p h old new down hist).uptime = s.uptime :=
    State.uptime_of_bare (s.others_storeMove p h old new down hist).bare
  have hn : ∀ p' h', ¬ (p' = p ∧ h' = h) → (s.storeMove p h old new down hist).pos p' h' = s.pos p' h' :=
    fun p' h' c => (k1 p' h').trans (if_neg fun d => c ⟨d.1.symm, d.2.symm⟩)
  have hm : s.moveLink p h old new down hist = if holds old && !holds new then
      (s.storeMove p h old new down hist).releaseDuplicates p h else s.storeMove p h old new down hist := rfl
  have k3 := congrArg Position.snap (k1 p h)
  simp only [and_self, if_true] at k3
  refine ⟨s.others_moveLink p h old new down hist, fun p' h' c => ?_, fun p' => ?_, ?_⟩
  · rw [hd, hm]
    cases holds old && !holds new
    · simpa using hn p' h' c
    · simp only [if_true, State.pos_releaseDuplicates, c, if_false, hu, hn p' h' c]
  · rw [hd, hm]
    cases holds old && !holds new
    · simpa using k2 p'
    · simp only [if_true]
      refine (k2 p').trans ?_
      have he : (s.storeMove p h old new down hist).releaseEntries p h p' = s.releaseEntries p h p' := by
        unfold State.releaseEntries State.moved
        rw [hu]
        congr 1
        refine List.filter_congr fun x _ => ?_
        by_cases hx : p' = p ∧ x = h
        · obtain ⟨rfl, rfl⟩ := hx; simp
        · rw [hn p' x hx]
      rw [← he]
      exact State.appended_releaseDuplicates _ p p' h
  · rw [hm]
    cases holds old && !holds new
    · simpa using k3
    · simp only [if_true, State.pos_releaseDuplicates, and_self]
      exact k3

/-- A notice posted after it changes none of this. -/
theorem State.ActsAt.post {s t : State} {p : Port} {h : Half} {own : List HistEntry} {cap : Option SnapRecord}
    (k : s.ActsAt t p h own cap) (a : Option Port) (b : Option Half) (d : Detail) :
    s.ActsAt (t.post a b d) p h own cap := by
  have hp : ∀ p' h', (t.post a b d).pos p' h' = t.pos p' h' := fun p' h' => by simp [State.pos]
  have hd : s.departs (t.post a b d) p h = s.departs t p h := by simp [State.departs]
  refine ⟨k.others.trans (t.others_post p h a b d), fun p' h' c => ?_, fun p' => ?_, ?_⟩
  · rw [hp, hd]; exact k.peers p' h' c
  · rw [hd]
    simpa [State.Appended] using k.histories p'
  · rw [hp]; exact k.snap

theorem State.ActsAt.postLink {s t : State} {p : Port} {h : Half} {own : List HistEntry} {cap : Option SnapRecord}
    (k : s.ActsAt t p h own cap) (a : Port) (b : Half) (d : Detail) : s.ActsAt (t.postLink a b d) p h own cap :=
  k.post _ _ _

end Sys2Proof.Machine
end

