-- ==== Sys2Proof/Laws/Notices.lean ====
section
/-! SUPPORT. The Notice Unit: what a post, an append and a capture attempt do, and the bounds they keep
(R145, R147, R151, R154). -/

namespace Sys2Proof.Machine

open Sys2Proof

/-- R147: a notice is appended while there is room, else counted; nothing else changes. -/
theorem State.enqueue_cases (s : State) (n : Notice) :
    (s.queue.length < 64 ∧ s.enqueue n = { s with queue := s.queue ++ [n] }) ∨
      (64 ≤ s.queue.length ∧ s.enqueue n = { s with overrun := min 255 (s.overrun + 1) }) := by
  unfold State.enqueue satAdd
  split
  · next h => exact .inl ⟨h, rfl⟩
  · next h => exact .inr ⟨by omega, rfl⟩

/-- R145: a posted notice is offered to the queue or refused. -/
theorem State.post_cases (s : State) (p : Option Port) (h : Option Half) (d : Detail) :
    s.post p h d = s ∨ s.post p h d = s.enqueue ⟨p, h, s.uptime, d⟩ := by
  unfold State.post; dsimp only; split
  · exact .inr rfl
  · exact .inl rfl

/-- R147: the queue and the overrun count keep their limits. -/
theorem State.enqueue_bounds {s : State} (n : Notice) (h : s.queue.length ≤ 64 ∧ s.overrun ≤ 255) :
    (s.enqueue n).queue.length ≤ 64 ∧ (s.enqueue n).overrun ≤ 255 := by
  rcases s.enqueue_cases n with ⟨h1, h2⟩ | ⟨h1, h2⟩ <;> rw [h2]
  · refine ⟨?_, h.2⟩
    simp only [List.length_append, List.length_cons, List.length_nil]; omega
  · exact ⟨h.1, by dsimp only; omega⟩

theorem State.post_bounds {s : State} (p : Option Port) (k : Option Half) (d : Detail)
    (h : s.queue.length ≤ 64 ∧ s.overrun ≤ 255) :
    (s.post p k d).queue.length ≤ 64 ∧ (s.post p k d).overrun ≤ 255 := by
  rcases s.post_cases p k d with h2 | h2 <;> rw [h2]
  · exact h
  · exact State.enqueue_bounds _ h

/-- R154: an append keeps a history within 8 entries, full whenever it has wrapped. -/
theorem PortUnit.append_bounds {q : PortUnit} (e : HistEntry)
    (h : q.history.length ≤ 8 ∧ (q.wrapped = true → q.history.length = 8)) :
    (q.append e).history.length ≤ 8 ∧ ((q.append e).wrapped = true → (q.append e).history.length = 8) := by
  unfold PortUnit.append
  split
  · next h1 =>
    simp only [List.length_append, List.length_cons, List.length_nil]
    exact ⟨by omega, fun hw => absurd (h.2 hw) (by omega)⟩
  · next h1 =>
    simp only [List.length_append, List.length_drop, List.length_cons, List.length_nil]
    exact ⟨by omega, fun _ => by omega⟩

/-- R151: what a capture attempt does by the snapshot's mode. -/
theorem Snapshot.attempt_cases (x : Snapshot) (r : SnapRecord) :
    (x.mode = .off ∧ x.attempt r = x) ∨ (x.mode = .once ∧ x.attempt r = ⟨.off, some r⟩) ∨
      (x.mode = .every ∧ x.attempt r = ⟨.every, some r⟩) := by
  unfold Snapshot.attempt
  cases h : x.mode <;> simp

end Sys2Proof.Machine
end

