-- ==== Sys2Proof/Laws/Sets.lean ====
section
/-! SUPPORT. Membership of lane sets, and what the selection rule gives (R78, R79). -/

namespace Sys2Proof.Machine

open Sys2Proof

theorem has_laneBit {k : Nat} (hk : k < 8) (b : Bool) (r : Nat) :
    BitVec.getLsbD (laneBit k b) r = (b && decide (r = k)) := by
  unfold laneBit
  cases b
  · simp
  · simp only [if_true, BitVec.getLsbD_shiftLeft, BitVec.getLsbD_one, Bool.true_and]
    by_cases h : r = k
    · subst h; simp [hk]
    · by_cases h' : r < k
      · simp [h', h]
      · have : ¬ r - k = 0 := by omega
        simp [h, this]

/-- A lane is a member of the set of a condition exactly when it meets it. -/
theorem has_laneSet (f : Nat → Bool) (r : Nat) : LaneSet.has (laneSet f) r = (decide (r < 8) && f r) := by
  by_cases h : r < 8
  · simp only [LaneSet.has, laneSet, BitVec.getLsbD_or, has_laneBit (by decide : (0:Nat) < 8),
      has_laneBit (by decide : (1:Nat) < 8), has_laneBit (by decide : (2:Nat) < 8),
      has_laneBit (by decide : (3:Nat) < 8), has_laneBit (by decide : (4:Nat) < 8),
      has_laneBit (by decide : (5:Nat) < 8), has_laneBit (by decide : (6:Nat) < 8),
      has_laneBit (by decide : (7:Nat) < 8)]
    interval_cases r <;> simp
  · simp only [LaneSet.has, h, decide_false, Bool.false_and]
    exact BitVec.getLsbD_of_ge _ _ (by omega)

theorem has_and (S T : LaneSet) (r : Nat) : LaneSet.has (S &&& T) r = (LaneSet.has S r && LaneSet.has T r) :=
  BitVec.getLsbD_and

theorem has_or (S T : LaneSet) (r : Nat) : LaneSet.has (S ||| T) r = (LaneSet.has S r || LaneSet.has T r) :=
  BitVec.getLsbD_or

@[simp] theorem has_zero (r : Nat) : LaneSet.has 0#8 r = false := BitVec.getLsbD_zero

/-- Inclusion, member by member. -/
theorem within_iff (S T : LaneSet) :
    LaneSet.within S T = true ↔ ∀ r, LaneSet.has S r = true → LaneSet.has T r = true := by
  unfold LaneSet.within LaneSet.has
  rw [beq_iff_eq]
  constructor
  · intro h r hS
    have h1 := congrArg (fun v : BitVec 8 => v.getLsbD r) h
    have h2 : r < 8 := by
      by_contra hc; rw [BitVec.getLsbD_of_ge S r (by omega)] at hS; exact absurd hS (by decide)
    simpa [hS, h2] using h1
  · intro h
    ext r hr
    have := h r
    simp only [BitVec.getElem_and, BitVec.getElem_not, BitVec.getElem_zero]
    rw [BitVec.getLsbD_eq_getElem hr, BitVec.getLsbD_eq_getElem hr] at this
    cases hS : S[r]
    · rfl
    · simp [this hS]

/-- The members of a set are the lanes it has. -/
theorem mem_members (S : LaneSet) (r : Nat) : r ∈ LaneSet.members S ↔ LaneSet.has S r = true := by
  unfold LaneSet.members
  rw [List.mem_filter]
  constructor
  · exact fun h => h.2
  · intro h
    refine ⟨?_, h⟩
    have h2 : r < 8 := by
      by_contra hc; unfold LaneSet.has at h; rw [BitVec.getLsbD_of_ge S r (by omega)] at h; exact absurd h (by decide)
    interval_cases r <;> decide

/-- The lanes of a group. -/
theorem has_lanes (g : Group) (r : Nat) :
    LaneSet.has g.lanes r = (decide (r < 8) && (decide (g.start ≤ r) && decide (r < g.start + g.width))) :=
  has_laneSet _ r

/-- R79: the selected group is a candidate group inside the set. -/
theorem select_some {n : Nat} {S : LaneSet} {g : Group} (h : select n S = some g) :
    g ∈ candidateGroups n ∧ LaneSet.within g.lanes S = true := by
  unfold select at h
  have h2 := List.find?_some h
  exact ⟨List.mem_of_find?_eq_some h, h2⟩

/-- R79: no candidate group lies inside a set for which none is selected. -/
theorem select_none {n : Nat} {S : LaneSet} (h : select n S = none) :
    ∀ g ∈ candidateGroups n, LaneSet.within g.lanes S = false := by
  simpa [select, List.find?_eq_none] using h

end Sys2Proof.Machine
end

