-- ==== Sys2Proof/Tests/Slice0.lean ====
section
/-! SUPPORT. Our own tests: the checks of WellFormed, values printed in the manual's tables and worked cases,
and for every statement with hypotheses a state and operands that meet them, clause by clause. -/

namespace Sys2Proof.Tests

open Sys2Proof Sys2Proof.Machine

/-! ### States for the tests -/

/-- The far end of the test cable. -/
def farEnd : FarId := ⟨30, 0, 4, .A⟩

/-- A lane that hears lane `i` of the far end, CONFIRMED, in the given phase. -/
def heardLane (phase : Phase) (i : Lane) : LaneUnit :=
  { signal := true
    rx := { status := .confirmed
            held := some ⟨⟨⟨farEnd, BitVec.ofNat 3 i.val⟩, 8⟩, 5, ⟨0, phase, 9, 0xFF, none, false⟩, 700⟩ } }

/-- An expectation that any far end satisfies. -/
def anyEnd : Expectation := ⟨none, none, none, none, 1, false, false, [3, 4], 6⟩

/-- A full-width cable of eight lanes. -/
def cable : Descriptor := ⟨.full, 8, .optical, 3, false⟩

/-- A seated port with the test cable, its lanes hearing the far end in the given phase. -/
def seated (st : PortState) (phase : Phase) (l : Option Link) : PortUnit :=
  { presN := .low, state := st, accepted := true, desc := some cable, plan := some ⟨.full, anyEnd, none⟩
    windowTimer := if st = .survey then some ⟨0, 500⟩ else none
    settleTimer := if st = .survey then some ⟨0, 20⟩ else none
    lanes := Vector.ofFn (heardLane phase), posA := { link := l } }

/-- The part in ACTIVE mode, chassis 1, with the given port 0. -/
def active (q : PortUnit) : State := { State.reset.setPort 0 q with mode := .active, chassis := 1 }

/-- A link record in the given state, with the far end heard. -/
def linkIn (st : LinkState) : Link :=
  { state := st, far := some farEnd, map := some .straight, agree := { role := some .senior } }

/-- A CHECKING link. -/
def checkingLink : Link := { linkIn .checking with checkEntry := some 0, quiet := some ⟨0, 20⟩ }

/-- A BLOCKED link with a reason. -/
def blockedLink (r : Reason) : Link := { linkIn .blocked with reason := some r, attempts := 3 }

/-- A TRAINING link in the given stage and dwell, over all eight lanes. -/
def trainingLink (stage : Stage) (dwell : Option Dwell) : Link :=
  { linkIn .training with
    training := { stage := some stage, timer := some ⟨0, 200⟩, attemptLanes := 0xFF, dwell := dwell
                  dwellTimer := some ⟨0, 2⟩, presets := [3, 4] } }

/-- An UP link over all eight lanes with the given score. -/
def upLink (score : Nat) : Link :=
  { linkIn .up with
    agree := { role := some .senior, proposal := some ⟨8, 0⟩, accept := true, active := some ⟨8, 0⟩
               regroupStart := some 0, regroupTimer := some ⟨0, 200⟩ }
    align := { recheckTimer := some ⟨0, 4000⟩, skew := Vector.replicate 8 (some 0) }
    sup := { score := score, level := some .good, judging := true } }

/-- An ISOLATED link with the given score, its probe set all eight lanes. -/
def isolatedLink (score : Nat) : Link :=
  { linkIn .isolated with
    sup := { score := score, isoCause := some .health, probeSet := 0xFF, probeTimer := some ⟨0, 10⟩ } }

/-- The part with the given link on port 0. -/
def linked (l : Link) : State := active (seated .assigned .ready (some l))

/-- The part in SETUP mode with port 0 in the given state. -/
def inState (st : PortState) : State :=
  State.reset.setPort 0 { state := st, accepted := st != .off && st != .empty, enabled := st != .off }

/-- A lane set holds no lane above 7. -/
theorem has_above (S : LaneSet) (r : Nat) (h : 8 ≤ r) : LaneSet.has S r = false := BitVec.getLsbD_of_ge S r h

/-- A property of the members of a lane set holds if it holds of the eight lanes. -/
theorem of_has {S : LaneSet} {P : Nat → Prop} (hP : ∀ k : Fin 8, LaneSet.has S k = true → P k) :
    ∀ r, LaneSet.has S r = true → P r := by
  intro r hr
  rcases Nat.lt_or_ge r 8 with h | h
  · exact hP ⟨r, h⟩ hr
  · exact absurd hr (by simp [has_above S r h])

/-- An expectation as a PLAN_SET carries it. -/
def expectation13 : RawExpectation := ⟨30, 0xFF, 0xFF, 0, 4, 1, 0, 2, 3, 4, 0, 0, 0xFF⟩

/-! ### WellFormed: an ill-formed term for each check -/

theorem test_wf_block_without_sync : WellFormed (.markArrived 0 0 0 0) = false := by decide

theorem test_wf_block_with_sync : WellFormed (.markArrived 0 0 (0x5C#8 ++ 0#88) 0) = true := by decide

theorem test_wf_good_length_is_no_error : WellFormed (.framingError (some 5)) = false := by decide

theorem test_wf_bad_lengths :
    WellFormed (.framingError (some 0)) = true ∧ WellFormed (.framingError (some 201)) = true := by decide

theorem test_wf_empty_frame : WellFormed (.frameComplete []) = false := by decide

theorem test_wf_long_frame : WellFormed (.frameComplete (List.replicate 201 0)) = false := by
  decide +kernel

theorem test_wf_known_code : WellFormed (.unknownRequest 1 [0]) = false := by decide

theorem test_wf_unknown_codes :
    WellFormed (.unknownRequest 9 []) = true ∧ WellFormed (.unknownRequest 18 []) = true ∧
      WellFormed (.unknownRequest 0 []) = true ∧ WellFormed (.unknownRequest 30 []) = true := by decide

theorem test_wf_unknown_too_long : WellFormed (.unknownRequest 9 (List.replicate 200 0)) = false := by
  decide +kernel

/-- The table gives no row any bits, so no word spells a command. -/
theorem test_no_word_decodes : decodeTableWord 8 1 = none := by decide

/-! ### Values printed in the manual -/

/-- R79: the table of examples for span 8. -/
theorem test_selection_examples :
    select 8 0xFF = some ⟨8, 0⟩ ∧ select 8 0xEF = some ⟨4, 0⟩ ∧ select 8 0xFE = some ⟨4, 4⟩ ∧
      select 8 0x3C = some ⟨2, 2⟩ ∧ select 8 0xB6 = some ⟨2, 4⟩ ∧ select 8 0xAA = some ⟨1, 1⟩ ∧
      select 8 0 = none := by decide

/-- R80: the table of roles. -/
theorem test_role_examples :
    roleOf ⟨12, 1, 3, .A⟩ ⟨30, 0, 4, .A⟩ = .senior ∧ roleOf ⟨12, 1, 3, .B⟩ ⟨12, 1, 5, .A⟩ = .senior ∧
      roleOf ⟨12, 1, 3, .B⟩ ⟨12, 1, 3, .A⟩ = .junior ∧ roleOf ⟨12, 1, 3, .A⟩ ⟨12, 1, 3, .A⟩ = .self := by
  decide

/-- Chapter 6, Worked Case A. -/
theorem test_alignment_case_a :
    alignment [(0, 1010), (1, 5), (2, 1020), (3, 30)] =
      ⟨#v[some 0, some 19, some 10, some 44, none, none, none, none], 0, some 0, some 44⟩ := by decide

/-- Chapter 6, Worked Case A: the delays. -/
theorem test_delays_case_a :
    (List.range 4).map (deskewDelay #v[some 0, some 19, some 10, some 44, none, none, none, none] 0x0F) =
      [44, 25, 34, 0] := by decide

/-- Chapter 6, Worked Case B: lane 3 out of range. -/
theorem test_alignment_case_b :
    alignment [(0, 1010), (1, 5), (2, 1020), (3, 90)] =
      ⟨#v[some 0, some 19, some 10, none, none, none, none, none], 8, some 0, some 104⟩ := by decide

/-- Chapter 6, Worked Case B: the delays over the active group alone. -/
theorem test_delays_case_b :
    (List.range 4).map (deskewDelay #v[some 0, some 19, some 10, none, none, none, none, none] 0x03) =
      [19, 0, 0, 0] := by decide

/-- Chapter 6, Worked Case C: the wrap decides. -/
theorem test_alignment_case_c :
    alignment [(0, 0), (1, 600)] =
      ⟨#v[none, some 0, none, none, none, none, none, none], 1, some 1, some 424⟩ := by decide

/-- R174 rule 8: the register of this polynomial and start gives 0x29B1 for the bytes of "123456789". -/
theorem test_frame_check : crc16 [0x31, 0x32, 0x33, 0x34, 0x35, 0x36, 0x37, 0x38, 0x39] = 0x29B1 := by
  decide +kernel

/-- R6: the lane count rounded down. -/
theorem test_descriptor_rounds_down :
    descriptorOf 1 7 2 40 = some ⟨.full, 4, .activeCopper, 40, true⟩ ∧ descriptorOf 2 7 2 40 = none ∧
      descriptorOf 2 8 3 0 = some ⟨.split, 8, .optical, 0, false⟩ ∧ descriptorOf 3 8 3 0 = none := by decide

/-- R127: the levels at the default warning limit. -/
theorem test_health_levels :
    levelOf 96 95 = .good ∧ levelOf 96 96 = .warned ∧ levelOf 96 127 = .warned ∧ levelOf 96 128 = .degraded := by
  decide

/-- R159: clamps and the multiple of 10. -/
theorem test_timing_clamps :
    windowStored 99 = 100 ∧ windowStored 509 = 500 ∧ windowStored 6000 = 5000 ∧ clamp 20 2000 7 = 20 := by decide

/-- R174 rule 4, R56: the length byte of a frame and its start. -/
theorem test_frame_of_ident : (frameOf [1, 7]).take 4 = [0xC5, 2, 1, 7] := by decide

/-- A mark with every field in use. -/
def sampleMark : Mark :=
  { id := ⟨⟨⟨30, 0, 4, .A⟩, 2⟩, 8⟩, tag := 7, phase := .ready, grade := 9, usable := 0xFF
    proposal := some ⟨4, 4⟩, accept := true, echo := some ⟨⟨12, 1, 3, .B⟩, 5⟩ }

/-- R175: the 96 bits written out from the layout, the check computed by hand. -/
theorem test_mark_layout :
    sampleMark.encode = 0x5C1E10B0753FFA6189E80007 ∧ readMark 0x5C1E10B0753FFA6189E80007 = .ok sampleMark := by
  decide +kernel

/-- R28: the tests of a mark in their order: check, code, lane, span. -/
theorem test_mark_failures :
    readMark 0x5C1E10B0753FFA6189E80008 = .error .check ∧
      readMark ({ sampleMark with id := ⟨⟨⟨251, 0, 4, .A⟩, 2⟩, 8⟩ } : Mark).encode = .error .code ∧
      readMark ({ sampleMark with id := ⟨⟨⟨30, 0, 4, .A⟩, 2⟩, 2⟩ } : Mark).encode = .error .lane ∧
      readMark ({ sampleMark with id := ⟨⟨⟨30, 0, 4, .B⟩, 5⟩, 8⟩ } : Mark).encode = .error .span := by
  decide +kernel

/-! ### Witnesses: the step and the management line -/

theorem witness_StepRunsFrontCommand : State.reset.pending = [] := by decide

theorem witness_LaneMarkReadsBack :
    sampleMark.Ok = true ∧
      ({ sampleMark with id := ⟨⟨⟨1, 3, 15, .B⟩, 4⟩, 4⟩, proposal := none, echo := none } : Mark).Ok = true ∧
      ({ sampleMark with id := ⟨⟨⟨250, 3, 15, .A⟩, 7⟩, 8⟩, proposal := some ⟨1, 7⟩ } : Mark).Ok = true := by decide

/-- For RequestBodyReadsBack, RequestsAreAnswered and the rows of ManagementLineTakesFrames. -/
theorem witness_RequestBodyReadsBack :
    isRequest (.unknownRequest 9 []) = true ∧ WellFormed (.unknownRequest 9 []) = true ∧
      isRequest (.planSet 1 0xF0 1 expectation13 (some expectation13)) = true ∧
      WellFormed (.planSet 1 0xF0 1 expectation13 (some expectation13)) = true := by decide

theorem witness_FrameOnLineIsOffered :
    State.reset.assembler = .hunt ∧ 1 ≤ ([9] : List Byte).length ∧ ([9] : List Byte).length ≤ 200 ∧
      1 ≤ (List.replicate 200 (9 : Byte)).length ∧ (List.replicate 200 (9 : Byte)).length ≤ 200 := by decide +kernel

/-- A request that acts, and one that is refused: NODE in ACTIVE mode. -/
theorem witness_RequestsAreAnswered :
    (isRequest (.restart 7) = true ∧ WellFormed (.restart 7) = true ∧ State.reset.executing = none) ∧
      isRequest (.node 7 1) = true ∧ WellFormed (.node 7 1) = true ∧ (active {}).executing = none ∧
      Result.wrongMode ≠ .ok ∧ Result.wrongMode ≠ .adjusted ∧
      exec (.node 7 1) (active {}) = .next ((active {}).refused (.node 7 1) .wrongMode) := by
  exact ⟨⟨rfl, rfl, rfl⟩, rfl, rfl, rfl, nofun, nofun, rfl⟩

/-- The part with the given executing and waiting places. -/
def holding (x : Option ExecFrame) (w : Option (List Byte)) : State := { State.reset with executing := x, waiting := w }

/-- One state for each state of the assembler; the last byte of a body and one before it, and the lengths 0 and
201; and each filling of the two places of the input hold, with a request whose row comes then. -/
theorem witness_ManagementLineTakesFrames :
    (State.reset.assembler = .hunt ∧
      ({ State.reset with assembler := .length } : State).assembler = .length ∧
      (({ State.reset with assembler := .body 1 [] } : State).assembler = .body 1 [] ∧
        ([] : List Byte).length < (1 : Byte).toNat) ∧
      (({ State.reset with assembler := .body 200 [] } : State).assembler = .body 200 [] ∧
        ([] : List Byte).length < (200 : Byte).toNat) ∧
      ({ State.reset with assembler := .check 1 [9] none } : State).assembler = .check 1 [9] none ∧
      ({ State.reset with assembler := .check 1 [9] (some 0) } : State).assembler = .check 1 [9] (some 0) ∧
      ({ State.reset with assembler := .length } : State).assembler ≠ .hunt ∧
      ((0 : Byte) = 0 ∧ 201 ≤ (201 : Byte).toNat)) ∧
      State.reset.executing = none ∧
      ((holding (some ⟨[1, 7], []⟩) none).executing.isSome = true ∧
        (holding (some ⟨[1, 7], []⟩) none).waiting = none) ∧
      ((holding (some ⟨[1, 7], []⟩) (some [1, 8])).executing.isSome = true ∧
        (holding (some ⟨[1, 7], []⟩) (some [1, 8])).waiting = some [1, 8]) ∧
      isRequest (.restart 7) = true ∧ WellFormed (.restart 7) = true := by decide

/-- R166: a request that comes while another executes waits, one that comes then is dropped, and the waiting one
executes when the reply has left. -/
theorem test_row_waits :
    exec (.ident 8) (holding (some ⟨[1, 7], []⟩) none) = .next (holding (some ⟨[1, 7], []⟩) (some [1, 8])) ∧
      exec (.ident 9) (holding (some ⟨[1, 7], []⟩) (some [1, 8])) =
        .next { holding (some ⟨[1, 7], []⟩) (some [1, 8]) with dropped := 1 } ∧
      exec .replySent (holding (some ⟨[1, 7], []⟩) (some [1, 8])) = exec (.ident 8) State.reset := ⟨rfl, rfl, rfl⟩

/-! ### Witnesses: messages of the whole part -/

theorem witness_ReportsAndSettingsAnswered :
    (State.reset.executing = none ∧ (active {}).executing = none) ∧
      2 ≤ (2 : Byte).toNat ∧ isMessage 0 = false ∧ isMessage 30 = false ∧
      (State.reset.mode = .setup ∧ (active {}).mode = .active) ∧
      (1 ≤ (1 : Byte).toNat ∧ (1 : Byte).toNat ≤ 250) ∧ (1 ≤ (250 : Byte).toNat ∧ (250 : Byte).toNat ≤ 250) ∧
      ((0 : Byte) = 0 ∧ 251 ≤ (251 : Byte).toNat) ∧
      ((7 : Byte).toNat < 8 ∧ (50 : Byte).toNat ∈ [50, 75, 100, 125, 150] ∧ (7 : Byte).toNat ≤ 7) ∧
      (8 ≤ (8 : Byte).toNat ∧ (60 : Byte).toNat ∉ [50, 75, 100, 125, 150]) := by decide

/-- The part after reset with a cable at port 0 whose line is low, and one at port 1 whose line is high. -/
def lines : State :=
  (State.reset.setPort 0 { presN := .low }).setPort 1 { seated .seated .survey none with presN := .high }

/-- Values stored as carried, values clamped, an unchanged period and a new one other than NONE; and the period
NONE on a part without links, with a port of each clause. -/
theorem witness_TimingStored :
    State.reset.executing = none ∧ State.reset.mode = .setup ∧ (active {}).executing = none ∧
      (active {}).mode = .active ∧
      (debounceOf 8 = some .ms8 ∧ recheckOf 4 = some .s4 ∧ Debounce.ms8 = State.reset.timing.debounce) ∧
      (debounceOf 32 = some .ms32 ∧ recheckOf 0 = some .off ∧ Debounce.ms32 ≠ .none) ∧
      (debounceOf 0 = some .none ∧
        Debounce.none = ({ State.reset with timing := { debounce := .none } } : State).timing.debounce) ∧
      debounceOf 1 = none ∧ recheckOf 2 = none ∧
      (lines.executing = none ∧ lines.mode = .setup ∧ lines.timing.debounce ≠ .none ∧
        (∀ p, lines.link p .A = none ∧ lines.link p .B = none) ∧
        ((lines.port 0).state = .empty ∧ (lines.port 0).accepted = false ∧ (lines.port 0).presN = .low) ∧
        ((lines.port 1).state ≠ .off ∧ (lines.port 1).state ≠ .empty ∧ (lines.port 1).accepted = true ∧
          (lines.port 1).presN = .high) ∧
        (lines.port 15).accepted = ((lines.port 15).presN == .low)) := by decide +kernel

/-- R3, R143: the notices of TIMING with the period NONE, in ascending port order. -/
theorem test_timing_none_notices :
    (match exec (.timing 1 ⟨0, 500, 200, 3, 96, 4⟩) lines with
      | .next t => t.queue.map fun n => n.port
      | _ => []) = [some 0, some 1] := by decide +kernel

theorem witness_TagReevaluatesBlockedLinks :
    State.reset.executing = none ∧ (linked (upLink 0)).executing = none ∧ (linked (blockedLink .staleTag)).executing = none ∧
      (0 : Byte) = State.reset.planTag ∧ (1 : Byte) ≠ State.reset.planTag ∧
      (∀ l, (linked (upLink 0)).link 0 .A = some l → ¬ (l.state = .blocked ∧ l.reason ≠ some .trainFailed)) ∧
      (linked (blockedLink .staleTag)).link 0 .A = some (blockedLink .staleTag) ∧
      (blockedLink .staleTag).state = .blocked ∧ (blockedLink .staleTag).reason ≠ some .trainFailed := by
  refine ⟨rfl, rfl, rfl, by decide, by decide, ?_, rfl, by decide, by decide⟩
  intro l h
  cases h
  decide

theorem witness_ModeActiveBeginsSurveys :
    State.reset.executing = none ∧ (active {}).executing = none ∧ (inState .seated).executing = none ∧
      (active {}).mode = .active ∧ State.reset.mode = .setup ∧ State.reset.chassis = 0 ∧
      ({ State.reset with chassis := 1 } : State).mode = .setup ∧ ({ State.reset with chassis := 1 } : State).chassis ≠ 0 ∧
      ((inState .seated).port 0).state = .seated ∧ ((inState .seated).port 1).state ≠ .seated := by decide

theorem witness_ModeSetupRemovesLinks :
    State.reset.executing = none ∧ (linked (isolatedLink 9)).executing = none ∧ (linked (upLink 0)).executing = none ∧
      State.reset.mode = .setup ∧ (linked (isolatedLink 9)).mode = .active ∧
      ((active (seated .survey .ready none)).port 0).state = .survey ∧
      ((linked (upLink 0)).port 0).state = .assigned ∧ ((linked (upLink 0)).pos 0 .A).waits = false ∧
      ((linked (upLink 0)).pos 0 .B).waits = false ∧ ((linked (upLink 0)).port 1).state ≠ .assigned := by decide

theorem witness_RestartKeepsConfiguration :
    (inState .off).executing = none ∧ (linked (upLink 0)).executing = none ∧
      ((inState .off).port 0).state = .off ∧ ((linked (upLink 0)).port 0).state ≠ .off ∧
      ((linked (upLink 0)).port 0).state ≠ .empty ∧ ((linked (upLink 0)).pos 0 .A).waits = false ∧
      ((linked (upLink 0)).pos 0 .B).waits = false ∧ (linked (upLink 0)).link 1 .A = none := by decide

/-- The filters in and out of range; a notice that a filter accepts, at 63 and at 64 notices held, and one that
none accepts. -/
theorem witness_NoticesAreFiledAndFetched :
    State.reset.executing = none ∧
      yesNo 1 = some true ∧ (0x1FFF : BitVec 16).toNat < 8192 ∧ yesNo 2 = none ∧ 8192 ≤ (0x2000 : BitVec 16).toNat ∧
      (0 : Byte) ≠ 1 ∧ (0 : Byte) ≠ 2 ∧
      State.reset.filter1.accepts ⟨some 0, none, 0, .cableIn⟩ = true ∧
      ({ State.reset with queue := List.replicate 63 ⟨some 0, none, 0, .cableIn⟩ } : State).queue.length < 64 ∧
      64 ≤ ({ State.reset with queue := List.replicate 64 ⟨some 0, none, 0, .cableIn⟩ } : State).queue.length ∧
      (({ State.reset with filter1 := ⟨true, 0x1FFF, 0xFFFE⟩ } : State).filter1.accepts
          ⟨some 0, none, 0, .cableIn⟩ = false ∧
        ({ State.reset with filter1 := ⟨true, 0x1FFF, 0xFFFE⟩ } : State).filter2.accepts
          ⟨some 0, none, 0, .cableIn⟩ = false) := by decide +kernel

theorem witness_FocusHoldsOnePort :
    State.reset.executing = none ∧ (15 : Byte).toNat < 16 ∧ 16 ≤ (16 : Byte).toNat := by decide

/-! ### Witnesses: port operands and the plan -/

theorem witness_OperandsAreTested :
    State.reset.executing = none ∧ (linked (upLink 0)).executing = none ∧
      onePort State.reset 0xF0 = .error .noFocus ∧ onePort State.reset 16 = .error .badPort ∧
      onePort State.reset 0xFE = .error .badPort ∧
      planLengthFits 0 none = true ∧ planLengthFits 1 (some expectation13) = true ∧
      portOperand State.reset true false 0xFF = .error .badPort ∧
      portOperand State.reset false true 0xFE = .error .badPort ∧
      onePort State.reset 15 = .ok 15 ∧ 2 ≤ (2 : Byte).toNat ∧ halfOperand 1 = some .B ∧
      (State.reset.port 15).state ≠ .assigned ∧ ((linked (upLink 0)).port 0).isSplit = false ∧
      3 ≤ (3 : Byte).toNat ∧ ([0] : List Byte).length ≤ 1 ∧
      isMessage 9 = false ∧ isMessage 128 = false ∧
      (isMessage 1 = true ∧ ([] : List Byte).length + 1 ∉ bodyLengths (1 : Byte).toNat) ∧
      (isMessage 29 = true ∧ ([7, 0] : List Byte).length + 1 ∉ bodyLengths (29 : Byte).toNat) ∧
      (isMessage 8 = true ∧ (List.replicate 17 (0 : Byte)).length + 1 ∉ bodyLengths (8 : Byte).toNat) ∧
      ((0 : Byte) = 0 ∧ ([] : List Byte) = []) ∧ ((2 : Byte) = 1 ∨ (2 : Byte) = 2) ∧
      ([0] : List Byte).length = 1 := by decide

/-- The entry of the test cable as a PLAN_SET carries it. -/
def anyEntry : RawExpectation := ⟨0xFF, 0xFF, 0xFF, 0xFF, 1, 0, 0, 2, 3, 4, 0, 0, 0xFF⟩

theorem entry_of_anyEntry : entryOf 0 anyEntry none = some ⟨.full, anyEnd, none⟩ := by decide

theorem witness_PlanEditIsStored :
    (inState .empty).executing = none ∧
      (inState .empty).edits (.planSet 1 0 0 anyEntry none) 0 (some ⟨.full, anyEnd, none⟩) ∧
      (inState .empty).edits (.planClear 1 0) 0 none ∧
      ((inState .empty).port 0).plan = none ∧
      ((inState .empty).port 0).plan ≠ some ⟨.full, anyEnd, none⟩ ∧ ((inState .empty).port 0).state ≠ .assigned ∧
      (planLengthFits 1 none = false ∧ planLengthFits 0 none = true ∧ planLengthFits 2 none = true ∧
        entryOf 2 anyEntry none = none ∧ onePort (inState .empty) 0 = .ok 0) := by
  refine ⟨rfl, Or.inl ⟨1, 0, 0, anyEntry, none, _, rfl, by decide, entry_of_anyEntry, rfl⟩,
    Or.inr ⟨1, 0, rfl, by decide, rfl⟩, by decide⟩

theorem witness_PlanFormChangeResurveys :
    (linked (upLink 0)).executing = none ∧
      (linked (upLink 0)).edits (.planSet 1 0 1 anyEntry (some anyEntry)) 0 (some ⟨.split, anyEnd, some anyEnd⟩) ∧
      ((linked (upLink 0)).port 0).state = .assigned ∧
      (((linked (upLink 0)).edited 0 (some ⟨.split, anyEnd, some anyEnd⟩)).port 0).planForm ≠
        ((linked (upLink 0)).port 0).planForm := by
  refine ⟨rfl, Or.inl ⟨1, 0, 1, anyEntry, some anyEntry, _, rfl, by decide, by decide, rfl⟩, by decide⟩

/-- The entry that asks for a width the test cable has not. -/
def widthEight : Expectation := { anyEnd with chassis := some 30 }

/-- An edit that keeps the form, on a BLOCKED, a VERIFIED, a TRAINING, an UP and an ISOLATED link: one that a link
hearing the far end passes, and one that clears the plan. -/
theorem witness_PlanEditReevaluatesLinks :
    (linked (upLink 0)).executing = none ∧ (linked (upLink 0)).edits (.planClear 1 0) 0 none ∧
      ((linked (upLink 0)).port 0).plan ≠ none ∧ ((linked (upLink 0)).port 0).state = .assigned ∧
      (((linked (upLink 0)).edited 0 none).port 0).planForm = ((linked (upLink 0)).port 0).planForm ∧
      ((linked (upLink 0)).edited 0 none).checks 0 .A ((((linked (upLink 0)).edited 0 none).port 0).observe .A)
        (some 8) = some .noPlan ∧
      (∀ l ∈ [upLink 0, linkIn .verified, trainingLink .align none, blockedLink .wrongPeer],
        ((linked l).edited 0 (some ⟨.full, widthEight, none⟩)).checks 0 .A
          ((((linked l).edited 0 (some ⟨.full, widthEight, none⟩)).port 0).observe .A)
          (if l.state = .up then some (groupWidth l.agree.active) else none) = none) ∧
      (linked (isolatedLink 9)).link 0 .A = some (isolatedLink 9) ∧ (isolatedLink 9).state = .isolated := by
  refine ⟨rfl, Or.inr ⟨1, 0, rfl, by decide, rfl⟩, by decide +kernel, by decide, by decide +kernel, by decide +kernel,
    by decide +kernel, rfl, by decide⟩

theorem witness_RecordRequestsAct :
    State.reset.executing = none ∧ onePort State.reset 0 = .ok 0 ∧ 4 ≤ (4 : Byte).toNat ∧ (7 : Byte).toNat < 8 ∧
      8 ≤ (8 : Byte).toNat ∧ halfOperand 0 = some .A ∧ halfOperand 1 = some .B ∧ snapModeOf 2 = some .every ∧
      3 ≤ (3 : Byte).toNat := by decide

/-! ### Witnesses: ports -/

theorem witness_PortOnTakesOffPortToEmpty :
    (inState .off).executing = none ∧ State.reset.executing = none ∧
      onePort (inState .off) 0 = .ok 0 ∧ ((inState .off).port 0).state = .off ∧
      onePort (inState .off) 15 = .ok 15 ∧ ((inState .off).port 15).state ≠ .off ∧
      portOperand State.reset true false 0xF0 = .error .noFocus ∧
      portOperand State.reset true false 0xFF = .error .badPort := by decide

theorem witness_PortOffDisablesPort :
    (linked (upLink 0)).executing = none ∧ (inState .off).executing = none ∧
      onePort (linked (upLink 0)) 0 = .ok 0 ∧ ((linked (upLink 0)).port 0).state ≠ .off ∧
      ((inState .off).port 0).state = .off := by decide

/-- The refusals; one port of each state; and for ALL the same ports in ACTIVE mode. -/
theorem witness_ResurveyActsByPortState :
    (State.reset.executing = none ∧ (active {}).executing = none ∧ (linked (upLink 0)).executing = none ∧
        (active (seated .survey .ready none)).executing = none) ∧
      portOperand State.reset true false 0xFF = .error .badPort ∧
      portOperand State.reset true false 0xFE = .ok .all ∧ State.reset.mode = .setup ∧
      onePort (linked (upLink 0)) 0 = .ok 0 ∧ (linked (upLink 0)).mode = .active ∧
      ((active {}).port 0).state ∈ [PortState.off, .empty, .seating, .seated] ∧
      ((active (seated .survey .ready none)).port 0).state = .survey ∧
      ((linked (upLink 0)).port 0).state = .assigned ∧
      ((active { state := .cableFault, accepted := true, fault := some .noAnswer }).port 0).state = .cableFault := by
  decide

theorem witness_IndicateAndLocateAct :
    State.reset.executing = none ∧
      sourceOf 4 = some .health ∧ yesNo 1 = some true ∧ directOf 2 = some .off ∧ onePort State.reset 0 = .ok 0 ∧
      5 ≤ (5 : Byte).toNat ∧ 2 ≤ (2 : Byte).toNat ∧ 3 ≤ (3 : Byte).toNat := by decide

theorem witness_IndicatorFollowsTable :
    ({ State.reset with locate := some 3 } : State).holdsLocate 3 = true ∧ State.reset.holdsLocate 3 = false ∧
      ((active { indDirect := .on }).port 0).indDirect = .on ∧
      ((active { indDirect := .off }).port 0).indDirect = .off ∧
      ((active { indInvert := true }).port 0).indDirect = .none ∧
      ((active { indInvert := true }).port 0).indInvert = true ∧
      ((active {}).port 0).indInvert = false ∧ ((inState .off).port 0).state = .off := by decide

/-! ### Witnesses: links by request -/

/-- The operands of TRAIN and ISOLATE for half A of port 0, and their hypotheses on port and link. -/
theorem witness_TrainActsByLinkState :
    (linked (linkIn .verified)).executing = none ∧
      onePort (linked (linkIn .verified)) 0 = .ok 0 ∧ halfOperand 0 = some .A ∧
      ((linked (linkIn .verified)).port 0).state = .assigned ∧
      (linked (linkIn .verified)).link 0 .A = some (linkIn .verified) ∧ (linkIn .verified).state = .verified ∧
      ((linked (linkIn .verified)).port 0).farReady .A (linkIn .verified) = true ∧
      ((active (seated .assigned .hold (some (linkIn .verified)))).port 0).farReady .A (linkIn .verified) = false ∧
      (upLink 0).state = .up ∧
      ((blockedLink .trainFailed).state = .blocked ∧ (blockedLink .trainFailed).reason = some .trainFailed) ∧
      (blockedLink .dark).reason ≠ some .trainFailed ∧ (isolatedLink 9).state = .isolated ∧
      (checkingLink.state = .checking ∧ checkingLink.grant = false ∧
        ({ checkingLink with grant := true } : Link).grant = true) := by
  refine ⟨rfl, by decide, by decide, by decide, rfl, by decide, by decide +kernel, by decide +kernel, by decide⟩

/-- R74, R108: TRAIN restarts the quiet timer of a CHECKING link 499 ms after its entry, not at 500 ms, nor where the
link holds the grant already. -/
theorem test_train_restarts_quiet :
    (({ linked checkingLink with uptime := 499 } : State).trainChecking 0 .A checkingLink).link 0 .A =
        some { checkingLink with grant := true, quiet := some ⟨499, 20⟩ } ∧
      (({ linked checkingLink with uptime := 500 } : State).trainChecking 0 .A checkingLink).link 0 .A =
        some { checkingLink with grant := true } ∧
      ({ linked checkingLink with uptime := 499 } : State).trainChecking 0 .A { checkingLink with grant := true } =
        { linked checkingLink with uptime := 499 } := ⟨rfl, rfl, rfl⟩

theorem witness_IsolateActsByLinkState :
    (linked (upLink 9)).executing = none ∧ (linked (isolatedLink 9)).executing = none ∧
      onePort (linked (upLink 9)) 0 = .ok 0 ∧ halfOperand 0 = some .A ∧ ((linked (upLink 9)).port 0).state = .assigned ∧
      (linked (upLink 9)).link 0 .A = some (upLink 9) ∧ (upLink 9).state ≠ .isolated ∧
      (linked (isolatedLink 9)).link 0 .A = some (isolatedLink 9) ∧ (isolatedLink 9).state = .isolated := by
  refine ⟨rfl, rfl, by decide, by decide, by decide, rfl, by decide, rfl, by decide⟩

/-- Port 0 with the given link, and port 1 with a link that waits for its far identity. -/
def waiting (l : Link) : State := (linked l).setPort 1 (seated .assigned .ready (some (blockedLink .duplicatePeer)))

/-- R72, R69, R151: an UP link that is isolated releases the waiting link of another port, with a history entry
PEER_RELEASED and no capture; a link that was not VERIFIED, TRAINING or UP releases none. -/
theorem test_isolate_releases :
    (match exec (.isolate 1 0 0) (waiting (upLink 9)) with
      | .next t => ((t.link 1 .A).map fun k => (k.state, k.reason), (t.port 1).history.map fun e => e.reason,
          (t.port 0).history.map fun e => e.reason)
      | _ => (none, [], [])) = (some (.checking, none), [.peerReleased], [.hostIsolate]) ∧
    (match exec (.isolate 1 0 0) (waiting checkingLink) with
      | .next t => ((t.link 1 .A).map fun k => (k.state, k.reason), (t.port 1).history.map fun e => e.reason,
          (t.port 0).history.map fun e => e.reason)
      | _ => (none, [], [])) = (some (.blocked, some .duplicatePeer), [], [.hostIsolate]) := by decide +kernel

theorem witness_RecoverActsByMode :
    State.reset.executing = none ∧ (linked (isolatedLink 9)).executing = none ∧
      onePort State.reset 0xF0 = .error .noFocus ∧ onePort (linked (isolatedLink 9)) 0 = .ok 0 ∧
      halfOperand 0 = some .A ∧ (linked (isolatedLink 9)).mode = .active ∧
      ((linked (isolatedLink 9)).port 1).state ≠ .assigned ∧ ((linked (isolatedLink 9)).port 0).state = .assigned ∧
      (linked (isolatedLink 9)).link 0 .A = some (isolatedLink 9) ∧ State.reset.mode = .setup ∧
      ((State.reset.setPort 0 { posA := { residue := some 127 } }).pos 0 .A).residue = some 127 ∧
      (State.reset.pos 0 .A).residue = none := by
  refine ⟨rfl, rfl, by decide, by decide, by decide, by decide, by decide, by decide, rfl, by decide⟩

/-! ### Witnesses: presence and the descriptor -/

/-- The three cases of a sample, the states in which none acts, and a cable taken in by each of the three ways. -/
theorem witness_PresenceTakesCableIn :
    (((inState .off).port 0).state = .off ∧ (inState .off).timing.debounce ≠ .none ∧
      ((State.reset.port 0).state ≠ .off ∧ ((State.reset.port 0).presN == .low) = (State.reset.port 0).accepted) ∧
      ((State.reset.setPort 0 { presN := .low }).port 0).debounceCount = 0 ∧
      (((State.reset.setPort 0 { presN := .low, debounceCount := 1 }).port 0).presN == .low) ≠
        ((State.reset.setPort 0 { presN := .low, debounceCount := 1 }).port 0).accepted ∧
      ((State.reset.setPort 0 { presN := .low, debounceCount := 1 }).port 0).RecordOk ∧
      ((State.reset.setPort 0 { presN := .low, debounceCount := 1 }).port 0).debounceCount = 1 ∧
      (State.reset.port 0).presN = .high) ∧
      ((State.reset.setPort 0 { presN := .low, debounceCount := 1 }).port 0).state = .empty ∧
      ((State.reset.setPort 0 { presN := .low, debounceCount := 1 }).port 0).accepted = false ∧
      ((State.reset.setPort 0 { presN := .low, debounceCount := 1 }).port 0).presN = .low ∧
      State.reset.timing.debounce ≠ .none ∧
      ((State.reset.setPort 0 { presN := .low }).port 0).debounceCount = 0 ∧
      ({ State.reset with timing := { debounce := .none } } : State).timing.debounce = .none := by decide +kernel

/-- By the second sample, and at once with the period NONE; an UP link in half A and none in half B. -/
theorem witness_CableOutEmptiesPort :
    ((linked (upLink 0)).port 0).accepted = true ∧ ((linked (upLink 0)).port 0).state ≠ .off ∧
      ((linked (upLink 0)).port 0).state ≠ .empty ∧
      ((active { seated .assigned .ready (some (upLink 0)) with presN := .high, debounceCount := 1 }).port 0).presN =
        .high ∧
      ((active { seated .assigned .ready (some (upLink 0)) with presN := .high, debounceCount := 1 }).port
        0).debounceCount = 1 ∧
      (active { seated .assigned .ready (some (upLink 0)) with presN := .high, debounceCount := 1 }).timing.debounce ≠
        .none ∧
      ({ linked (upLink 0) with timing := { debounce := .none } } : State).timing.debounce = .none ∧
      (linked (upLink 0)).link 0 .A = some (upLink 0) ∧ (upLink 0).state = .up ∧
      (linked (upLink 0)).link 0 .B = none ∧ (linked (upLink 0)).eventLoss = none := by
  refine ⟨by decide, by decide, by decide, by decide, by decide, by decide, by decide, rfl, by decide, rfl, rfl⟩

/-- R151, R152: the snapshot of half B, taken after the LINK_DOWN of half A was lost, says that none was lost
before the event. -/
theorem test_snapshot_before_notices :
    (match exec (.presNChange 0 .high) ({ linked (upLink 0) with
        timing := { debounce := .none }
        ports := (linked (upLink 0)).ports.set 0 { (linked (upLink 0)).port 0 with
          desc := some ⟨.split, 8, .optical, 3, false⟩
          posA := { link := some (upLink 0) }, posB := { link := some (upLink 0), snap := { mode := .every } } }
        queue := List.replicate 64 ⟨some 1, none, 0, .cableIn⟩ } : State) with
      | .next t => (decide (0 < t.overrun), (t.pos 0 .B).snap.record.map fun r => r.noticeLoss)
      | _ => (false, none)) = (true, some false) := by decide +kernel

/-- A port reading its cable, at the given attempt. -/
def reading (n : Nat) : PortUnit := { presN := .low, state := .seating, accepted := true, readAttempt := n }

theorem witness_DescriptorAttemptsEnd :
    (State.reset.port 0).state ≠ .seating ∧ ((active (reading 2)).port 0).state = .seating ∧
      ((active (reading 2)).port 0).readAttempt < 3 ∧ ((active (reading 3)).port 0).readAttempt = 3 ∧
      (1 + 8 + 3 + 40 + 0 : Byte) ≠ 0 ∧ (1 + 8 + 3 + 40 + 204 : Byte) = 0 ∧
      descriptorOf 1 8 3 40 = some ⟨.full, 8, .optical, 40, false⟩ ∧
      (1 + 0 + 3 + 40 + 212 : Byte) = 0 ∧ descriptorOf 1 0 3 40 = none ∧ (active (reading 2)).mode = .active := by
  decide

theorem witness_SurveyEnds :
    (State.reset.port 0).state ≠ .survey ∧
      ((active (seated .survey .survey none)).port 0).state = .survey ∧
      ((active (seated .survey .survey none)).port 0).settleTimer.isSome = true ∧
      ((active (seated .survey .survey none)).port 0).windowTimer.isSome = true ∧
      (∀ i, ((active (seated .survey .survey none)).port 0).inSpan i = true →
        (((active (seated .survey .survey none)).port 0).lane i).rx.status = .confirmed) ∧
      (((active { seated .survey .survey none with lanes := Vector.replicate 8 {} }).port 0).inSpan 7 = true ∧
        (((active { seated .survey .survey none with lanes := Vector.replicate 8 {} }).port 0).lane 7).rx.status ≠
          .confirmed) ∧
      ((active (seated .survey .survey none)).link 0 .A = none ∧
        (active (seated .survey .survey none)).link 0 .B = none) ∧
      ((active (seated .survey .survey none)).port 0).isSplit = false ∧
      ((active { seated .survey .survey none with desc := some ⟨.split, 8, .optical, 3, false⟩ }).port 0).isSplit =
        true := by decide +kernel

/-- A port at the end of its survey, auto-train on, its far end READY, one sample before it loses its cable; and the
given commands waiting. -/
def leaving (waiting : List Instr) : State :=
  { active { seated .survey .ready none with
      presN := .high, debounceCount := 1, plan := some ⟨.full, { anyEnd with autoTrain := true }, none⟩ } with
    pending := waiting }

/-- The state of the link that the end of that survey creates. -/
def endedWith (waiting : List Instr) : Option LinkState :=
  match exec (.surveyWindowExpiry 0) (leaving waiting) with
  | .next t => (t.link 0 .A).map fun k => k.state
  | _ => none

/-- R60, R109: a created link enters TRAINING, but not where a removal of its port falls together with the end of
the survey: a sample that is not the port's, or that comes after an arrival at the port or a tick, is no such
removal. -/
theorem test_removal_with_survey_end :
    endedWith [] = some .training ∧ endedWith [.presenceSample 0] = some .verified ∧
      endedWith [.presenceSample 1, .presenceSample 0] = some .verified ∧
      endedWith [.uptimeTick, .presenceSample 0] = some .training ∧
      endedWith [.syncMissing 0 0, .presenceSample 0] = some .training ∧
      endedWith [.presenceSample 1] = some .training := by decide +kernel

theorem witness_SurveyEnds_removal :
    ((leaving [.presenceSample 0]).port 0).state = .survey ∧ ((leaving [.presenceSample 0]).port 0).accepted = true ∧
      ((leaving [.presenceSample 0]).port 0).presN = .high ∧
      ((leaving [.presenceSample 0]).port 0).debounceCount ≠ 0 ∧
      (leaving [.presenceSample 0]).timing.debounce ≠ .none ∧
      (leaving [.presenceSample 0]).pending = .presenceSample 0 :: [] ∧
      ((leaving [.presenceSample 0]).link 0 .A = none ∧ (leaving [.presenceSample 0]).link 0 .B = none) ∧
      endedWith [.presenceSample 0] = some .verified := by decide +kernel

/-- R60: the survey's end and the removal, one after the other: VERDICT and CABLE_OUT, and no LINK_DOWN. -/
theorem test_removal_after_survey_end :
    (match exec (.surveyWindowExpiry 0) (leaving [.presenceSample 0]) with
      | .next t => (match step t with
        | .next u => u.queue.map fun n => n.detail.kind
        | _ => [])
      | _ => []) = [3, 1] := by decide +kernel

/-! ### Witnesses: lane marks and lane records -/

theorem witness_MarkFieldsFollowLink :
    ((linked (upLink 0)).port 0).laneHalf 7 = .A ∧ ((active (seated .survey .survey none)).port 0).state = .survey ∧
      ((linked (upLink 0)).port 0).state = .assigned ∧ (linked (upLink 0)).link 0 .A = some (upLink 0) ∧
      (upLink 0).state = .up ∧ (linked checkingLink).link 0 .A = some checkingLink ∧ checkingLink.state = .checking ∧
      (blockedLink .dark).state = .blocked ∧ (isolatedLink 1).state = .isolated ∧
      (trainingLink .align none).state = .training ∧ (linkIn .verified).state = .verified ∧
      ((linked (linkIn .verified)).port 0).permitted .A (linkIn .verified) = false ∧
      ((linked { linkIn .verified with grant := true }).port 0).permitted .A { linkIn .verified with grant := true } =
        true := by
  refine ⟨by decide, by decide, by decide, rfl, by decide, rfl, by decide⟩

/-- A port in SURVEY whose lanes have the given status and hold nothing. -/
def listening (st : LaneStatus) : State :=
  active { seated .survey .survey none with lanes := Vector.replicate 8 { signal := st != .quiet, rx := { status := st } } }

theorem witness_SignalEventsMoveStatus :
    State.reset.processed 0 0 = false ∧ (listening .quiet).processed 0 7 = true ∧
      (((listening .quiet).port 0).lane 7).rx.status = .quiet ∧
      (((listening .signal).port 0).lane 7).rx.status ≠ .quiet ∧ ((listening .signal).port 0).state = .survey := by
  decide

/-- A lane that waits for the second mark of `sampleMark`'s identity. -/
def expecting : State :=
  active { seated .survey .survey none with
    lanes := Vector.replicate 8 { signal := true, rx := { status := .signal, candidate := some sampleMark.id, repeats := 1 } } }

/-- The arrivals: upright and inverted, at a QUIET record, at one that holds this identity, has it as candidate,
or neither; and the eighth bad mark. -/
theorem witness_ArrivalsBuildRecord :
    (listening .signal).processed 0 7 = true ∧
      frameBlock ((((listening .signal).port 0).lane 7).received sampleMark.encode) =
        some (false, sampleMark.encode) ∧
      frameBlock ((((listening .signal).port 0).lane 7).received (~~~ sampleMark.encode)) =
        some (true, sampleMark.encode) ∧
      readMark sampleMark.encode = .ok sampleMark ∧
      (((listening .quiet).port 0).lane 7).rx.status = .quiet ∧
      (((listening .signal).port 0).lane 7).rx.candidate ≠ some sampleMark.id ∧
      ((expecting.port 0).lane 7).rx.candidate = some sampleMark.id ∧
      ((((active (seated .survey .survey none)).port 0).lane 2).rx.held.map fun k => k.id) = some sampleMark.id ∧
      readMark (sampleMark.encode ^^^ 1) = .error .check ∧
      7 ≤ ({ consecBad := 7 } : RxRecord).consecBad ∧ ({ consecBad := 6 } : RxRecord).consecBad < 7 := by
  decide +kernel

/-- On an ASSIGNED port: a mark of the held identity, upright and inverted, a bad mark, a missing sync, and both
signal events. -/
theorem witness_LaneEventsReachLinks :
    (linked (upLink 0)).processed 0 2 = true ∧ ((linked (upLink 0)).port 0).state = .assigned ∧
      ((linked (upLink 0)).port 0).laneHalf 2 = .A ∧
      frameBlock ((((linked (upLink 0)).port 0).lane 2).received sampleMark.encode) = some (false, sampleMark.encode) ∧
      frameBlock ((((linked (upLink 0)).port 0).lane 2).received (~~~ sampleMark.encode)) =
        some (true, sampleMark.encode) ∧
      readMark sampleMark.encode = .ok sampleMark ∧
      frameBlock ((((linked (upLink 0)).port 0).lane 2).received (sampleMark.encode ^^^ 1)) =
        some (false, sampleMark.encode ^^^ 1) ∧
      readMark (sampleMark.encode ^^^ 1) = .error .check ∧
      (((linked (upLink 0)).port 0).lane 2).rx.status ≠ .quiet ∧
      ((active { seated .assigned .ready (some (upLink 0)) with lanes := Vector.replicate 8 {} }).processed 0 7 = true ∧
        (((active { seated .assigned .ready (some (upLink 0)) with lanes := Vector.replicate 8 {} }).port 0).lane
          7).rx.status = .quiet) := by decide +kernel

/-! ### Witnesses: supervision -/

/-- Dirty and clean intervals, and the one that is not judged. -/
theorem witness_IntervalMovesScore :
    (linked (upLink 246)).link 0 .A = some (upLink 246) ∧ (upLink 246).state = .up ∧
      (upLink 246).sup.level = some .good ∧ (upLink 246).sup.judging = true ∧
      (∃ r ∈ LaneSet.members (groupLanes (upLink 246).agree.active),
        0 < (Vector.replicate 8 1 : Vector Nat 8)[physLane .A r]) ∧ (246 + 8 : Nat) < 255 ∧
      ({ upLink 0 with sup := { (upLink 0).sup with judging := false } } : Link).sup.judging = false ∧
      (∀ h' l', h' ≠ Half.A → (linked (upLink 246)).link 0 h' = some l' → l'.state ≠ .up) := by
  refine ⟨rfl, by decide, by decide, by decide, ⟨0, by decide, by decide⟩, by decide, by decide, ?_⟩
  intro h' l' hne hl
  cases h'
  · exact absurd rfl hne
  · exact absurd hl nofun

theorem witness_HealthIsolatesLink :
    (linked (upLink 247)).link 0 .A = some (upLink 247) ∧ (upLink 247).state = .up ∧ 247 ≤ (upLink 247).sup.score ∧
      (linked (upLink 223)).processed 0 7 = true ∧ ((linked (upLink 223)).port 0).laneHalf 7 = .A ∧
      LaneSet.has (groupLanes (upLink 223).agree.active) (relLane .A 7) = true ∧ 223 ≤ (upLink 223).sup.score := by
  refine ⟨rfl, by decide⟩

theorem witness_LockLossMarksLane :
    (linked (upLink 222)).processed 0 7 = true ∧ ((linked (upLink 222)).port 0).laneHalf 7 = .A ∧
      (linked (upLink 222)).link 0 .A = some (upLink 222) ∧ (upLink 222).state = .up ∧
      (upLink 222).sup.score < 223 ∧ (linkIn .verified).state ≠ .up := by
  refine ⟨by decide, by decide, rfl, by decide⟩

/-- A clean probe above score 1, a clean one at score 1, with and without a residue, a dirty one, and one after the
change of a held identity. -/
theorem witness_ProbeLowersScore :
    (linked (isolatedLink 2)).link 0 .A = some (isolatedLink 2) ∧ (isolatedLink 2).state = .isolated ∧
      (isolatedLink 2).sup.probeTimer.isSome = true ∧ (isolatedLink 2).sup.probeDirty = false ∧
      (isolatedLink 2).sup.probeChange = false ∧
      (∀ r ∈ LaneSet.members (isolatedLink 2).sup.probeSet,
        (((linked (isolatedLink 2)).port 0).rel .A r).confirmedWith (isolatedLink 2).far = true) ∧
      (isolatedLink 1).sup.score = 1 ∧
      (linked (isolatedLink 1)).checks 0 .A (((linked (isolatedLink 1)).port 0).observe .A) none = none ∧
      ({ isolatedLink 2 with sup := { (isolatedLink 2).sup with probeDirty := true } } : Link).sup.probeDirty = true ∧
      ((isolatedLink 2).noteProbeChange 7 true).sup.probeChange = true ∧
      (upLink 0).state ≠ .isolated ∧
      ((linked (isolatedLink 1)).pos 0 .A).residue = none ∧
      ((active { seated .assigned .ready none with posA := { link := some (isolatedLink 1), residue := some 9 } }).pos 0
        .A).residue = some 9 := by
  refine ⟨rfl, by decide, by decide, by decide, by decide, by decide +kernel, by decide, by decide +kernel, by decide⟩

/-- R77, R136: the probe after a far-end change on a probe lane is unclean though every lane is CONFIRMED with the far
identity, and the one after it is clean. -/
theorem test_far_end_change_spoils_one_probe :
    ((linked (isolatedLink 2)).port 0).probeClean .A (isolatedLink 2) = true ∧
      ((linked (isolatedLink 2)).port 0).probeClean .A ((isolatedLink 2).noteProbeChange 7 true) = false ∧
      ((linked (isolatedLink 2)).port 0).probeClean .A (((isolatedLink 2).noteProbeChange 7 true).probed 10 false) =
        true := by decide +kernel

/-- R137, R67: a recovery at a position that holds a residue stays ISOLATED with it, and posts no RECOVERED. -/
theorem test_recovery_takes_residue :
    (match exec (.probeTimerExpiry 0 .A)
        (active { seated .assigned .ready none with posA := { link := some (isolatedLink 1), residue := some 9 } }) with
      | .next t => ((t.link 0 .A).map fun k => (k.state, k.sup.score, k.sup.isoCause), (t.pos 0 .A).residue,
          t.queue.map fun n => n.detail.kind)
      | _ => (none, none, [])) = (some (.isolated, 9, some .residue), none, [3, 8]) := by decide +kernel

/-! ### Witnesses: verdicts and what moves a link -/

/-- A port with a descriptor whose marked lanes all hold an identity. -/
theorem witness_VerdictTakesFirstFailedCheck :
    ((linked checkingLink).port 0).desc = some cable ∧
      ∀ r, LaneSet.has (((linked checkingLink).port 0).observe .A).marked r = true →
        (((linked checkingLink).port 0).rel .A r).rx.held.isSome = true :=
  ⟨by decide, of_has (by decide +kernel)⟩

/-- Verdicts that pass, pass with a residue, and fail. -/
theorem witness_CheckingEndsWithVerdict :
    (linked checkingLink).link 0 .A = some checkingLink ∧ checkingLink.state = .checking ∧
      checkingLink.quiet.isSome = true ∧ checkingLink.checkEntry.isSome = true ∧
      (linked checkingLink).checks 0 .A (((linked checkingLink).port 0).observe .A) none = none ∧
      ((linked checkingLink).pos 0 .A).residue = none ∧
      ((active { seated .assigned .hold none with posA := { link := some checkingLink, residue := some 9 } }).pos 0
        .A).residue = some 9 ∧
      (active { seated .assigned .hold (some checkingLink) with plan := none }).checks 0 .A
        (((active { seated .assigned .hold (some checkingLink) with plan := none }).port 0).observe .A) none =
        some .noPlan ∧
      ((upLink 0).checkEntry = none ∧ (upLink 0).quiet = none) := by
  refine ⟨rfl, by decide, by decide, by decide, by decide +kernel, by decide, by decide, by decide +kernel, by decide⟩

/-- The phase item alone. -/
def phaseOnly : LaneItems := ⟨false, false, false, true, false, false, false, false⟩

/-- One link of each state; the 500 ms of a CHECKING link on both sides. -/
theorem witness_LaneChangesMoveLinks :
    (linked checkingLink).link 0 .A = some checkingLink ∧ checkingLink.checkEntry = some 0 ∧
      (((499 : Uptime) - 0).toNat < 500 ∧ ¬ ((500 : Uptime) - 0).toNat < 500) ∧
      (linked (linkIn .verified)).link 0 .A = some (linkIn .verified) ∧ (linkIn .verified).state = .verified ∧
      phaseOnly.verdictChange = false ∧ phaseOnly.phase = true ∧
      ({ phaseOnly with tag := true } : LaneItems).verdictChange = true ∧
      ({ phaseOnly with phase := false } : LaneItems).phase = false ∧
      (blockedLink .dark).reason ≠ some .trainFailed ∧ (blockedLink .trainFailed).reason = some .trainFailed ∧
      ((isolatedLink 1).state = .isolated ∧ LaneSet.has (isolatedLink 1).sup.probeSet 7 = true ∧
        LaneSet.has (isolatedLink 1).sup.probeSet 8 = false) := by
  refine ⟨rfl, by decide, by decide, rfl, by decide⟩

/-- Live links of each clause: a new far end; a far end that fell back to HOLD and one that has not, in each stage
of TRAINING; one that left for READY and one that has not, at an UP link. -/
theorem witness_LaneChangesMoveLinks_live :
    ((upLink 0).live = true ∧ (trainingLink .align none).live = true ∧ (some (⟨farEnd, 0⟩ : LaneId)).isSome = true) ∧
      (∀ st ∈ [Stage.equalize, .deskew, .align],
        (active (seated .assigned .hold (some (trainingLink st none)))).link 0 .A = some (trainingLink st none) ∧
        (trainingLink st none).state = .training ∧ (trainingLink st none).training.stage = some st ∧
        ((active (seated .assigned .hold (some (trainingLink st none)))).port 0).farFellBack .A
          (trainingLink st none) = true ∧
        ((active (seated .assigned .train (some (trainingLink st none)))).port 0).farFellBack .A
          (trainingLink st none) = false) ∧
      (linked (upLink 0)).link 0 .A = some (upLink 0) ∧ (upLink 0).state = .up ∧ phaseOnly.phase = true ∧
      ((linked (upLink 0)).port 0).farLeft .A (upLink 0) = true ∧
      ((active (seated .assigned .link (some (upLink 0)))).port 0).farLeft .A (upLink 0) = false := by
  decide +kernel

/-! ### Witnesses: training and the timers of a live link -/

theorem witness_TrainingTimeoutIsCounted :
    (linked (trainingLink .align none)).link 0 .A = some (trainingLink .align none) ∧
      (trainingLink .align none).state = .training ∧ (trainingLink .align none).training.timer.isSome = true ∧
      (trainingLink .align none).attempts + 1 < (linked (trainingLink .align none)).timing.maxAttempts ∧
      (linked (trainingLink .align none)).timing.maxAttempts ≤
        ({ trainingLink .align none with attempts := 2 } : Link).attempts + 1 ∧
      (upLink 0).state ≠ .training := by
  refine ⟨rfl, by decide⟩

theorem witness_DwellsRunThroughList :
    (linked (trainingLink .equalize (some .retained))).link 0 .A = some (trainingLink .equalize (some .retained)) ∧
      (trainingLink .equalize (some .retained)).state = .training ∧
      (trainingLink .equalize (some .retained)).training.dwell = some .retained ∧
      ((linked (trainingLink .equalize (some .retained))).port 0).retainedSucceeds .A
        (trainingLink .equalize (some .retained)) = true ∧
      (trainingLink .equalize (some .retained)).training.attemptLanes ≠ 0 ∧
      ((active { seated .assigned .train none with lanes := Vector.replicate 8 {} }).port 0).retainedSucceeds .A
        (trainingLink .equalize (some .retained)) = false ∧
      (trainingLink .equalize (some (.list 1))).training.dwell = some (.list 1) ∧
      1 < (trainingLink .equalize (some (.list 1))).training.presets.length := by
  refine ⟨rfl, by decide, by decide, by decide +kernel, by decide, by decide +kernel, by decide⟩

/-- The last list dwell: lanes that hear grade 9, none of them weak and the usable set not empty; and lanes that
hear nothing, all of them weak. -/
theorem witness_DwellsRunThroughList_last :
    (trainingLink .equalize (some (.list 2))).training.dwell = some (.list 2) ∧
      (trainingLink .equalize (some (.list 2))).training.presets.length ≤ 2 ∧
      (trainingLink .equalize (some (.list 2))).training.presets.length ≤ 4 ∧
      (linked (trainingLink .equalize (some (.list 2)))).link 0 .A = some (trainingLink .equalize (some (.list 2))) ∧
      (∀ r : Fin 8, laneAt (((linked (trainingLink .equalize (some (.list 2)))).port 0).recordGrades .A
          (trainingLink .equalize (some (.list 2))) 2) r = #v[none, some 9, none, none]) ∧
      ((linked (trainingLink .equalize (some (.list 2)))).port 0).minGrade .A = 6 ∧
      ((linked (trainingLink .equalize (some (.list 2)))).port 0).usable .A
        { trainingLink .equalize (some (.list 2)) with marks := { weak := 0 } } ≠ 0 ∧
      (∀ r : Fin 8, laneAt (((active { seated .assigned .train none with lanes := Vector.replicate 8 {} }).port
          0).recordGrades .A (trainingLink .equalize (some (.list 2))) 2) r = #v[none, none, none, none]) ∧
      ((active { seated .assigned .train none with lanes := Vector.replicate 8 {} }).port 0).usable .A
        { trainingLink .equalize (some (.list 2)) with marks := { weak := 0xFF } } = 0 := by
  refine ⟨rfl, by decide, by decide, rfl, ?_⟩
  decide +kernel

/-- A link with no usable lane selects no group. -/
theorem selects_none {q : PortUnit} {h : Half} {l : Link} (hu : q.usable h l = 0)
    (hn : select (q.span h) 0 = none) (g : Group) : ¬ q.Selects h l g := by
  rintro ⟨S, hs, -, hS⟩
  have h0 : S = 0 := by
    refine BitVec.eq_of_getLsbD_eq fun i _ => ?_
    by_contra hi
    have := ((hS i).1 (by simpa [LaneSet.has] using hi)).1
    simp [hu] at this
  rw [h0, hn] at hs
  exact absurd hs nofun

/-- A link selects the group of the lanes usable at both ends. -/
theorem selects_of {q : PortUnit} {h : Half} {l : Link} {g : Group} (S : LaneSet) (hs : select (q.span h) S = some g)
    (hw : q.minWidth h ≤ g.width)
    (hS : ∀ k : Fin 8, LaneSet.has S k = true ↔ LaneSet.has (q.usable h l) k = true ∧
      LaneSet.has (l.mapping.set (q.span h) (q.farUsable h l)) k = true ∧
      (l.state = .up → LaneSet.has (groupLanes l.agree.active) k = true)) : q.Selects h l g := by
  refine ⟨S, hs, hw, fun r => ?_⟩
  rcases Nat.lt_or_ge r 8 with hr | hr
  · exact hS ⟨r, hr⟩
  · simp [has_above _ r hr]

/-- Port 0 of the part with the given link, its lanes hearing nothing. -/
def deaf (l : Link) : State := active { seated .assigned .train (some l) with lanes := Vector.replicate 8 {} }

/-- A link in ALIGN with a group to select and with none, and one that has adopted. -/
theorem witness_AlignReachesUp :
    (linked (trainingLink .align none)).link 0 .A = some (trainingLink .align none) ∧
      (trainingLink .align none).state = .training ∧ (trainingLink .align none).training.stage = some .align ∧
      (trainingLink .align none).agree.role ≠ none ∧
      ((linked (trainingLink .align none)).port 0).Selects .A (trainingLink .align none) ⟨8, 0⟩ ∧
      (deaf (trainingLink .align none)).link 0 .A = some (trainingLink .align none) ∧
      (∀ g, ¬ ((deaf (trainingLink .align none)).port 0).Selects .A (trainingLink .align none) g) ∧
      ((linked { upLink 0 with state := .training }).port 0).Ready .A { upLink 0 with state := .training } :=
  ⟨rfl, rfl, rfl, nofun, selects_of 0xFF (by decide +kernel) (by decide +kernel) (by decide +kernel), rfl,
    selects_none (by decide +kernel) (by decide), rfl, rfl, nofun⟩

/-- An UP link with a group to select and with none, for each of the two runs. -/
theorem witness_UpGroupIsRegrouped :
    (upLink 0).agree.role = some .senior ∧ ({ upLink 0 with agree := { (upLink 0).agree with role := some .junior } } :
        Link).agree.role = some .junior ∧
      (linked (upLink 0)).link 0 .A = some (upLink 0) ∧ (upLink 0).state = .up ∧ (upLink 0).agree.role ≠ none ∧
      (upLink 0).agree.active = some ⟨8, 0⟩ ∧ (upLink 0).align.recheckState = .idle ∧
      ((linked (upLink 0)).port 0).Selects .A (upLink 0) ⟨8, 0⟩ ∧
      (deaf (upLink 0)).link 0 .A = some (upLink 0) ∧
      ∀ g, ¬ ((deaf (upLink 0)).port 0).Selects .A (upLink 0) g :=
  ⟨rfl, rfl, rfl, rfl, nofun, rfl, rfl, selects_of 0xFF (by decide +kernel) (by decide +kernel) (by decide +kernel), rfl,
    selects_none (by decide +kernel) (by decide)⟩

/-- A link in DESKEW whose collection waits for lane 7 alone, or for two lanes. -/
def collecting (lanes : LaneSet) : Link :=
  { trainingLink .deskew none with
    training := { (trainingLink .deskew none).training with deskew := { lanes := lanes } } }

/-- An UP link whose recheck waits for lane 7 alone, or with the stamp of lane 0 taken. -/
def rechecking (lanes : LaneSet) (first : Option Nat) : Link :=
  { upLink 0 with
    align := { (upLink 0).align with
      recheckState := .collecting, recheck := { lanes := lanes, stamps := #v[first, none, none, none, none, none, none, none] } } }

/-- Collections that a report completes and does not complete, and rechecks kept and shed. -/
theorem witness_StampsEndCollections :
    (7 : Nat) < 8 ∧
      ((linked (collecting 0x80)).link 0 .A = some (collecting 0x80) ∧ (collecting 0x80).state = .training ∧
        (collecting 0x80).training.stage = some .deskew ∧
        ((collecting 0x80).training.deskew.take 7 5).complete = true ∧
        ((collecting 0x81).training.deskew.take 7 5).complete = false) ∧
      ((linked (rechecking 0x80 none)).link 0 .A = some (rechecking 0x80 none) ∧ (rechecking 0x80 none).state = .up ∧
        (rechecking 0x80 none).align.recheckState = .collecting ∧
        ((rechecking 0x80 none).align.recheck.take 7 5).complete = true ∧
        (alignment ((rechecking 0x80 none).align.recheck.take 7 5).stamped).rejected = 0 ∧
        ((rechecking 0x81 none).align.recheck.take 7 5).complete = false ∧
        ((rechecking 0x81 (some 500)).align.recheck.take 7 5).complete = true ∧
        (alignment ((rechecking 0x81 (some 500)).align.recheck.take 7 5).stamped).rejected ≠ 0) ∧
      ¬ ((upLink 0).state = .up ∧ (upLink 0).align.recheckState = .collecting) := by
  decide +kernel


theorem witness_LiveTimersExpire :
    (linked (upLink 0)).link 0 .A = some (upLink 0) ∧ (upLink 0).state = .up ∧
      (upLink 0).agree.regroupTimer.isSome = true ∧ (upLink 0).align.recheckTimer = some ⟨0, 4000⟩ ∧
      groupLanes (upLink 0).agree.active ≠ 0 ∧ (linkIn .verified).state ≠ .up := by
  refine ⟨rfl, by decide⟩

/-! ### Witnesses: groups and alignment -/

theorem witness_SelectionRule :
    (1 ∈ [1, 2, 4, 8] ∧ ∀ r, LaneSet.has 1 r = true → r < 1) ∧
      (8 ∈ [1, 2, 4, 8] ∧ ∀ r, LaneSet.has 0xFF r = true → r < 8) := by
  refine ⟨⟨by decide, fun r h => ?_⟩, by decide, fun r h => ?_⟩
  · by_contra hr
    rcases Nat.lt_or_ge r 8 with h8 | h8
    · interval_cases r <;> simp_all [LaneSet.has]
    · simp [LaneSet.has, BitVec.getLsbD_of_ge _ _ h8] at h
  · by_contra hr
    simp [LaneSet.has, BitVec.getLsbD_of_ge _ _ (Nat.le_of_not_lt hr)] at h

theorem witness_AlignmentChoosesWindow :
    ([(0, 1010), (7, 5)] : List (Nat × Nat)) ≠ [] ∧
      (([(0, 1010), (7, 5)] : List (Nat × Nat)).map Prod.fst).Pairwise (· < ·) ∧
      (∀ x ∈ ([(0, 1010), (7, 5)] : List (Nat × Nat)), x.1 < 8) ∧
      (6 < 8 ∧ 6 ∉ ([(0, 1010), (7, 5)] : List (Nat × Nat)).map Prod.fst) ∧ (0x80 : LaneSet) ≠ 0 ∧
      LaneSet.has 0x80 7 = true ∧ LaneSet.has 0x80 0 = false := by decide

/-! ### Witnesses: invariants -/

/-- The state with an UP link, a tick of the uptime waiting. -/
def ticking : State := { linked (upLink 0) with pending := [.uptimeTick] }

theorem witness_StepKeepsRecordsInOrder :
    step ticking = .next { ticking with pending := [], uptime := 1 } ∧ ticking.QueueOk ∧ ticking.HistoriesOk ∧
      ticking.LineOk ∧ ticking.SettingsOk ∧ ticking.LocateOk ∧ ticking.eventLoss = none := by
  refine ⟨rfl, by decide +kernel, by decide +kernel, by decide +kernel, by decide +kernel, by decide, rfl⟩

theorem witness_StepKeepsPortsInOrder :
    step ticking = .next { ticking with pending := [], uptime := 1 } ∧ ticking.PortsOk ∧ ticking.LanesOk := by
  refine ⟨rfl, by decide +kernel, by decide +kernel⟩

theorem witness_StepKeepsLinksInOrder :
    step ticking = .next { ticking with pending := [], uptime := 1 } ∧ ticking.LinksOk ∧
      (∀ l ∈ [checkingLink, linkIn .verified, blockedLink .dark, trainingLink .equalize (some (.list 1)),
        isolatedLink 9], Link.ok l = true) := by
  refine ⟨rfl, by decide +kernel, by decide +kernel⟩

/-- The UP link of `ticking` is the one link that holds a far identity. -/
theorem ticking_claims : ∀ p : Port,
    ((ticking.claims p .A).isSome = true → p = 0) ∧ ticking.claims p .B = none := by decide +kernel

theorem witness_StepKeepsFarIdentitiesApart :
    step ticking = .next { ticking with pending := [], uptime := 1 } ∧ ticking.NoDuplicates := by
  refine ⟨rfl, ?_⟩
  intro p h p' h' f h1 h2
  have key : ∀ q (k : Half), ticking.claims q k = some f → q = 0 ∧ k = .A := by
    intro q k e
    cases k
    · exact ⟨(ticking_claims q).1 (by simp [e]), rfl⟩
    · simp [(ticking_claims q).2] at e
  exact ⟨(key p h h1).1.trans (key p' h' h2).1.symm, (key p h h1).2.trans (key p' h' h2).2.symm⟩

theorem witness_StepKeepsLinkRanges :
    step ticking = .next { ticking with pending := [], uptime := 1 } ∧ ticking.PortsOk ∧ ticking.SettingsOk ∧
      ticking.RangesOk := by
  refine ⟨rfl, by decide +kernel, by decide +kernel, by decide +kernel⟩

end Sys2Proof.Tests
end

/-! SUPPORT and PROOF. The contents of a descriptor: what each field code means, which lane count is stored,
and the exact condition of R6 for usable contents. -/

namespace Sys2Proof.Machine

open Sys2Proof

/-! ### The fields of a descriptor -/

/-- R176: FULL has code 1 and SPLIT code 2, and no other code has a form. -/
theorem formOfCode_eq_some (b : Byte) (f : Form) :
    formOfCode b = some f ↔ (b = 1 ∧ f = .full) ∨ (b = 2 ∧ f = .split) := by
  simp only [← BitVec.toNat_inj, formOfCode]
  split
  · next hb => simp [hb, eq_comm]
  · next hb => simp [hb, eq_comm]
  · next h1 h2 =>
    have hb1 : b.toNat ≠ 1 := h1
    have hb2 : b.toNat ≠ 2 := h2
    simp [hb1, hb2]

/-- R176: the codes 1, 2 and 3 are those of the media, and no other code has one. -/
theorem mediaOfCode_eq_some (b : Byte) (m : Media) :
    mediaOfCode b = some m ↔
      (b = 1 ∧ m = .passiveCopper) ∨ (b = 2 ∧ m = .activeCopper) ∨ (b = 3 ∧ m = .optical) := by
  simp only [← BitVec.toNat_inj, mediaOfCode]
  split
  · next hb => simp [hb, eq_comm]
  · next hb => simp [hb, eq_comm]
  · next hb => simp [hb, eq_comm]
  · next h1 h2 h3 =>
    have hb1 : b.toNat ≠ 1 := h1
    have hb2 : b.toNat ≠ 2 := h2
    have hb3 : b.toNat ≠ 3 := h3
    simp [hb1, hb2, hb3]

/-- R6: the stored lane count is the greatest of 1, 2, 4 and 8 that the received count reaches. -/
theorem storedLanes_eq_some (r n : Nat) :
    storedLanes r = some n ↔
      n ∈ [1, 2, 4, 8] ∧ n ≤ r ∧ ∀ w ∈ [1, 2, 4, 8], w ≤ r → w ≤ n := by
  simp only [List.mem_cons, List.not_mem_nil, or_false, forall_eq_or_imp, forall_eq, storedLanes]
  split_ifs
  · simp only [false_iff]; omega
  all_goals simp only [Option.some.injEq]; omega

/-! ### The contents as a whole -/

/-- R6: contents are usable when every field is and SPLIT stores 8 lanes, and the descriptor holds the fields. -/
theorem descriptorOf_eq_some (b0 b1 b2 b3 : Byte) (d : Descriptor) :
    descriptorOf b0 b1 b2 b3 = some d ↔
      formOfCode b0 = some d.form ∧ storedLanes (b1.toNat % 16) = some d.lanes ∧
        mediaOfCode b2 = some d.media ∧ (d.form = .split → d.lanes = 8) ∧
        d.length = b3.toNat ∧ d.adjusted = decide (d.lanes ≠ b1.toNat % 16) := by
  obtain ⟨form, lanes, media, length, adjusted⟩ := d
  have received : (b1.extractLsb' 0 4).toNat = b1.toNat % 16 := by simp
  have adjusts (n r : Nat) : (n != r) = decide (n ≠ r) := by rw [Bool.eq_iff_iff]; simp
  simp only [descriptorOf, received, adjusts]
  split
  · next f n m hf hn hm =>
    simp only [hf, hn, hm, Option.some.injEq]
    split
    · next hbad =>
      obtain ⟨rfl, hn8⟩ := hbad
      simp only [reduceCtorEq, false_iff]
      rintro ⟨rfl, rfl, -, hsplit, -⟩
      exact hn8 (hsplit rfl)
    · next hgood =>
      simp only [Option.some.injEq, Descriptor.mk.injEq]
      constructor
      · rintro ⟨rfl, rfl, rfl, rfl, rfl⟩
        exact ⟨rfl, rfl, rfl, fun hs => by_contra fun h8 => hgood ⟨hs, h8⟩, rfl, rfl⟩
      · rintro ⟨rfl, rfl, rfl, -, rfl, hadj⟩
        exact ⟨rfl, rfl, rfl, rfl, hadj.symm⟩
  · next h =>
    simp only [reduceCtorEq, false_iff]
    rintro ⟨hf, hn, hm, -⟩
    exact h _ _ _ hf hn hm

/-- Settles O33, field by field. -/
theorem descriptorContents : Obligations.DescriptorContents := by
  intro b0 b1 b2 b3 d
  rw [descriptorOf_eq_some, formOfCode_eq_some, storedLanes_eq_some, mediaOfCode_eq_some]
  constructor
  · rintro ⟨hform, ⟨hmem, hle, hmax⟩, hmedia, hsplit, hlength, hadjusted⟩
    exact ⟨hform.imp_right fun ⟨hb, hf⟩ => ⟨hb, hf, hsplit hf⟩, hmem, hle, hmax, hmedia, hlength, hadjusted⟩
  · rintro ⟨hform, hmem, hle, hmax, hmedia, hlength, hadjusted⟩
    have hsplit : d.form = .split → d.lanes = 8 := by
      obtain ⟨-, hfull⟩ | ⟨-, -, h8⟩ := hform
      · simp [hfull]
      · exact fun _ => h8
    exact ⟨hform.imp_right fun ⟨hb, hf, _⟩ => ⟨hb, hf⟩, ⟨hmem, hle, hmax⟩, hmedia, hsplit, hlength, hadjusted⟩

end Sys2Proof.Machine

/-! SUPPORT and PROOF. The indicator of a port: its source signal by source (R16) and its IND output by the
rows of R17. -/

namespace Sys2Proof.Machine

open Sys2Proof

/-! ### The links of a port -/

theorem PortUnit.mem_links (q : PortUnit) (l : Link) : l ∈ q.links ↔ ∃ h, (q.pos h).link = some l := by
  have hlinks : q.links = q.posA.link.toList ++ q.posB.link.toList := by
    unfold PortUnit.links
    cases q.posA.link <;> cases q.posB.link <;> rfl
  rw [hlinks, List.mem_append, Option.mem_toList, Option.mem_toList]
  constructor
  · rintro (hA | hB)
    · exact ⟨.A, hA⟩
    · exact ⟨.B, hB⟩
  · rintro ⟨_ | _, h⟩
    · exact .inl h
    · exact .inr h

/-- A link of a port passes a test when the link of one of its halves does. -/
theorem PortUnit.any_links (q : PortUnit) (f : Link → Bool) :
    q.links.any f = true ↔ ∃ h l, (q.pos h).link = some l ∧ f l = true := by
  simp only [List.any_eq_true, q.mem_links]
  exact ⟨fun ⟨l, ⟨h, hl⟩, hf⟩ => ⟨h, l, hl, hf⟩, fun ⟨h, l, hl, hf⟩ => ⟨l, ⟨h, hl⟩, hf⟩⟩

/-- Every link of a port passes a test when the link of each half does that has one. -/
theorem PortUnit.all_links (q : PortUnit) (f : Link → Bool) :
    q.links.all f = true ↔ ∀ h l, (q.pos h).link = some l → f l = true := by
  simp only [List.all_eq_true, q.mem_links]
  exact ⟨fun hall h l hl => hall l ⟨h, hl⟩, fun hall l ⟨h, hl⟩ => hall h l hl⟩

/-! ### The source signal (R16) -/

section
variable (q : PortUnit)

theorem PortUnit.sourceSignal_off (h : q.state = .off) : q.sourceSignal = false := by
  unfold PortUnit.sourceSignal
  split <;> simp [h]

theorem PortUnit.sourceSignal_present (h : q.indSource = .present) :
    q.sourceSignal = true ↔ q.state ≠ .off ∧ q.accepted = true := by
  simp [PortUnit.sourceSignal, h]

theorem PortUnit.sourceSignal_upAny (h : q.indSource = .upAny) :
    q.sourceSignal = true ↔ q.state = .assigned ∧ ∃ h l, (q.pos h).link = some l ∧ l.state = .up := by
  simp only [PortUnit.sourceSignal, h, Bool.and_eq_true, q.any_links, beq_iff_eq]

theorem PortUnit.sourceSignal_upAll (h : q.indSource = .upAll) :
    q.sourceSignal = true ↔ q.state = .assigned ∧ ∀ h l, (q.pos h).link = some l → l.state = .up := by
  simp only [PortUnit.sourceSignal, h, Bool.and_eq_true, q.all_links, beq_iff_eq]

theorem PortUnit.sourceSignal_attention (h : q.indSource = .attention) :
    q.sourceSignal = true ↔ q.state = .cableFault ∨ (q.state = .assigned ∧
      ∃ h l, (q.pos h).link = some l ∧ (l.state = .blocked ∨ l.state = .isolated)) := by
  simp only [PortUnit.sourceSignal, h, Bool.or_eq_true, Bool.and_eq_true, q.any_links, beq_iff_eq]

theorem PortUnit.sourceSignal_health (h : q.indSource = .health) :
    q.sourceSignal = true ↔ q.state = .assigned ∧ ∃ h l, (q.pos h).link = some l ∧ l.state = .up ∧
      (l.sup.level = some .warned ∨ l.sup.level = some .degraded) := by
  simp only [PortUnit.sourceSignal, h, Bool.or_eq_true, Bool.and_eq_true, q.any_links, beq_iff_eq]

end

/-! ### The IND output (R17) -/

section
variable {s : State} {p : Port}

theorem State.ind_of_locate (hl : s.holdsLocate p = true) : s.ind p = s.blinkOn := by
  simp [State.ind, hl]

theorem State.ind_of_not_locate (hl : s.holdsLocate p = false) : s.ind p = (s.port p).indicator := by
  simp [State.ind, hl]

theorem State.ind_direct_on (hl : s.holdsLocate p = false) (hd : (s.port p).indDirect = .on) : s.ind p = true := by
  simp [State.ind_of_not_locate hl, PortUnit.indicator, hd]

theorem State.ind_direct_off (hl : s.holdsLocate p = false) (hd : (s.port p).indDirect = .off) :
    s.ind p = false := by
  simp [State.ind_of_not_locate hl, PortUnit.indicator, hd]

/-- Without direct drive the output is the source signal, inverted where the invert setting is yes. -/
theorem State.ind_direct_none (hl : s.holdsLocate p = false) (hd : (s.port p).indDirect = .none) :
    s.ind p = ((s.port p).sourceSignal != (s.port p).indInvert) := by
  simp [State.ind_of_not_locate hl, PortUnit.indicator, hd]

end

/-- Settles O26: the rows of R17, then the sources of R16. -/
theorem indicatorFollowsTable : Obligations.IndicatorFollowsTable := by
  intro s p
  refine ⟨State.ind_of_locate, State.ind_direct_on, State.ind_direct_off, fun hl hd hi => ?_, fun hl hd hi => ?_,
    (s.port p).sourceSignal_off, (s.port p).sourceSignal_present, (s.port p).sourceSignal_upAny,
    (s.port p).sourceSignal_upAll, (s.port p).sourceSignal_attention, (s.port p).sourceSignal_health⟩
  · simp [State.ind_direct_none hl hd, hi]
  · simp [State.ind_direct_none hl hd, hi]

end Sys2Proof.Machine

/-! SUPPORT and PROOF. The fields of an outgoing mark that follow the port and the link: the phase (R23), and
the usable set, the proposal and the accept flag (R25), with the lanes of a usable set (R82). -/

namespace Sys2Proof.Machine

open Sys2Proof

/-! ### The usable set of a link (R82) -/

theorem has_compl {r : Nat} (hr : r < 8) (S : LaneSet) : LaneSet.has (~~~S) r = !LaneSet.has S r := by
  simp [LaneSet.has, hr]

theorem Marks.has_excluded (m : Marks) (r : Nat) :
    LaneSet.has m.excluded r =
      (LaneSet.has m.weak r || LaneSet.has m.skewRejected r || LaneSet.has m.lockLost r) := by
  simp only [Marks.excluded, Marks.skewRejected, has_or, Bool.or_assoc]

theorem LaneUnit.confirmedWith_iff (x : LaneUnit) (far : Option FarId) :
    x.confirmedWith far = true ↔ x.rx.status = .confirmed ∧ ∀ f, far = some f → x.heldFar = some f := by
  cases far <;> simp [LaneUnit.confirmedWith]

section
variable (q : PortUnit) (h : Half)

theorem PortUnit.has_confirmedSet (far : Option FarId) (r : Nat) :
    LaneSet.has (q.confirmedSet h far) r = true ↔ r < 8 ∧ r < q.span h ∧ (q.rel h r).rx.status = .confirmed ∧
      ∀ f, far = some f → (q.rel h r).heldFar = some f := by
  simp only [PortUnit.confirmedSet, has_laneSet, Bool.and_eq_true, decide_eq_true_eq, LaneUnit.confirmedWith_iff]

/-- The exclusion marks take a lane out of the usable set of a live link, and of no other. -/
theorem PortUnit.has_usable (l : Link) (r : Nat) :
    LaneSet.has (q.usable h l) r = true ↔ LaneSet.has (q.confirmedSet h l.far) r = true ∧
      (l.live = true → LaneSet.has l.marks.excluded r = false) := by
  unfold PortUnit.usable
  split
  · next hlive =>
    have hcompl : LaneSet.has (q.confirmedSet h l.far) r = true →
        LaneSet.has (~~~l.marks.excluded) r = !LaneSet.has l.marks.excluded r :=
      fun hr => has_compl ((q.has_confirmedSet h l.far r).mp hr).1 _
    rw [has_and, Bool.and_eq_true]
    exact and_congr_right fun hr => by simp [hcompl hr, hlive]
  · next hdead => simp [hdead]

/-! ### The phase of a link's marks (R23) -/

/-- A VERIFIED link says READY exactly while it has the permission to train. -/
theorem PortUnit.linkPhase_verified {l : Link} (hv : l.state = .verified) :
    q.linkPhase h l = if q.permitted h l then .ready else .hold := by
  simp [PortUnit.linkPhase, hv]

/-- Outside VERIFIED the state of the link alone gives the phase. -/
theorem PortUnit.linkPhase_not_verified (l : Link) :
    (l.state = .checking ∨ l.state = .blocked ∨ l.state = .isolated → q.linkPhase h l = .hold) ∧
      (l.state = .training → q.linkPhase h l = .train) ∧ (l.state = .up → q.linkPhase h l = .link) := by
  unfold PortUnit.linkPhase
  cases l.state <;> simp

/-! ### The fields of the mark (R23, R25) -/

theorem PortUnit.linkFields_survey (hs : q.state = .survey) :
    q.linkFields h = (.survey, q.confirmedSet h none, none, false) := by
  simp [PortUnit.linkFields, hs]

theorem PortUnit.linkFields_assigned {l : Link} (hs : q.state = .assigned) (hl : (q.pos h).link = some l) :
    q.linkFields h = (q.linkPhase h l, q.usable h l, l.agree.proposal, l.agree.accept) := by
  simp [PortUnit.linkFields, hs, hl]

end

/-- The four fields of a lane's mark are those of its half, the same for every lane of the half. -/
theorem State.formMark_linkFields (s : State) (p : Port) (i : Lane) (quality : BitVec 4) :
    ((s.formMark p i quality).phase, (s.formMark p i quality).usable, (s.formMark p i quality).proposal,
      (s.formMark p i quality).accept) = (s.port p).linkFields ((s.port p).laneHalf i) := rfl

/-- Settles O36: the row of the port's state in R25, with the phases of R23. -/
theorem markFieldsFollowLink : Obligations.MarkFieldsFollowLink := by
  rintro s p i quality h l m hh rfl
  have hfields := s.formMark_linkFields p i quality
  rw [← hh] at hfields
  refine ⟨fun hs => ?survey, fun hs hl => ?assigned⟩
  case survey =>
    rw [PortUnit.linkFields_survey _ _ hs] at hfields
    simp only [Prod.mk.injEq] at hfields
    obtain ⟨hphase, husable, hproposal, haccept⟩ := hfields
    refine ⟨hphase, hproposal, haccept, fun r => ?_⟩
    rw [husable, PortUnit.has_confirmedSet]
    simp
  case assigned =>
    rw [PortUnit.linkFields_assigned _ _ hs hl] at hfields
    simp only [Prod.mk.injEq] at hfields
    obtain ⟨hphase, husable, hproposal, haccept⟩ := hfields
    obtain ⟨hhold, htrain, hlink⟩ := (s.port p).linkPhase_not_verified h l
    rw [hphase]
    refine ⟨fun hc => hhold (.inl hc), fun hb => hhold (.inr (.inl hb)), fun hi => hhold (.inr (.inr hi)),
      fun hv hp => ?_, fun hv hp => ?_, htrain, hlink, hproposal, haccept, fun r => ?_⟩
    · simp [PortUnit.linkPhase_verified _ _ hv, hp]
    · simp [PortUnit.linkPhase_verified _ _ hv, hp]
    · rw [husable, PortUnit.has_usable, PortUnit.has_confirmedSet, Marks.has_excluded]
      simp only [Bool.or_eq_false_iff, and_assoc]

end Sys2Proof.Machine

/-! SUPPORT and PROOF. The selection rule (R79): the candidate groups of R78 as a condition and in their order,
the groups that lie inside a set, and their mirrors under a REVERSED map class. -/

namespace Sys2Proof.Machine

open Sys2Proof

/-- Two lane sets with the same members are equal. -/
theorem eq_of_has_eq {S T : LaneSet} (h : ∀ r, LaneSet.has S r = LaneSet.has T r) : S = T :=
  BitVec.eq_of_getLsbD_eq fun r _ => h r

/-! ### Candidate groups (R78) -/

theorem span_le_eight {n : Nat} (hn : n ∈ [1, 2, 4, 8]) : n ≤ 8 :=
  (by decide : ∀ n ∈ [1, 2, 4, 8], n ≤ 8) n hn

/-- R78: `g` has an allowed width, starts at a multiple of it and ends within the span `n`. -/
def Group.InSpan (n : Nat) (g : Group) : Prop :=
  g.width ∈ [1, 2, 4, 8] ∧ g.start % g.width = 0 ∧ g.start + g.width ≤ n

/-- R79: the order of preference: the greater width, then the lower start. -/
def Group.Before (g k : Group) : Prop :=
  k.width < g.width ∨ (k.width = g.width ∧ g.start ≤ k.start)

theorem Group.Before.refl (g : Group) : g.Before g := .inr ⟨rfl, le_rfl⟩

theorem Group.Before.antisymm {g k : Group} (hgk : g.Before k) (hkg : k.Before g) : g = k := by
  obtain ⟨w, s⟩ := g
  obtain ⟨w', s'⟩ := k
  simp only [Group.Before, Group.mk.injEq] at *
  omega

theorem Group.Before.width_le {g k : Group} (h : g.Before k) : k.width ≤ g.width :=
  h.elim le_of_lt fun heq => heq.1.le

theorem Group.InSpan.width_pos {n : Nat} {g : Group} (hg : g.InSpan n) : 0 < g.width :=
  (by decide : ∀ w ∈ [1, 2, 4, 8], 0 < w) _ hg.1

theorem mem_laneNumbers (r : Nat) : r ∈ laneNumbers ↔ r < 8 := by
  simp only [laneNumbers, List.mem_cons, List.not_mem_nil, or_false]
  omega

theorem mem_candidateGroups {n : Nat} (hn : n ≤ 8) (g : Group) : g ∈ candidateGroups n ↔ g.InSpan n := by
  obtain ⟨w, s⟩ := g
  simp only [candidateGroups, Group.InSpan, List.mem_flatMap, List.mem_filter, List.mem_map, mem_laneNumbers,
    Bool.and_eq_true, beq_iff_eq, decide_eq_true_eq, Group.mk.injEq]
  have hwidths (x : Nat) : x ∈ [8, 4, 2, 1] ↔ x ∈ [1, 2, 4, 8] := List.mem_reverse (as := [1, 2, 4, 8])
  constructor
  · rintro ⟨w, ⟨hw, -⟩, s, ⟨-, hmod, hend⟩, rfl, rfl⟩
    exact ⟨(hwidths w).mp hw, hmod, hend⟩
  · rintro ⟨hw, hmod, hend⟩
    have hpos : 0 < w := Group.InSpan.width_pos (g := ⟨w, s⟩) ⟨hw, hmod, hend⟩
    exact ⟨w, ⟨(hwidths w).mpr hw, by omega⟩, s, ⟨by omega, hmod, hend⟩, rfl, rfl⟩

/-- The list of candidate groups is in the order of preference. -/
theorem candidateGroups_pairwise (n : Nat) : (candidateGroups n).Pairwise Group.Before := by
  have hwidths : [8, 4, 2, 1].Pairwise fun w w' => w' < w := by decide
  have hstarts : laneNumbers.Pairwise (· ≤ ·) := by decide
  refine List.pairwise_flatMap.mpr ⟨fun w _ => ?sameWidth, (hwidths.filter _).imp fun hlt => ?lessWidth⟩
  case sameWidth => exact List.pairwise_map.mpr ((hstarts.filter _).imp fun hle => .inr ⟨rfl, hle⟩)
  case lessWidth =>
    intro g hg k hk
    obtain ⟨s, -, rfl⟩ := List.mem_map.mp hg
    obtain ⟨s', -, rfl⟩ := List.mem_map.mp hk
    exact .inl hlt

/-! ### The group that is selected (R79) -/

/-- In a list ordered by `R`, the first element that meets `p` is the one that `R` puts before every other. -/
theorem find?_eq_some_iff_of_pairwise {α : Type} {R : α → α → Prop} (hrefl : ∀ a, R a a)
    (hanti : ∀ {a b}, R a b → R b a → a = b) {p : α → Bool} {L : List α} (hL : L.Pairwise R) (a : α) :
    L.find? p = some a ↔ a ∈ L ∧ p a = true ∧ ∀ b ∈ L, p b = true → R a b := by
  induction L with
  | nil => simp
  | cons x L ih =>
    obtain ⟨hx, hL⟩ := List.pairwise_cons.mp hL
    cases hp : p x with
    | false =>
      rw [List.find?_cons_of_neg (by simp [hp]), ih hL]
      simp only [List.mem_cons, forall_eq_or_imp, hp, Bool.false_eq_true, false_implies, true_and]
      refine and_congr_left fun ⟨ha, _⟩ => (or_iff_right ?_).symm
      rintro rfl
      simp [hp] at ha
    | true =>
      rw [List.find?_cons_of_pos hp, Option.some.injEq]
      constructor
      · rintro rfl
        exact ⟨List.mem_cons_self, hp, List.forall_mem_cons.mpr ⟨fun _ => hrefl x, fun b hb _ => hx b hb⟩⟩
      · rintro ⟨ha, -, hfirst⟩
        obtain rfl | ha := List.mem_cons.mp ha
        · rfl
        · exact hanti (hx a ha) (hfirst x List.mem_cons_self hp)

/-- R79: `g` is a candidate group of the span `n` that lies wholly inside the set `S`. -/
def Group.Inside (n : Nat) (S : LaneSet) (g : Group) : Prop :=
  g.InSpan n ∧ ∀ r, g.start ≤ r → r < g.start + g.width → LaneSet.has S r = true

theorem inside_iff {n : Nat} (hn : n ≤ 8) (S : LaneSet) (g : Group) :
    g.Inside n S ↔ g ∈ candidateGroups n ∧ LaneSet.within g.lanes S = true := by
  rw [mem_candidateGroups hn]
  refine and_congr_right fun ⟨_, _, hend⟩ => ?_
  simp only [within_iff, has_lanes, Bool.and_eq_true, decide_eq_true_eq]
  exact forall_congr' fun r => ⟨fun h ⟨_, hlo, hhi⟩ => h hlo hhi, fun h hlo hhi => h ⟨by omega, hlo, hhi⟩⟩

/-- R79: the selection is the group inside the set that comes before every other. -/
theorem select_eq_some_iff {n : Nat} (hn : n ≤ 8) (S : LaneSet) (g : Group) :
    select n S = some g ↔ g.Inside n S ∧ ∀ k : Group, k.Inside n S → g.Before k := by
  rw [select, find?_eq_some_iff_of_pairwise Group.Before.refl Group.Before.antisymm (candidateGroups_pairwise n)]
  simp only [inside_iff hn, and_assoc, and_imp]

theorem select_eq_none_iff_forall {n : Nat} (hn : n ≤ 8) (S : LaneSet) :
    select n S = none ↔ ∀ g : Group, ¬ g.Inside n S := by
  simp only [select, List.find?_eq_none, inside_iff hn, not_and]

/-- R79 (3): every member alone is a candidate group of width 1, so only the empty set selects none. -/
theorem select_eq_none_iff {n : Nat} (hn : n ≤ 8) {S : LaneSet} (hS : ∀ r, LaneSet.has S r = true → r < n) :
    select n S = none ↔ S = 0 := by
  rw [select_eq_none_iff_forall hn]
  constructor
  · intro hnone
    refine eq_of_has_eq fun r => (Bool.eq_false_iff.mpr fun hr => hnone ⟨1, r⟩ ?_).trans (has_zero r).symm
    refine ⟨⟨by simp, Nat.mod_one r, hS r hr⟩, fun i hlo hhi => ?_⟩
    obtain rfl : i = r := by simp only at hlo hhi; omega
    exact hr
  · rintro rfl g ⟨hspan, hin⟩
    have hfirst := hin g.start le_rfl (Nat.lt_add_of_pos_right hspan.width_pos)
    exact absurd hfirst (by simp)

/-! ### The mirror of a set (R78, R81) -/

theorem has_reversed {n : Nat} (hn : n ≤ 8) (S : LaneSet) (r : Nat) :
    LaneSet.has (MapClass.reversed.set n S) r = true ↔ r < n ∧ LaneSet.has S (n - 1 - r) = true := by
  simp only [MapClass.set, has_laneSet, Bool.and_eq_true, decide_eq_true_eq]
  exact ⟨fun ⟨_, h⟩ => h, fun h => ⟨by omega, h⟩⟩

/-- The mirror of the mirror of a set within the span is the set. -/
theorem reversed_reversed {n : Nat} (hn : n ≤ 8) {S : LaneSet} (hS : ∀ r, LaneSet.has S r = true → r < n) :
    MapClass.reversed.set n (MapClass.reversed.set n S) = S := by
  refine eq_of_has_eq fun r => Bool.eq_iff_iff.mpr ?_
  rw [has_reversed hn, has_reversed hn]
  constructor
  · rintro ⟨hr, -, h⟩
    rwa [show n - 1 - (n - 1 - r) = r by omega] at h
  · intro h
    have hr := hS r h
    exact ⟨hr, by omega, by rwa [show n - 1 - (n - 1 - r) = r by omega]⟩

/-- Both are powers of two (R78). -/
theorem width_dvd_span {n w : Nat} (hn : n ∈ [1, 2, 4, 8]) (hw : w ∈ [1, 2, 4, 8]) (hle : w ≤ n) : w ∣ n :=
  (by decide : ∀ n ∈ [1, 2, 4, 8], ∀ w ∈ [1, 2, 4, 8], w ≤ n → w ∣ n) n hn w hw hle

/-- R78: a candidate group inside a set has a mirror, a candidate group of its width inside the mirror of the set. -/
theorem Group.Inside.mirror {n : Nat} (hn : n ∈ [1, 2, 4, 8]) {S : LaneSet} {g : Group} (hg : g.Inside n S) :
    ∃ k, MapClass.reversed.group n g = some k ∧ k.width = g.width ∧ k.Inside n (MapClass.reversed.set n S) := by
  obtain ⟨⟨hw, hmod, hend⟩, hin⟩ := hg
  have hdvd : g.width ∣ n - g.start - g.width :=
    Nat.dvd_sub (Nat.dvd_sub (width_dvd_span hn hw (by omega)) (Nat.dvd_of_mod_eq_zero hmod)) dvd_rfl
  refine ⟨⟨g.width, n - g.start - g.width⟩, if_pos hend, rfl, ⟨hw, Nat.mod_eq_zero_of_dvd hdvd, ?fits⟩, ?lanes⟩
  case fits => simp only; omega
  case lanes =>
    intro r hlo hhi
    simp only at hlo hhi
    exact (has_reversed (span_le_eight hn) S r).mpr ⟨by omega, hin _ (by omega) (by omega)⟩

/-- Every group inside the set has a mirror of its width, so the mirror of the set selects no less. -/
theorem groupWidth_select_le_reversed {n : Nat} (hn : n ∈ [1, 2, 4, 8]) (S : LaneSet) :
    groupWidth (select n S) ≤ groupWidth (select n (MapClass.reversed.set n S)) := by
  have hn8 := span_le_eight hn
  cases hg : select n S with
  | none => exact Nat.zero_le _
  | some g =>
    obtain ⟨m, -, hwidth, hm⟩ := ((select_eq_some_iff hn8 S g).mp hg).1.mirror hn
    cases hk : select n (MapClass.reversed.set n S) with
    | none => exact absurd hm ((select_eq_none_iff_forall hn8 _).mp hk m)
    | some k =>
      obtain ⟨-, hfirst⟩ := (select_eq_some_iff hn8 _ k).mp hk
      simpa only [groupWidth, hwidth] using (hfirst m hm).width_le

/-- R79: the width does not depend on the numbering. -/
theorem groupWidth_select_reversed {n : Nat} (hn : n ∈ [1, 2, 4, 8]) {S : LaneSet}
    (hS : ∀ r, LaneSet.has S r = true → r < n) :
    groupWidth (select n (MapClass.reversed.set n S)) = groupWidth (select n S) := by
  have hn8 := span_le_eight hn
  refine le_antisymm ?_ (groupWidth_select_le_reversed hn S)
  have hback := groupWidth_select_le_reversed hn (MapClass.reversed.set n S)
  rwa [reversed_reversed hn8 hS] at hback

/-- Settles O53: R79 by the order of the candidate groups, with the mirror of R78. -/
theorem selectionRule : Obligations.SelectionRule := by
  intro n S hn hS
  have hn8 := span_le_eight hn
  refine ⟨select_eq_none_iff hn8 hS, groupWidth_select_reversed hn hS, fun g => ?_⟩
  rw [select_eq_some_iff hn8]
  simp only [Group.Inside, Group.InSpan, Group.Before, and_assoc]
  refine and_congr_right fun _ => and_congr_right fun _ => and_congr_right fun _ => and_congr_right fun _ => ?_
  exact ⟨fun h w start hw hmod hend hin => h ⟨w, start⟩ ⟨hw, hmod, hend, hin⟩,
    fun h k ⟨hw, hmod, hend, hin⟩ => h k.width k.start hw hmod hend hin⟩

end Sys2Proof.Machine

/-! SUPPORT and PROOF. The alignment computation: the wrapped differences (R97), the choice of the window (R98), the
skews, the rejected set and the spread (R97, R99), and the deskew delays of a group (R100). -/

namespace Sys2Proof.Machine

open Sys2Proof

/-- A lane set is empty exactly when it has no member. -/
theorem eq_zero_iff_has_eq_false (S : LaneSet) : S = 0 ↔ ∀ r, LaneSet.has S r = false :=
  ⟨fun h r => h ▸ has_zero r, fun h => eq_of_has_eq fun r => (h r).trans (has_zero r).symm⟩

/-! ### Folds that keep the better of two -/

/-- A fold that at each step keeps the better of its value and the next element ends with the best of them all. -/
theorem foldl_mem_and_best {α : Type} {R : α → α → Prop} (hrefl : ∀ a, R a a)
    (htrans : ∀ {a b c}, R a b → R b c → R a c) {f : α → α → α} (L : List α) (b : α)
    (hL : (b :: L).Pairwise fun b x => (f b x = b ∧ R b x) ∨ (f b x = x ∧ R x b)) :
    L.foldl f b ∈ b :: L ∧ ∀ x ∈ b :: L, R (L.foldl f b) x := by
  induction L generalizing b with
  | nil => simp [hrefl]
  | cons x L ih =>
    obtain ⟨hb, hxL⟩ := List.pairwise_cons.mp hL
    obtain ⟨hkeep, hbest⟩ | ⟨hkeep, hbest⟩ := hb x List.mem_cons_self
    · obtain ⟨hmem, hall⟩ := ih b (hL.sublist ((List.sublist_cons_self x L).cons_cons b))
      obtain ⟨hfirst, hrest⟩ := List.forall_mem_cons.mp hall
      rw [List.foldl_cons, hkeep]
      refine ⟨List.Sublist.mem hmem ((List.sublist_cons_self x L).cons_cons b), ?_⟩
      exact List.forall_mem_cons.mpr ⟨hfirst, List.forall_mem_cons.mpr ⟨htrans hfirst hbest, hrest⟩⟩
    · obtain ⟨hmem, hall⟩ := ih x hxL
      rw [List.foldl_cons, hkeep]
      exact ⟨List.mem_cons_of_mem b hmem, List.forall_mem_cons.mpr ⟨htrans (hall x List.mem_cons_self) hbest, hall⟩⟩

theorem foldl_max_mem_and_le {α : Type} [LinearOrder α] (L : List α) (b : α) :
    L.foldl max b ∈ b :: L ∧ ∀ x ∈ b :: L, x ≤ L.foldl max b :=
  foldl_mem_and_best (R := (· ≥ ·)) le_refl (fun hab hbc => le_trans hbc hab) L b <|
    List.pairwise_of_forall fun b x => (le_total x b).imp (fun h => ⟨max_eq_left h, h⟩) fun h => ⟨max_eq_right h, h⟩

theorem foldl_min_mem_and_le {α : Type} [LinearOrder α] (L : List α) (b : α) :
    L.foldl min b ∈ b :: L ∧ ∀ x ∈ b :: L, L.foldl min b ≤ x :=
  foldl_mem_and_best (R := (· ≤ ·)) le_refl le_trans L b <|
    List.pairwise_of_forall fun b x => (le_total b x).imp (fun h => ⟨min_eq_left h, h⟩) fun h => ⟨min_eq_right h, h⟩

/-! ### The wrapped differences (R97) -/

theorem wrapDiff_bounds (a b : Nat) : -512 ≤ wrapDiff a b ∧ wrapDiff a b ≤ 511 := by
  unfold wrapDiff; omega

theorem wrapDiff_congr (a b : Nat) : (wrapDiff a b - ((a : Int) - b)) % 1024 = 0 := by
  unfold wrapDiff; omega

theorem wrapDiff_self (a : Nat) : wrapDiff a a = 0 := by
  unfold wrapDiff; omega

/-- R97: the pivot is the first lane and has difference 0. -/
theorem wrapDiffs_cons (pivot : Nat × Nat) (rest : List (Nat × Nat)) :
    wrapDiffs (pivot :: rest) = (pivot.1, 0) :: rest.map fun x => (x.1, wrapDiff x.2 pivot.2) := by
  simp [wrapDiffs, wrapDiff_self]

/-- R97: the computation keeps the lanes and their order. -/
theorem map_fst_wrapDiffs (L : List (Nat × Nat)) : (wrapDiffs L).map Prod.fst = L.map Prod.fst := by
  cases L with
  | nil => rfl
  | cons pivot rest => simp [wrapDiffs_cons]

theorem wrapDiffs_bounds {L : List (Nat × Nat)} {x : Nat × Int} (hx : x ∈ wrapDiffs L) :
    -512 ≤ x.2 ∧ x.2 ≤ 511 := by
  cases L with
  | nil => cases hx
  | cons pivot rest =>
    obtain ⟨y, -, rfl⟩ := List.mem_map.mp hx
    exact wrapDiff_bounds y.2 pivot.2

/-- R97: the greatest difference is that of a lane, and no lane has a greater. -/
theorem greatest_spec {ds : List (Nat × Int)} (hne : ds ≠ []) (hds : ∀ x ∈ ds, -512 ≤ x.2) :
    (∃ x ∈ ds, x.2 = greatest ds) ∧ ∀ x ∈ ds, x.2 ≤ greatest ds := by
  obtain ⟨hmem, hle⟩ := foldl_max_mem_and_le (ds.map Prod.snd) (-512)
  rw [List.foldl_map, ← greatest] at hmem hle
  have hall : ∀ x ∈ ds, x.2 ≤ greatest ds := fun x hx => hle _ (List.mem_cons_of_mem _ (List.mem_map_of_mem hx))
  refine ⟨?_, hall⟩
  obtain hstart | hmem := List.mem_cons.mp hmem
  · obtain ⟨x, hx⟩ := List.exists_mem_of_ne_nil ds hne
    exact ⟨x, hx, le_antisymm (hall x hx) (hstart ▸ hds x hx)⟩
  · exact List.mem_map.mp hmem

/-- R97: the least difference is that of a lane, and no lane has a lesser. -/
theorem least_spec {ds : List (Nat × Int)} (hne : ds ≠ []) (hds : ∀ x ∈ ds, x.2 ≤ 511) :
    (∃ x ∈ ds, x.2 = least ds) ∧ ∀ x ∈ ds, least ds ≤ x.2 := by
  obtain ⟨hmem, hle⟩ := foldl_min_mem_and_le (ds.map Prod.snd) 511
  rw [List.foldl_map, ← least] at hmem hle
  have hall : ∀ x ∈ ds, least ds ≤ x.2 := fun x hx => hle _ (List.mem_cons_of_mem _ (List.mem_map_of_mem hx))
  refine ⟨?_, hall⟩
  obtain hstart | hmem := List.mem_cons.mp hmem
  · obtain ⟨x, hx⟩ := List.exists_mem_of_ne_nil ds hne
    exact ⟨x, hx, le_antisymm (hstart ▸ hds x hx) (hall x hx)⟩
  · exact List.mem_map.mp hmem

/-! ### The choice of the window (R98) -/

/-- R98: the window of `x` comes before that of `y`: the greater count, then the smaller difference, then the lower
lane. -/
def WindowBefore (ds : List (Nat × Int)) (x y : Nat × Int) : Prop :=
  windowCount ds y.2 < windowCount ds x.2 ∨
    (windowCount ds y.2 = windowCount ds x.2 ∧ (x.2 < y.2 ∨ (x.2 = y.2 ∧ x.1 ≤ y.1)))

theorem WindowBefore.refl (ds : List (Nat × Int)) (x : Nat × Int) : WindowBefore ds x x :=
  .inr ⟨rfl, .inr ⟨rfl, le_rfl⟩⟩

theorem WindowBefore.trans {ds : List (Nat × Int)} {x y z : Nat × Int} (hxy : WindowBefore ds x y)
    (hyz : WindowBefore ds y z) : WindowBefore ds x z := by
  unfold WindowBefore at *
  omega

/-- R98: the better of the window held so far and the next one, the one held on a tie. -/
def betterWindow (ds : List (Nat × Int)) (b x : Nat × Int) : Nat × Int :=
  if windowCount ds b.2 < windowCount ds x.2 ∨ (windowCount ds x.2 = windowCount ds b.2 ∧ x.2 < b.2) then x else b

/-- On a tie the window held is that of the lower lane, since the lanes come in ascending order. -/
theorem betterWindow_cases (ds : List (Nat × Int)) {b x : Nat × Int} (hlane : b.1 < x.1) :
    (betterWindow ds b x = b ∧ WindowBefore ds b x) ∨ (betterWindow ds b x = x ∧ WindowBefore ds x b) := by
  unfold betterWindow WindowBefore
  split
  · exact .inr ⟨rfl, by omega⟩
  · exact .inl ⟨rfl, by omega⟩

theorem chooseWindow_cons (d : Nat × Int) (rest : List (Nat × Int)) :
    chooseWindow (d :: rest) = some (rest.foldl (betterWindow (d :: rest)) d) := by
  refine List.foldl_hom some fun b x => ?_
  rw [betterWindow, ite_or, apply_ite some, apply_ite some]

/-- R98: the chosen window is that of a lane and comes before that of every other. -/
theorem chooseWindow_spec {ds : List (Nat × Int)} (hne : ds ≠ []) (hlanes : (ds.map Prod.fst).Pairwise (· < ·)) :
    ∃ w, chooseWindow ds = some w ∧ w ∈ ds ∧ ∀ x ∈ ds, WindowBefore ds w x := by
  obtain ⟨d, rest, rfl⟩ := List.exists_cons_of_ne_nil hne
  exact ⟨_, chooseWindow_cons d rest, foldl_mem_and_best (WindowBefore.refl _) WindowBefore.trans rest d
    ((List.pairwise_map.mp hlanes).imp (betterWindow_cases _))⟩

/-! ### The result of the computation (R97, R99) -/

theorem inWindow_iff (base d : Int) : inWindow base d = true ↔ base ≤ d ∧ d ≤ base + 63 := by
  simp [inWindow]

theorem laneAt_laneVector {α : Type} (f : Nat → α) {r : Nat} (hr : r < 8) : laneAt (laneVector f) r = f r := by
  interval_cases r <;> rfl

/-- The lanes of a list are distinct, so a search by lane finds the entry of that lane. -/
theorem find?_lane_of_mem {ds : List (Nat × Int)} (hlanes : (ds.map Prod.fst).Pairwise (· < ·)) {x : Nat × Int}
    (hx : x ∈ ds) : (ds.find? fun y => y.1 == x.1) = some x := by
  have hnodup : (ds.map Prod.fst).Nodup := hlanes.imp Nat.ne_of_lt
  obtain ⟨y, hy⟩ : ∃ y, (ds.find? fun y => y.1 == x.1) = some y :=
    Option.isSome_iff_exists.mp (List.find?_isSome.mpr ⟨x, hx, beq_self_eq_true x.1⟩)
  rw [hy, List.inj_on_of_nodup_map hnodup (List.mem_of_find?_eq_some hy) hx (by simpa using List.find?_some hy)]

section
variable {L : List (Nat × Nat)} {j : Nat} {base : Int} (hw : chooseWindow (wrapDiffs L) = some (j, base))
include hw

theorem alignment_windowLane : (alignment L).windowLane = some j := by
  simp [alignment, hw]

theorem alignment_spread :
    (alignment L).spread = some (greatest (wrapDiffs L) - least (wrapDiffs L)).toNat := by
  simp [alignment, hw]

/-- R99: the rejected lanes are those whose difference lies outside the chosen window. -/
theorem has_alignment_rejected (r : Nat) : LaneSet.has (alignment L).rejected r = true ↔
    r < 8 ∧ ∃ x ∈ wrapDiffs L, x.1 = r ∧ inWindow base x.2 = false := by
  simp [alignment, hw, has_laneSet]

/-- R99: the skew of a retained lane is its distance from the start of the window; a rejected lane has none. -/
theorem alignment_skew_of_mem (hlanes : (L.map Prod.fst).Pairwise (· < ·)) {x : Nat × Int} (hx : x ∈ wrapDiffs L)
    (hr : x.1 < 8) :
    laneAt (alignment L).skew x.1 = if inWindow base x.2 then some (x.2 - base).toNat else none := by
  have hfind := find?_lane_of_mem ((map_fst_wrapDiffs L).symm ▸ hlanes) hx
  simp [alignment, hw, laneAt_laneVector _ hr, hfind]

/-- R99: a lane outside the collection has no skew. -/
theorem alignment_skew_of_not_mem {r : Nat} (hr : r < 8) (hnot : r ∉ L.map Prod.fst) :
    laneAt (alignment L).skew r = none := by
  rw [← map_fst_wrapDiffs] at hnot
  have hfind : ((wrapDiffs L).find? fun x => x.1 == r) = none :=
    List.find?_eq_none.mpr fun x hx hxr => hnot (List.mem_map.mpr ⟨x, hx, by simpa using hxr⟩)
  simp [alignment, hw, laneAt_laneVector _ hr, hfind]

/-- A lane outside the collection is not rejected. -/
theorem alignment_rejected_of_not_mem {r : Nat} (hnot : r ∉ L.map Prod.fst) :
    LaneSet.has (alignment L).rejected r = false := by
  rw [← map_fst_wrapDiffs] at hnot
  refine Bool.eq_false_iff.mpr fun hrej => ?_
  obtain ⟨-, x, hx, hxr, -⟩ := (has_alignment_rejected hw r).mp hrej
  exact hnot (List.mem_map.mpr ⟨x, hx, hxr⟩)

theorem alignment_rejected_of_mem (hlanes : (L.map Prod.fst).Pairwise (· < ·)) {x : Nat × Int}
    (hx : x ∈ wrapDiffs L) (hr : x.1 < 8) :
    LaneSet.has (alignment L).rejected x.1 = !inWindow base x.2 := by
  have hnodup : ((wrapDiffs L).map Prod.fst).Nodup := (map_fst_wrapDiffs L).symm ▸ hlanes.imp Nat.ne_of_lt
  rw [Bool.eq_iff_iff, has_alignment_rejected hw, Bool.not_eq_true']
  constructor
  · rintro ⟨-, y, hy, hlane, hout⟩
    rwa [← List.inj_on_of_nodup_map hnodup hy hx hlane]
  · exact fun hout => ⟨hr, x, hx, rfl, hout⟩

/-- R99: no lane is rejected exactly when the chosen window holds every lane. -/
theorem alignment_rejected_eq_zero_iff (hlt : ∀ x ∈ wrapDiffs L, x.1 < 8) :
    (alignment L).rejected = 0 ↔ ∀ x ∈ wrapDiffs L, inWindow base x.2 = true := by
  rw [eq_zero_iff_has_eq_false]
  constructor
  · intro hnone x hx
    by_contra hout
    have hrej := (has_alignment_rejected hw x.1).mpr ⟨hlt x hx, x, hx, rfl, Bool.eq_false_iff.mpr hout⟩
    exact Bool.eq_false_iff.mp (hnone x.1) hrej
  · refine fun hall r => Bool.eq_false_iff.mpr fun hrej => ?_
    obtain ⟨-, x, hx, -, hout⟩ := (has_alignment_rejected hw r).mp hrej
    exact Bool.eq_false_iff.mp hout (hall x hx)

end

/-- A window holds every lane exactly when its count is the number of lanes. -/
theorem windowCount_eq_length_iff (ds : List (Nat × Int)) (base : Int) :
    windowCount ds base = ds.length ↔ ∀ x ∈ ds, inWindow base x.2 = true :=
  List.length_filter_eq_length_iff

/-- R99: when the spread is at most 63 the window of the earliest lane holds every lane, so the fullest window does
too; when it is more, no window holds both the earliest and the latest lane. -/
theorem fullest_window_holds_all_iff {ds : List (Nat × Int)} (hne : ds ≠ [])
    (hds : ∀ x ∈ ds, -512 ≤ x.2 ∧ x.2 ≤ 511) {base : Int} (hfull : ∀ x ∈ ds, windowCount ds x.2 ≤ windowCount ds base) :
    (∀ x ∈ ds, inWindow base x.2 = true) ↔ greatest ds - least ds ≤ 63 := by
  obtain ⟨⟨g, hg, hgeq⟩, hgreatest⟩ := greatest_spec hne fun x hx => (hds x hx).1
  obtain ⟨⟨e, he, heeq⟩, hleast⟩ := least_spec hne fun x hx => (hds x hx).2
  constructor
  · intro hall
    have hlate := (inWindow_iff base g.2).mp (hall g hg)
    have hearly := (inWindow_iff base e.2).mp (hall e he)
    omega
  · intro hspread
    have hcount : windowCount ds e.2 = ds.length := (windowCount_eq_length_iff ds e.2).mpr fun x hx => by
      have := hleast x hx
      have := hgreatest x hx
      exact (inWindow_iff e.2 x.2).mpr (by omega)
    have hle : windowCount ds base ≤ ds.length := List.length_filter_le _ ds
    exact (windowCount_eq_length_iff ds base).mp (le_antisymm hle (hcount ▸ hfull e he))

/-! ### The delays (R100) -/

theorem greatestSkew_mem_and_le (skew : Vector (Option Nat) 8) {active : LaneSet} (hne : active ≠ 0) :
    (∃ r, LaneSet.has active r = true ∧ skewAt skew r = greatestSkew skew active) ∧
      ∀ r, LaneSet.has active r = true → skewAt skew r ≤ greatestSkew skew active := by
  obtain ⟨hmem, hle⟩ := foldl_max_mem_and_le ((LaneSet.members active).map (skewAt skew)) 0
  rw [List.foldl_map, ← greatestSkew] at hmem hle
  have hall (r : Nat) (hr : LaneSet.has active r = true) : skewAt skew r ≤ greatestSkew skew active :=
    hle _ (List.mem_cons_of_mem _ (List.mem_map_of_mem ((mem_members active r).mpr hr)))
  refine ⟨?_, hall⟩
  obtain hstart | hmem := List.mem_cons.mp hmem
  · obtain ⟨r, hr⟩ : ∃ r, LaneSet.has active r = true := by
      simpa using mt (eq_zero_iff_has_eq_false active).mpr hne
    exact ⟨r, hr, le_antisymm (hall r hr) (hstart ▸ Nat.zero_le _)⟩
  · obtain ⟨r, hr, heq⟩ := List.mem_map.mp hmem
    exact ⟨r, (mem_members active r).mp hr, heq⟩

theorem deskewDelay_of_not_active {skew : Vector (Option Nat) 8} {active : LaneSet} {r : Nat}
    (hr : LaneSet.has active r = false) : deskewDelay skew active r = 0 := by
  simp [deskewDelay, hr]

theorem deskewDelay_of_active {skew : Vector (Option Nat) 8} {active : LaneSet} {r : Nat}
    (hr : LaneSet.has active r = true) : deskewDelay skew active r = greatestSkew skew active - skewAt skew r := by
  simp [deskewDelay, hr]

/-- R100: the delays of an active group: none elsewhere, none for its latest lane, and every lane as late as it. -/
theorem deskewDelay_aligns (skew : Vector (Option Nat) 8) {active : LaneSet} (hne : active ≠ 0) :
    (∀ r, LaneSet.has active r = false → deskewDelay skew active r = 0) ∧
    (∃ r, LaneSet.has active r = true ∧ deskewDelay skew active r = 0) ∧
    ∀ r, LaneSet.has active r = true → skewAt skew r + deskewDelay skew active r = greatestSkew skew active := by
  obtain ⟨⟨m, hm, hlatest⟩, hle⟩ := greatestSkew_mem_and_le skew hne
  refine ⟨fun r hr => deskewDelay_of_not_active hr, ⟨m, hm, ?_⟩, fun r hr => ?_⟩
  · rw [deskewDelay_of_active hm, hlatest, Nat.sub_self]
  · rw [deskewDelay_of_active hr, Nat.add_sub_cancel' (hle r hr)]

/-! ### The computation as a whole -/

/-- R97, R99: the spread is the greatest difference between two lanes, and 63 or less when none is rejected. -/
theorem alignment_spread_spec {L : List (Nat × Nat)} (hne : wrapDiffs L ≠ []) (hlt : ∀ x ∈ wrapDiffs L, x.1 < 8)
    {j : Nat} {base : Int} (hw : chooseWindow (wrapDiffs L) = some (j, base))
    (hfull : ∀ x ∈ wrapDiffs L, windowCount (wrapDiffs L) x.2 ≤ windowCount (wrapDiffs L) base) :
    ∃ spread : Nat, (alignment L).spread = some spread ∧
      (∀ x ∈ wrapDiffs L, ∀ y ∈ wrapDiffs L, x.2 - y.2 ≤ spread) ∧
      (∃ x ∈ wrapDiffs L, ∃ y ∈ wrapDiffs L, x.2 - y.2 = spread) ∧
      (spread ≤ 63 ↔ (alignment L).rejected = 0) := by
  obtain ⟨⟨g, hg, hgeq⟩, hgreatest⟩ := greatest_spec hne fun x hx => (wrapDiffs_bounds hx).1
  obtain ⟨⟨e, he, heeq⟩, hleast⟩ := least_spec hne fun x hx => (wrapDiffs_bounds hx).2
  have horder := hgreatest e he
  refine ⟨_, alignment_spread hw, fun x hx y hy => ?_, ⟨g, hg, e, he, by omega⟩, ?_⟩
  · have := hgreatest x hx
    have := hleast y hy
    omega
  · rw [alignment_rejected_eq_zero_iff hw hlt,
      fullest_window_holds_all_iff hne (fun x hx => wrapDiffs_bounds hx) hfull]
    omega

/-- Settles O54: the differences of R97, the window of R98, the skews and the spread of R99, and the delays of
R100. -/
theorem alignmentChoosesWindow : Obligations.AlignmentChoosesWindow := by
  refine ⟨fun a b => ⟨(wrapDiff_bounds a b).1, (wrapDiff_bounds a b).2, wrapDiff_congr a b⟩, wrapDiffs_cons, rfl,
    fun L hL hlanes h8 => ?window, fun skew active hne => ?delays⟩
  case window =>
    have hmem {x : Nat × Int} (hx : x ∈ wrapDiffs L) : x.1 ∈ L.map Prod.fst :=
      map_fst_wrapDiffs L ▸ List.mem_map_of_mem hx
    have hlt (x : Nat × Int) (hx : x ∈ wrapDiffs L) : x.1 < 8 := by
      obtain ⟨y, hy, heq⟩ := List.mem_map.mp (hmem hx)
      exact heq ▸ h8 y hy
    have hne : wrapDiffs L ≠ [] := fun hnil => hL (by simpa [hnil] using (map_fst_wrapDiffs L).symm)
    obtain ⟨⟨j, base⟩, hw, hj, hbest⟩ := chooseWindow_spec hne ((map_fst_wrapDiffs L).symm ▸ hlanes)
    have hfull (x : Nat × Int) (hx : x ∈ wrapDiffs L) :
        windowCount (wrapDiffs L) x.2 ≤ windowCount (wrapDiffs L) base :=
      (hbest x hx).elim le_of_lt fun htie => htie.1.le
    refine ⟨j, base, alignment_windowLane hw, hj, hbest, fun x hx => ⟨fun hlo hhi => ?retained, fun hout => ?rejected⟩,
      fun r hr hnot => ⟨alignment_skew_of_not_mem hw hr hnot, alignment_rejected_of_not_mem hw hnot⟩,
      alignment_spread_spec hne hlt hw hfull⟩
    case retained =>
      have hin : inWindow base x.2 = true := (inWindow_iff base x.2).mpr ⟨hlo, hhi⟩
      simp [alignment_skew_of_mem hw hlanes hx (hlt x hx), alignment_rejected_of_mem hw hlanes hx (hlt x hx), hin]
    case rejected =>
      have hnot : inWindow base x.2 = false := Bool.eq_false_iff.mpr fun hin => by
        have := (inWindow_iff base x.2).mp hin
        omega
      simp [alignment_skew_of_mem hw hlanes hx (hlt x hx), alignment_rejected_of_mem hw hlanes hx (hlt x hx), hnot]
  case delays =>
    obtain ⟨helsewhere, hlatest, hsum⟩ := deskewDelay_aligns skew hne
    exact ⟨helsewhere, hlatest, fun r r' hr hr' => (hsum r hr).trans (hsum r' hr').symm⟩

end Sys2Proof.Machine

/-! SUPPORT and PROOF. The message RECOVER (R139): the common tests of R168 it passes through, its answer in each
mode, and its execution on an idle line. -/

namespace Sys2Proof.Machine

open Sys2Proof

/-! ### The common tests of a request (R167, R168) -/

section
variable {s : State} {b : Byte} {p : Port} {h : Half}

theorem onePort_all (s : State) : onePort s 0xFE = .error .badPort := by
  simp [onePort, portOperand]

theorem withPort_of_ok (hp : onePort s b = .ok p) (f : Port → Answer) : withPort s b f = f p := by
  simp [withPort, hp]

theorem withPort_of_error {r : Result} (hp : onePort s b = .error r) (f : Port → Answer) :
    withPort s b f = .refuse s r := by
  simp [withPort, hp]

theorem withHalf_of_some (hh : halfOperand b = some h) (f : Half → Answer) : withHalf s b f = f h := by
  simp [withHalf, hh]

theorem withLinkAt_of_no_position
    (hno : (s.port p).state ≠ .assigned ∨ (h = .B ∧ (s.port p).isSplit = false)) (f : Link → Answer) :
    withLinkAt s p h f = .refuse s .noLink := if_pos hno

theorem withLinkAt_of_link {l : Link} (ha : (s.port p).state = .assigned)
    (hB : h = .B → (s.port p).isSplit = true) (hl : s.link p h = some l) (f : Link → Answer) :
    withLinkAt s p h f = f l := by
  have hposition : ¬ ((s.port p).state ≠ .assigned ∨ (h = .B ∧ (s.port p).isSplit = false)) := by
    rintro (hstate | ⟨hhalf, hfull⟩)
    · exact hstate ha
    · exact Bool.false_ne_true (hfull.symm.trans (hB hhalf))
  simp only [withLinkAt, if_neg hposition, hl]

/-- A change of the link at a position puts the changed link there. -/
theorem State.modLink_eq_setLink {l : Link} (hl : s.link p h = some l) (f : Link → Link) :
    s.modLink p h f = s.setLink p h (some (f l)) := by
  have hpos : (s.pos p h).link.map f = some (f l) := congrArg (Option.map f) hl
  exact congrArg (fun k => s.modPos p h fun _ => { s.pos p h with link := k }) hpos

theorem State.linkData_of_link {l : Link} (hl : s.link p h = some l) (f : Link → Data) :
    s.linkData p h f = f l := by
  simp only [State.linkData, hl]

end

/-! ### The answer of RECOVER by mode (R139) -/

section
variable {s : State} {b x : Byte} {p : Port} {h : Half}

theorem reqRecover_of_active (hp : onePort s b = .ok p) (hh : halfOperand x = some h) (hm : s.mode = .active) :
    reqRecover b x s = recoverActive s p h := by
  rw [reqRecover, withPort_of_ok hp, withHalf_of_some hh, hm]

theorem reqRecover_of_setup (hp : onePort s b = .ok p) (hh : halfOperand x = some h) (hm : s.mode = .setup) :
    reqRecover b x s = recoverSetup s p h := by
  rw [reqRecover, withPort_of_ok hp, withHalf_of_some hh, hm]

/-- In ACTIVE mode an ISOLATED link gets the score 1, and the reply names its state and that score. -/
theorem recoverActive_of_isolated {l : Link} (ha : (s.port p).state = .assigned)
    (hB : h = .B → (s.port p).isSplit = true) (hl : s.link p h = some l) (hi : l.state = .isolated) :
    recoverActive s p h =
      .ok (s.setLink p h (some { l with sup := { l.sup with score := 1 } })) (num 5 ++ num 1) := by
  rw [recoverActive, withLinkAt_of_link ha hB hl, if_pos hi]
  simp only [State.modLink_eq_setLink hl, State.linkData_of_link (State.link_setLink_self ..), scoreBytes, hi,
    LinkState.code]

theorem recoverActive_of_not_isolated {l : Link} (ha : (s.port p).state = .assigned)
    (hB : h = .B → (s.port p).isSplit = true) (hl : s.link p h = some l) (hi : l.state ≠ .isolated) :
    recoverActive s p h = .refuse s .wrongState := by
  rw [recoverActive, withLinkAt_of_link ha hB hl, if_neg hi]

theorem recoverSetup_of_residue {r : Nat} (hr : (s.pos p h).residue = some r) :
    recoverSetup s p h = .ok (s.setResidue p h none) (num r) := by
  simp only [recoverSetup, hr]

theorem recoverSetup_of_no_residue (hr : (s.pos p h).residue = none) :
    recoverSetup s p h = .refuse s .wrongState := by
  simp only [recoverSetup, hr]

/-! ### The execution of RECOVER -/

/-- R166: with nothing executing, RECOVER executes at once and replies with its answer. -/
theorem exec_recover_of_idle (hidle : s.executing = none) (tag : Byte) :
    exec (.recover tag b x) s = .next ((reqRecover b x s).reply (requestBody (.recover tag b x))) :=
  congrArg Host.Outcome.next (State.offered_of_idle hidle _ _)

theorem exec_recover_of_ok {t : State} {d : Data} (hidle : s.executing = none) (tag : Byte)
    (hans : reqRecover b x s = .ok t d) :
    exec (.recover tag b x) s = .next (t.replied (.recover tag b x) .ok d) := by
  rw [exec_recover_of_idle hidle, hans]; rfl

theorem exec_recover_of_refuse {r : Result} (hidle : s.executing = none) (tag : Byte)
    (hans : reqRecover b x s = .refuse s r) :
    exec (.recover tag b x) s = .next (s.refused (.recover tag b x) r) := by
  rw [exec_recover_of_idle hidle, hans]; rfl

end

/-- Settles O29, row by row of the table of R139. -/
theorem recoverActsByMode : Obligations.RecoverActsByMode := by
  intro tag b x s hidle
  refine ⟨fun r hr => exec_recover_of_refuse hidle tag (withPort_of_error hr _), onePort_all s,
    fun p h hp hh => ⟨fun hm hno => ?noLink, fun l hm ha hB hl => ?link, fun r hm hr => ?residue, fun hm hr => ?none⟩⟩
  case noLink =>
    exact exec_recover_of_refuse hidle tag
      ((reqRecover_of_active hp hh hm).trans (withLinkAt_of_no_position hno _))
  case link =>
    have hactive := reqRecover_of_active hp hh hm
    split
    · next hi => exact exec_recover_of_ok hidle tag (hactive.trans (recoverActive_of_isolated ha hB hl hi))
    · next hi => exact exec_recover_of_refuse hidle tag (hactive.trans (recoverActive_of_not_isolated ha hB hl hi))
  case residue =>
    exact exec_recover_of_ok hidle tag ((reqRecover_of_setup hp hh hm).trans (recoverSetup_of_residue hr))
  case none =>
    exact exec_recover_of_refuse hidle tag ((reqRecover_of_setup hp hh hm).trans (recoverSetup_of_no_residue hr))

end Sys2Proof.Machine

/-! SUPPORT and PROOF. The notice queue: the messages FILTER (R146) and FETCH (R148), the acceptance of a notice by a
filter (R145), the filing of a posted notice (R147), and ATTN (R149). -/

namespace Sys2Proof.Machine

open Sys2Proof

/-! ### The answer of FILTER (R146) -/

/-- The reserved bits of a kind set are those from bit 13 on. -/
theorem getLsbD_reservedKinds {i : Nat} (hi : i < 16) : (0xE000 : BitVec 16).getLsbD i = decide (13 ≤ i) := by
  have hbits : ∀ k : Fin 16, (0xE000 : BitVec 16).getLsbD k = decide (13 ≤ k.val) := by decide
  exact hbits ⟨i, hi⟩

/-- The reserved part of a kind set, bit by bit. -/
theorem getLsbD_and_reservedKinds (kinds : BitVec 16) {i : Nat} (hi : i < 16) :
    (kinds &&& 0xE000).getLsbD i = (kinds.getLsbD i && decide (13 ≤ i)) := by
  rw [BitVec.getLsbD_and, getLsbD_reservedKinds hi]

/-- R146: a kind set names no kind but the 13 exactly when it is below 2^13. -/
theorem kinds_and_reserved_eq_zero_iff (kinds : BitVec 16) : kinds &&& 0xE000 = 0 ↔ kinds.toNat < 8192 := by
  constructor
  · intro hzero
    refine Nat.lt_pow_two_of_testBit (n := 13) _ fun i h13 => ?_
    rcases lt_or_ge i 16 with h16 | h16
    · have hbit := getLsbD_and_reservedKinds kinds h16
      rw [hzero, decide_eq_true h13, Bool.and_true] at hbit
      exact hbit.symm.trans BitVec.getLsbD_zero
    · exact BitVec.getLsbD_of_ge kinds i h16
  · intro hlt
    refine BitVec.eq_of_getLsbD_eq fun i hi => ?_
    refine ((getLsbD_and_reservedKinds kinds hi).trans ?_).trans BitVec.getLsbD_zero.symm
    rcases lt_or_ge i 13 with h13 | h13
    · rw [decide_eq_false h13.not_ge, Bool.and_false]
    · have hbit : kinds.getLsbD i = false :=
        Nat.testBit_lt_two_pow (hlt.trans_le (Nat.pow_le_pow_right two_pos h13))
      rw [hbit, Bool.false_and]

section
variable {s : State} {n e : Byte} {kinds : BitVec 16} (ports : BitVec 16)

/-- R146: FILTER replaces the items of filter 1. -/
theorem reqFilter_one {on : Bool} (he : yesNo e = some on) (hk : kinds.toNat < 8192) :
    reqFilter 1 e kinds ports s =
      .ok { s with filter1 := ⟨on, kinds, ports⟩ } ({ s with filter1 := ⟨on, kinds, ports⟩ } : State).filterBytes := by
  simp only [reqFilter, he, (kinds_and_reserved_eq_zero_iff kinds).2 hk, ne_eq, not_true, if_false]
  rfl

/-- R146: FILTER replaces the items of filter 2. -/
theorem reqFilter_two {on : Bool} (he : yesNo e = some on) (hk : kinds.toNat < 8192) :
    reqFilter 2 e kinds ports s =
      .ok { s with filter2 := ⟨on, kinds, ports⟩ } ({ s with filter2 := ⟨on, kinds, ports⟩ } : State).filterBytes := by
  simp only [reqFilter, he, (kinds_and_reserved_eq_zero_iff kinds).2 hk, ne_eq, not_true, if_false]
  rfl

/-- R146: a flag, a kind set or a filter number out of range is refused. -/
theorem reqFilter_out_of_range (hbad : yesNo e = none ∨ 8192 ≤ kinds.toNat ∨ (n ≠ 1 ∧ n ≠ 2)) :
    reqFilter n e kinds ports s = .refuse s .range := by
  unfold reqFilter
  split
  · rfl
  · next on he =>
    split
    · rfl
    · next hkinds =>
      have hlt := (kinds_and_reserved_eq_zero_iff kinds).1 (not_not.1 hkinds)
      obtain ⟨hn1, hn2⟩ : n ≠ 1 ∧ n ≠ 2 := by
        rcases hbad with hflag | hset | hnumber
        · rw [he] at hflag; cases hflag
        · exact absurd hlt hset.not_gt
        · exact hnumber
      split
      · next h => exact absurd (BitVec.eq_of_toNat_eq h) hn1
      · next h => exact absurd (BitVec.eq_of_toNat_eq h) hn2
      · rfl

end

/-! ### The execution of FILTER and FETCH (R166) -/

section
variable {s : State} (hidle : s.executing = none)
include hidle

theorem exec_filter_of_idle (tag n e : Byte) (kinds ports : BitVec 16) :
    exec (.filter tag n e kinds ports) s =
      .next ((reqFilter n e kinds ports s).reply (requestBody (.filter tag n e kinds ports))) :=
  congrArg Host.Outcome.next (State.offered_of_idle hidle _ _)

theorem exec_fetch_of_idle (tag count : Byte) :
    exec (.fetch tag count) s = .next ((reqFetch count s).reply (requestBody (.fetch tag count))) :=
  congrArg Host.Outcome.next (State.offered_of_idle hidle _ _)

end

/-! ### Acceptance and filing (R145, R147) -/

/-- R145: the three conditions under which a filter accepts a notice. -/
theorem Filter.accepts_iff (f : Filter) (n : Notice) : f.accepts n = true ↔
    f.enabled = true ∧ f.kinds.getLsbD n.detail.kind = true ∧ ∀ p, n.port = some p → f.ports.getLsbD p.val = true := by
  unfold Filter.accepts
  cases n.port with
  | none => simp
  | some p => simp [and_assoc]

/-- R145: a notice that a filter accepts is offered to the queue. -/
theorem State.post_of_accepted {s : State} {port : Option Port} {half : Option Half} {d : Detail}
    (h : s.filter1.accepts ⟨port, half, s.uptime, d⟩ = true ∨ s.filter2.accepts ⟨port, half, s.uptime, d⟩ = true) :
    s.post port half d = s.enqueue ⟨port, half, s.uptime, d⟩ := if_pos (Bool.or_eq_true_iff.2 h)

/-- R145: a notice that neither filter accepts is discarded. -/
theorem State.post_of_not_accepted {s : State} {port : Option Port} {half : Option Half} {d : Detail}
    (h1 : s.filter1.accepts ⟨port, half, s.uptime, d⟩ = false)
    (h2 : s.filter2.accepts ⟨port, half, s.uptime, d⟩ = false) : s.post port half d = s :=
  if_neg (by rw [h1, h2]; exact Bool.false_ne_true)

/-- R147: while there is room a notice is appended. -/
theorem State.enqueue_of_room {s : State} (n : Notice) (h : s.queue.length < 64) :
    s.enqueue n = { s with queue := s.queue ++ [n] } := if_pos h

/-- R147: a notice offered to a full queue is counted. -/
theorem State.enqueue_of_full {s : State} (n : Notice) (h : 64 ≤ s.queue.length) :
    s.enqueue n = { s with overrun := min 255 (s.overrun + 1) } := if_neg h.not_gt

/-- R149: ATTN is low exactly while the queue holds a notice. -/
theorem State.attn_eq_low_iff (s : State) : s.attn = .low ↔ s.queue ≠ [] := by
  unfold State.attn
  split
  · next h => exact ⟨nofun, fun hne => absurd h hne⟩
  · next h => exact ⟨fun _ => h, fun _ => rfl⟩

/-- Settles O15: the answers of FILTER and FETCH on an idle line, then the path of a notice through the filters and
the queue to ATTN. -/
theorem noticesAreFiledAndFetched : Obligations.NoticesAreFiledAndFetched := by
  refine ⟨fun tag n e count kinds ports on s hidle => ⟨?one, ?two, ?range, ?fetch⟩, Filter.accepts_iff, ?file,
    State.attn_eq_low_iff⟩
  case one =>
    rintro he hk rfl
    rw [exec_filter_of_idle hidle, reqFilter_one ports he hk]; rfl
  case two =>
    rintro he hk rfl
    rw [exec_filter_of_idle hidle, reqFilter_two ports he hk]; rfl
  case range =>
    intro hbad
    rw [exec_filter_of_idle hidle, reqFilter_out_of_range ports hbad]; rfl
  case fetch => exact exec_fetch_of_idle hidle tag count
  case file =>
    rintro s port half d n rfl
    exact ⟨fun hacc hroom => (State.post_of_accepted hacc).trans (State.enqueue_of_room _ hroom),
      fun hacc hfull => (State.post_of_accepted hacc).trans (State.enqueue_of_full _ hfull),
      State.post_of_not_accepted⟩

end Sys2Proof.Machine

/-! SUPPORT. The lengths of the sections and records that the management line reports (Chapter 12). -/

namespace Sys2Proof.Machine

open Sys2Proof

set_option Elab.async false

/-! ### Lengths of the layouts (Chapter 12) -/

theorem length_portSection (s : State) (p : Port) : (s.portSection p).length = 18 := by
  simp [State.portSection, byte, num, flag, optNum, reasonCode]

@[simp] theorem length_byte (b : Byte) : (byte b).length = 1 := rfl
@[simp] theorem length_num (n : Nat) : (num n).length = 1 := rfl
@[simp] theorem length_num2 (n : Nat) : (num2 n).length = 2 := rfl
@[simp] theorem length_num4 (n : Nat) : (num4 n).length = 4 := rfl
@[simp] theorem length_flag (b : Bool) : (flag b).length = 1 := rfl
@[simp] theorem length_optNum (o : Option Nat) : (optNum o).length = 1 := rfl
@[simp] theorem length_anyNum (o : Option Nat) : (anyNum o).length = 1 := rfl
@[simp] theorem length_reasonCode (r : Option Reason) : (reasonCode r).length = 1 := rfl
@[simp] theorem length_dwellCode (d : Option Dwell) : (dwellCode d).length = 1 := rfl
@[simp] theorem length_optTime (o : Option Uptime) : (optTime o).length = 4 := by cases o <;> rfl
@[simp] theorem length_optNum2 (o : Option Nat) : (optNum2 o).length = 2 := by cases o <;> rfl
@[simp] theorem length_optByte (o : Option Byte) : (optByte o).length = 1 := by cases o <;> rfl
@[simp] theorem length_optId (o : Option FarId) : (optId o).length = 2 := by cases o <;> rfl
@[simp] theorem length_optLaneId (o : Option LaneId) : (optLaneId o).length = 3 := by cases o <;> simp [optLaneId, openByte]
@[simp] theorem length_optGroup (o : Option Group) : (optGroup o).length = 2 := by cases o <;> rfl
@[simp] theorem length_presetListBytes (L : List Nat) : (presetListBytes L).length = 5 := rfl

theorem length_expectation (e : Expectation) : e.bytes.length = 13 := by simp [Expectation.bytes]

theorem length_planBytes (q : PortUnit) : q.planBytes.length = 38 := by
  unfold PortUnit.planBytes
  split
  · next e _ => cases hb : e.b <;> simp [length_expectation]
  · simp

theorem length_linkBytes (l : Link) : l.bytes.length = 99 := by
  have hpresets : ((laneNumbers.take 4).flatMap fun k => num (presetAt l.training.presets (k + 1))).length = 4 := rfl
  have hgrades : (laneNumbers.flatMap fun r => (laneNumbers.take 4).flatMap fun k =>
      optNum (laneAt l.training.grades r)[Fin.ofNat 4 k]).length = 32 := rfl
  unfold Link.bytes
  simp only [List.length_append, length_byte, length_num, length_num2, length_num4, length_flag, length_optNum,
    length_reasonCode, length_dwellCode, length_optTime, length_optNum2, length_optId, length_optGroup, hpresets, hgrades]

theorem length_contextBytes (c : Option Context) : (contextBytes c).length = 13 := by
  cases c <;> simp [contextBytes, laneNumbers]

theorem length_positionBytes (x : Position) : x.bytes.length = 113 := by
  unfold Position.bytes
  cases x.link <;> simp [length_linkBytes, length_contextBytes]

theorem length_laneEntry (q : PortUnit) (i : Lane) : (q.laneEntry i).length = 8 := by simp [PortUnit.laneEntry]

theorem length_laneEntries (q : PortUnit) : (allLanes.flatMap fun i => q.laneEntry i).length = 64 := by
  simp [length_laneEntry, allLanes]

theorem length_laneBytes (s : State) (p : Port) (i : Lane) : (s.laneBytes p i).length = 29 := by
  unfold State.laneBytes
  dsimp only
  simp only [List.length_append, length_byte, length_num, length_flag, length_optNum, length_optTime,
    length_optNum2, length_optByte, length_optLaneId, length_optGroup]

end Sys2Proof.Machine

/-! SUPPORT and PROOF. The fields a link record holds by its state (R62, R68, R82, R84, R92, R96, R106, R125): a link
that has left its state holds none of them, and each state is entered with its own. -/

namespace Sys2Proof.Machine

open Sys2Proof

theorem Link.ok_iff (l : Link) :
    l.ok = true ↔ l.CheckOk ∧ l.TrainingOk ∧ l.AgreementOk ∧ l.AlignmentOk ∧ l.SupervisionOk := by
  simp only [Link.ok, Bool.and_eq_true, decide_eq_true_eq, and_assoc]

/-- The training fields of a link that is not TRAINING (R106). -/
structure Training.Idle (t : Training) : Prop where
  stage : t.stage = none
  timer : t.timer = none
  dwell : t.dwell = none
  dwellTimer : t.dwellTimer = none
  presets : t.presets = []
  context : t.context = none
  grades : t.grades = Vector.replicate 8 (Vector.replicate 4 none)
  deskew : t.deskew = {}

/-- The agreement fields of a link that is neither in ALIGN nor UP (R84, R92). -/
structure Agreement.Idle (a : Agreement) : Prop where
  proposal : a.proposal = none
  accept : a.accept = false
  active : a.active = none
  regroupStart : a.regroupStart = none
  regroupTimer : a.regroupTimer = none

/-- The alignment fields of a link that is not UP (R96). -/
structure Alignment.Idle (a : Alignment) : Prop where
  recheckState : a.recheckState = .idle
  recheck : a.recheck = {}
  recheckTimer : a.recheckTimer = none

/-- The supervision fields of a link that is neither UP nor ISOLATED (R125). -/
structure Supervision.Idle (u : Supervision) : Prop where
  level : u.level = none
  isoCause : u.isoCause = none
  probeSet : u.probeSet = 0
  probeTimer : u.probeTimer = none
  probeDirty : u.probeDirty = false
  probeChange : u.probeChange = false
  judging : u.judging = false

/-- A link record without the fields of any state: what a link is between leaving one state and entering the
next. -/
structure Link.Idle (l : Link) : Prop where
  reason : l.reason = none
  checkEntry : l.checkEntry = none
  quiet : l.quiet = none
  marks : l.marks = {}
  training : l.training.Idle
  agree : l.agree.Idle
  align : l.align.Idle
  sup : l.sup.Idle

section
variable {l : Link}

theorem Link.TrainingOk.idle (h : l.TrainingOk) (hs : l.state ≠ .training) : l.training.Idle := by
  obtain ⟨hstage, htimer, hdwell, hdt, hrest⟩ := h
  obtain ⟨hp, hc, hg, hd⟩ := hrest hs
  have h1 : l.training.stage = none := Option.not_isSome_iff_eq_none.mp fun c => hs (hstage.mp c)
  have h2 : l.training.dwell = none := Option.not_isSome_iff_eq_none.mp fun c => by
    rw [h1] at hdwell; cases hdwell.mp c
  exact ⟨h1, Option.not_isSome_iff_eq_none.mp fun c => hs (htimer.mp c), h2,
    Option.not_isSome_iff_eq_none.mp fun c => (by rw [h2] at hdt; cases hdt.mp c), hp, hc, hg, hd⟩

theorem Link.AgreementOk.idle (h : l.AgreementOk) (hs : l.state ≠ .up) (ha : l.training.stage ≠ some .align) :
    l.agree.Idle := by
  obtain ⟨hfields, -, hstart, htimer, -⟩ := h
  obtain ⟨hp, hc, hg⟩ := hfields hs ha
  have h1 : l.agree.regroupStart = none := Option.not_isSome_iff_eq_none.mp fun c => hs (hstart c)
  exact ⟨hp, hc, hg, h1, Option.not_isSome_iff_eq_none.mp fun c => by rw [h1] at htimer; cases htimer.mp c⟩

theorem Link.AlignmentOk.idle (h : l.AlignmentOk) (hs : l.state ≠ .up) : l.align.Idle := by
  obtain ⟨hcol, hidle, htimer⟩ := h
  have h1 : l.align.recheckState = .idle := by
    cases hr : l.align.recheckState
    · rfl
    · exact absurd (hcol hr) hs
  exact ⟨h1, hidle h1, Option.not_isSome_iff_eq_none.mp fun c => hs (htimer c)⟩

/-- R125: level and cause, probe timer and probe set are absent outside their states. -/
theorem Link.SupervisionOk.absent (h : l.SupervisionOk) :
    (l.state ≠ .up → l.sup.level = none ∧ l.sup.judging = false) ∧
    (l.state ≠ .isolated → l.sup.isoCause = none ∧ l.sup.probeTimer = none ∧ l.sup.probeSet = 0 ∧
      l.sup.probeDirty = false ∧ l.sup.probeChange = false) := by
  obtain ⟨hlevel, hcause, htimer, hprobe, hj⟩ := h
  exact ⟨fun hu => ⟨Option.not_isSome_iff_eq_none.mp fun c => hu (hlevel.mp c), Bool.eq_false_iff.mpr fun c => hu (hj c)⟩,
    fun hi => ⟨Option.not_isSome_iff_eq_none.mp fun c => hi (hcause.mp c),
      Option.not_isSome_iff_eq_none.mp fun c => hi (htimer.mp c), hprobe hi⟩⟩

theorem Link.SupervisionOk.idle (h : l.SupervisionOk) (hu : l.state ≠ .up) (hi : l.state ≠ .isolated) :
    l.sup.Idle := by
  obtain ⟨hlevel, hjudging⟩ := h.absent.1 hu
  obtain ⟨hcause, htimer, hset, hdirty, hchange⟩ := h.absent.2 hi
  exact ⟨hlevel, hcause, hset, htimer, hdirty, hchange, hjudging⟩

theorem Training.ended_idle (t : Training) : t.ended.Idle := ⟨rfl, rfl, rfl, rfl, rfl, rfl, rfl, rfl⟩

theorem Agreement.ended_idle (a : Agreement) : a.ended.Idle := ⟨rfl, rfl, rfl, rfl, rfl⟩

theorem Alignment.ended_idle (a : Alignment) (now : Uptime) : (a.ended now).Idle := ⟨rfl, rfl, rfl⟩

/-- What a link holds before it leaves a state that is not TRAINING or UP, its check timers and reason apart. -/
theorem Link.idle_parts (hl : l.ok = true) (hlive : l.live = false) :
    l.marks = {} ∧ l.training.Idle ∧ l.agree.Idle ∧ l.align.Idle := by
  obtain ⟨-, ht, ha, hal, -⟩ := (Link.ok_iff l).mp hl
  have hnt : l.state ≠ .training := fun c => by simp [Link.live, c] at hlive
  have hnu : l.state ≠ .up := fun c => by simp [Link.live, c] at hlive
  have hti := ht.idle hnt
  exact ⟨ha.2.2.2.2 hlive, hti, ha.idle hnu (by simp [hti.stage]), hal.idle hnu⟩

/-- The fields of CHECKING and the reason are absent outside their states. -/
theorem Link.CheckOk.absent (h : l.CheckOk) : (l.state ≠ .blocked → l.reason = none) ∧
    (l.state ≠ .checking → l.checkEntry = none ∧ l.quiet = none) := by
  obtain ⟨hr, -, he, hq⟩ := h
  exact ⟨fun hs => Option.not_isSome_iff_eq_none.mp fun c => hs (hr.mp c),
    fun hs => ⟨Option.not_isSome_iff_eq_none.mp fun c => hs (he.mp c),
      Option.not_isSome_iff_eq_none.mp fun c => hs (hq.mp c)⟩⟩

/-- A live link that is stopped holds the fields of no state. -/
theorem Link.idle_endLive (hl : l.ok = true) (hlive : l.live = true) (now : Uptime) : (l.endLive now).Idle := by
  obtain ⟨hc, -, -, -, hs⟩ := (Link.ok_iff l).mp hl
  have hst : l.state = .training ∨ l.state = .up := by simpa [Link.live] using hlive
  have hni : l.state ≠ .isolated := by rcases hst with h | h <;> simp [h]
  have hnc : l.state ≠ .checking := by rcases hst with h | h <;> simp [h]
  have hnb : l.state ≠ .blocked := by rcases hst with h | h <;> simp [h]
  obtain ⟨hcause, htimer, hset, hdirty, hchange⟩ := hs.absent.2 hni
  obtain ⟨he, hq⟩ := hc.absent.2 hnc
  exact ⟨hc.absent.1 hnb, he, hq, rfl, l.training.ended_idle, l.agree.ended_idle, l.align.ended_idle now,
    ⟨rfl, hcause, hset, htimer, hdirty, hchange, rfl⟩⟩

/-- A link that has left its state holds the fields of none. -/
theorem Link.idle_leave (hl : l.ok = true) (now : Uptime) : (l.leave now).Idle := by
  obtain ⟨hc, -, -, -, hs⟩ := (Link.ok_iff l).mp hl
  obtain ⟨hreason, hcheck⟩ := hc.absent
  by_cases hlive : l.live = true
  · have hst : l.state = .training ∨ l.state = .up := by simpa [Link.live] using hlive
    rcases hst with h | h <;> simpa only [Link.leave, h] using Link.idle_endLive hl hlive now
  · obtain ⟨hm, hti, hag, hali⟩ := Link.idle_parts hl (by simpa using hlive)
    cases hst : l.state <;> simp only [Link.leave, hst]
    case checking => exact ⟨hreason (by simp [hst]), rfl, rfl, hm, hti, hag, hali, hs.idle (by simp [hst]) (by simp [hst])⟩
    case verified =>
      obtain ⟨he, hq⟩ := hcheck (by simp [hst])
      exact ⟨hreason (by simp [hst]), he, hq, hm, hti, hag, hali, hs.idle (by simp [hst]) (by simp [hst])⟩
    case blocked =>
      obtain ⟨he, hq⟩ := hcheck (by simp [hst])
      exact ⟨rfl, he, hq, hm, hti, hag, hali, hs.idle (by simp [hst]) (by simp [hst])⟩
    case isolated =>
      obtain ⟨he, hq⟩ := hcheck (by simp [hst])
      obtain ⟨hlevel, hjudging⟩ := hs.absent.1 (by simp [hst])
      exact ⟨hreason (by simp [hst]), he, hq, hm, hti, hag, hali, ⟨hlevel, rfl, rfl, rfl, rfl, rfl, hjudging⟩⟩
    case training => simp [Link.live, hst] at hlive
    case up => simp [Link.live, hst] at hlive
end

/-! ### Entering a state -/

section
variable {l : Link}

/-- A link in a state that has no alignment, training, agreement or level fields: the conditions that are left. -/
theorem Link.ok_of_idle_parts (hm : l.marks = {}) (ht : l.training.Idle) (ha : l.agree.Idle) (hal : l.align.Idle)
    (hlive : l.live = false) (hc : l.CheckOk) (hs : l.SupervisionOk) : l.ok = true := by
  have hnt : l.state ≠ .training := fun c => by simp [Link.live, c] at hlive
  have hnu : l.state ≠ .up := fun c => by simp [Link.live, c] at hlive
  refine (Link.ok_iff l).mpr ⟨hc, ?_, ?_, ?_, hs⟩
  · simp [Link.TrainingOk, ht.stage, ht.timer, ht.dwell, ht.dwellTimer, ht.presets, ht.context, ht.grades, ht.deskew, hnt]
  · simp [Link.AgreementOk, ha.proposal, ha.accept, ha.active, ha.regroupStart, ha.regroupTimer, hm, hnu]
  · simp [Link.AlignmentOk, hal.recheckState, hal.recheck, hal.recheckTimer]

theorem Link.Idle.verified_ok (h : l.Idle) (hs : l.state = .verified) : l.ok = true := by
  refine Link.ok_of_idle_parts h.marks h.training h.agree h.align (by simp [Link.live, hs]) ?_ ?_
  · simp [Link.CheckOk, hs, h.reason, h.checkEntry, h.quiet]
  · simp [Link.SupervisionOk, hs, h.sup.level, h.sup.isoCause, h.sup.probeTimer, h.sup.probeSet, h.sup.probeDirty,
      h.sup.probeChange, h.sup.judging]

/-- R73: a link without the fields of a state that enters CHECKING. -/
theorem Link.Idle.checking_ok (h : l.Idle) (now : Uptime) (q : Timer) :
    ({ l with state := .checking, checkEntry := some now, quiet := some q } : Link).ok = true := by
  refine Link.ok_of_idle_parts h.marks h.training h.agree h.align rfl ?_ ?_
  · simp [Link.CheckOk, h.reason]
  · simp [Link.SupervisionOk, h.sup.level, h.sup.isoCause, h.sup.probeTimer, h.sup.probeSet, h.sup.probeDirty,
      h.sup.probeChange, h.sup.judging]

/-- R68: a link without the fields of a state that enters BLOCKED. -/
theorem Link.Idle.blocked_ok (h : l.Idle) {k : Link} (hk : k.state = .blocked)
    (hr : k.reason.isSome = true) (hg : k.grant = false) (he : k.checkEntry = l.checkEntry) (hq : k.quiet = l.quiet)
    (hm : k.marks = l.marks) (ht : k.training.Idle) (ha : k.agree.Idle) (hal : k.align = l.align) (hsup : k.sup = l.sup) :
    k.ok = true := by
  refine Link.ok_of_idle_parts (hm.trans h.marks) ht ha (hal ▸ h.align) (by simp [Link.live, hk]) ?_ ?_
  · simp [Link.CheckOk, hk, hr, hg, he, hq, h.checkEntry, h.quiet]
  · simp [Link.SupervisionOk, hk, hsup, h.sup.level, h.sup.isoCause, h.sup.probeTimer, h.sup.probeSet,
      h.sup.probeDirty, h.sup.probeChange, h.sup.judging]
end

/-! ### The changes a link makes within its state and between states -/

section
variable {l : Link}

theorem Link.Idle.leave (h : l.Idle) (now : Uptime) : (l.leave now).Idle := by
  obtain ⟨hr, he, hq, hm, ht, ha, hal, hs⟩ := h
  have hlive : (l.endLive now).Idle :=
    ⟨hr, he, hq, rfl, l.training.ended_idle, l.agree.ended_idle, l.align.ended_idle now,
      ⟨rfl, hs.isoCause, hs.probeSet, hs.probeTimer, hs.probeDirty, hs.probeChange, rfl⟩⟩
  cases hst : l.state <;> simp only [Link.leave, hst]
  case checking => exact ⟨hr, rfl, rfl, hm, ht, ha, hal, hs⟩
  case verified => exact ⟨hr, he, hq, hm, ht, ha, hal, hs⟩
  case blocked => exact ⟨rfl, he, hq, hm, ht, ha, hal, hs⟩
  case isolated => exact ⟨hr, he, hq, hm, ht, ha, hal, ⟨hs.level, rfl, rfl, rfl, rfl, rfl, hs.judging⟩⟩
  case training => exact hlive
  case up => exact hlive

/-- The fields that no state of `ok` reads do not matter to a link without the fields of a state. -/
theorem Link.Idle.of_fields {k : Link} (h : l.Idle) (hr : k.reason = l.reason) (he : k.checkEntry = l.checkEntry)
    (hq : k.quiet = l.quiet) (hm : k.marks = l.marks) (ht : k.training.Idle) (ha : k.agree.Idle)
    (hal : k.align = l.align) (hs : k.sup = l.sup) : k.Idle :=
  ⟨hr.trans h.reason, he.trans h.checkEntry, hq.trans h.quiet, hm.trans h.marks, ht, ha, hal ▸ h.align, hs ▸ h.sup⟩

/-- R135: a link without the fields of a state that enters ISOLATED. -/
theorem Link.Idle.isolated_ok (h : l.Idle) (now : Uptime) (probes : LaneSet) (cause : Reason) (score : Nat) :
    (l.toIsolated now probes cause score).ok = true := by
  have hk := h.leave now
  refine Link.ok_of_idle_parts hk.marks hk.training hk.agree hk.align rfl ?_ ?_
  · simp [Link.CheckOk, Link.toIsolated, hk.reason, hk.checkEntry, hk.quiet]
  · simp [Link.SupervisionOk, Link.toIsolated, hk.sup.level, hk.sup.judging]

theorem Link.toIsolated_ok (h : l.ok = true) (now : Uptime) (probes : LaneSet) (cause : Reason) (score : Nat) :
    (l.toIsolated now probes cause score).ok = true := by
  have hk := Link.idle_leave h now
  refine Link.ok_of_idle_parts hk.marks hk.training hk.agree hk.align rfl ?_ ?_
  · simp [Link.CheckOk, Link.toIsolated, hk.reason, hk.checkEntry, hk.quiet]
  · simp [Link.SupervisionOk, Link.toIsolated, hk.sup.level, hk.sup.judging]

theorem Link.toChecking_ok (h : l.ok = true) (now : Uptime) : (l.toChecking now).ok = true :=
  (Link.idle_leave h now).checking_ok now _

theorem Link.toVerified_ok (h : l.ok = true) (now : Uptime) : (l.toVerified now).ok = true := by
  have hk := Link.idle_leave h now
  exact (hk.of_fields rfl rfl rfl rfl hk.training hk.agree rfl rfl : (l.toVerified now).Idle).verified_ok rfl
end

end Sys2Proof.Machine

/-! SUPPORT and PROOF. What every change of a link record keeps: the fields its state allows (R62), its ranges (R90 to
R140), and that it takes no far identity that it did not hold (R71). -/

namespace Sys2Proof.Machine

open Sys2Proof

/-- From `l` to `k` a link record changes in place or moves without a verdict: it stays in order and within its
ranges, and takes no far identity. -/
structure Link.Follows (q : PortUnit) (h : Half) (max : Nat) (l k : Link) : Prop where
  ok : l.ok = true → k.ok = true
  claim : k.state.holding = true → l.state.holding = true ∧ k.far = l.far
  range : 1 ≤ max → q.desc.all Descriptor.Ok = true → l.InRange q h max → k.InRange q h max

/-- The measured fields of `k` are those of `l`, its groups perhaps cleared. -/
structure Link.SameMeasures (l k : Link) : Prop where
  attempts : k.attempts = l.attempts
  active : k.agree.active = none ∨ k.agree.active = l.agree.active
  proposal : k.agree.proposal = none ∨ k.agree.proposal = l.agree.proposal
  skew : k.align.skew = l.align.skew
  spread : k.align.spread = l.align.spread

section
variable {q : PortUnit} {h : Half} {max : Nat} {l k : Link}

/-- A link record with the same measures is within the same ranges where its score and its end of training are. -/
theorem Link.InRange.carry (r : l.InRange q h max) (hm : l.SameMeasures k) (hs : k.sup.score ≤ 255)
    (hi : k.state = .isolated → 1 ≤ k.sup.score ∧ k.sup.score ≤ 127)
    (hb : l.state = .blocked → l.reason = some .trainFailed → k.state = .blocked ∧ k.reason = some .trainFailed) :
    k.InRange q h max := by
  obtain ⟨-, -, ha, hmax, hact, hprop, hskew, hspread⟩ := r
  obtain ⟨ea, eact, eprop, eskew, espread⟩ := hm
  refine ⟨hi, hs, ea ▸ ha, fun c => ?_, ?_, ?_, eskew ▸ hskew, espread ▸ hspread⟩
  · obtain ⟨h1, h2⟩ := hmax (ea ▸ c)
    exact hb h1 h2
  · rcases eact with e | e
    · rw [e]; rfl
    · rw [e]; exact hact
  · rcases eprop with e | e
    · rw [e]; rfl
    · rw [e]; exact hprop

/-- A link that keeps its state, its reason, its score and its measures stays within its ranges. -/
theorem Link.InRange.same (r : l.InRange q h max) (hm : l.SameMeasures k) (hst : k.state = l.state)
    (hr : k.reason = l.reason) (hs : k.sup.score = l.sup.score) : k.InRange q h max := by
  refine r.carry hm (hs ▸ r.2.1) (fun c => ?_) fun h1 h2 => ⟨hst.trans h1, hr.trans h2⟩
  rw [hs]; exact r.1 (hst.symm.trans c)

/-- A link that is not BLOCKED with TRAIN_FAILED moves to a state other than ISOLATED with its score. -/
theorem Link.InRange.move (r : l.InRange q h max) (hm : l.SameMeasures k) (hs : k.sup.score = l.sup.score)
    (hi : k.state ≠ .isolated) (hb : ¬ (l.state = .blocked ∧ l.reason = some .trainFailed)) : k.InRange q h max :=
  r.carry hm (hs ▸ r.2.1) (fun c => absurd c hi) fun h1 h2 => absurd ⟨h1, h2⟩ hb

theorem Link.SameMeasures.refl (l : Link) : l.SameMeasures l := ⟨rfl, .inr rfl, .inr rfl, rfl, rfl⟩

theorem Link.SameMeasures.trans {m : Link} (h1 : l.SameMeasures k) (h2 : k.SameMeasures m) : l.SameMeasures m := by
  refine ⟨h2.attempts.trans h1.attempts, ?_, ?_, h2.skew.trans h1.skew, h2.spread.trans h1.spread⟩
  · rcases h2.active with e | e
    · exact .inl e
    · rw [e]; exact h1.active
  · rcases h2.proposal with e | e
    · exact .inl e
    · rw [e]; exact h1.proposal

/-- What a link clears when it leaves its state leaves its measures, its far identity and its score. -/
theorem Link.leave_measures (l : Link) (now : Uptime) : l.SameMeasures (l.leave now) ∧ (l.leave now).far = l.far ∧
    (l.leave now).sup.score = l.sup.score ∧ (l.leave now).agree.role = l.agree.role ∧ (l.leave now).grant = l.grant := by
  unfold Link.leave
  cases l.state
  case training => exact ⟨⟨rfl, .inl rfl, .inl rfl, rfl, rfl⟩, rfl, rfl, rfl, rfl⟩
  case up => exact ⟨⟨rfl, .inl rfl, .inl rfl, rfl, rfl⟩, rfl, rfl, rfl, rfl⟩
  all_goals exact ⟨⟨rfl, .inr rfl, .inr rfl, rfl, rfl⟩, rfl, rfl, rfl, rfl⟩

theorem Link.Follows.trans {m : Link} (h1 : Link.Follows q h max l k) (h2 : Link.Follows q h max k m) :
    Link.Follows q h max l m :=
  ⟨h2.ok ∘ h1.ok, fun c => by
    obtain ⟨c1, e1⟩ := h2.claim c
    obtain ⟨c2, e2⟩ := h1.claim c1
    exact ⟨c2, e1.trans e2⟩, fun a b r => h2.range a b (h1.range a b r)⟩

theorem Link.Follows.refl (q : PortUnit) (h : Half) (max : Nat) (l : Link) : Link.Follows q h max l l :=
  ⟨id, fun c => ⟨c, rfl⟩, fun _ _ r => r⟩

/-- R73: a link enters CHECKING from any state but BLOCKED with TRAIN_FAILED. -/
theorem Link.follows_toChecking (now : Uptime) (hb : ¬ (l.state = .blocked ∧ l.reason = some .trainFailed)) :
    Link.Follows q h max l (l.toChecking now) := by
  obtain ⟨hm, -, hs, -⟩ := l.leave_measures now
  refine ⟨fun ho => Link.toChecking_ok ho now, fun c => ?_, fun _ _ r => r.move ?_ hs (by simp [Link.toChecking]) hb⟩
  · simp [Link.toChecking, LinkState.holding] at c
  · exact ⟨hm.attempts, hm.active, hm.proposal, hm.skew, hm.spread⟩

/-- R120, R130: a live link returns to VERIFIED. -/
theorem Link.follows_toVerified (now : Uptime) (hl : l.live = true) : Link.Follows q h max l (l.toVerified now) := by
  obtain ⟨hm, hf, hs, -⟩ := l.leave_measures now
  have hst : l.state = .training ∨ l.state = .up := by simpa [Link.live] using hl
  refine ⟨fun ho => Link.toVerified_ok ho now, fun _ => ⟨?_, hf⟩, fun _ _ r => r.move ?_ hs (by simp [Link.toVerified]) ?_⟩
  · rcases hst with e | e <;> simp [e, LinkState.holding]
  · exact ⟨hm.attempts, hm.active, hm.proposal, hm.skew, hm.spread⟩
  · rcases hst with e | e <;> simp [e]

/-- R134, R133: a link enters ISOLATED with score 127. -/
theorem Link.follows_toIsolated (now : Uptime) (probes : LaneSet) (cause : Reason) {score : Nat}
    (h1 : 1 ≤ score) (h2 : score ≤ 127) (hb : ¬ (l.state = .blocked ∧ l.reason = some .trainFailed)) :
    Link.Follows q h max l (l.toIsolated now probes cause score) := by
  obtain ⟨hm, -⟩ := l.leave_measures now
  refine ⟨fun ho => Link.toIsolated_ok ho now _ _ _, fun c => ?_, fun _ _ r => r.carry ?_ ?_ (fun _ => ⟨h1, h2⟩) ?_⟩
  · simp [Link.toIsolated, LinkState.holding] at c
  · exact ⟨hm.attempts, hm.active, hm.proposal, hm.skew, hm.spread⟩
  · exact h2.trans (by decide)
  · exact fun a b => absurd ⟨a, b⟩ hb

/-- R119: the record of a TRAINING link after a counted failure, less its state. -/
theorem Link.idle_failure (ho : l.ok = true) (now : Uptime) (count : Nat) (cause : Reason) :
    ({ l.leave now with attempts := count, training := { (l.leave now).training with lastFailure := some cause } } :
      Link).Idle := by
  have hk := Link.idle_leave ho now
  obtain ⟨t1, t2, t3, t4, t5, t6, t7, t8⟩ := hk.training
  exact hk.of_fields rfl rfl rfl rfl ⟨t1, t2, t3, t4, t5, t6, t7, t8⟩ hk.agree rfl rfl
end

/-! ### The fields of a TRAINING link and of an UP link -/

/-- The fields of a TRAINING link (R106). -/
structure Link.TrainingFields (l : Link) : Prop where
  reason : l.reason = none
  checkEntry : l.checkEntry = none
  quiet : l.quiet = none
  stage : l.training.stage.isSome = true
  timer : l.training.timer.isSome = true
  dwell : l.training.dwell.isSome = true ↔ l.training.stage = some .equalize
  dwellTimer : l.training.dwellTimer.isSome = true ↔ l.training.dwell.isSome = true
  agree : l.training.stage ≠ some .align → l.agree.proposal = none ∧ l.agree.accept = false ∧ l.agree.active = none
  regroupStart : l.agree.regroupStart = none
  regroupTimer : l.agree.regroupTimer = none
  align : l.align.Idle
  sup : l.sup.Idle

/-- The fields of an UP link (R84, R92, R96, R127). -/
structure Link.UpFields (l : Link) : Prop where
  reason : l.reason = none
  checkEntry : l.checkEntry = none
  quiet : l.quiet = none
  training : l.training.Idle
  active : l.agree.active.isSome = true
  regroup : l.agree.regroupTimer.isSome = true ↔ l.agree.regroupStart.isSome = true
  recheck : l.align.recheckState = .idle → l.align.recheck = {}
  level : l.sup.level.isSome = true
  isoCause : l.sup.isoCause = none
  probeTimer : l.sup.probeTimer = none
  probe : l.sup.probeSet = 0 ∧ l.sup.probeDirty = false ∧ l.sup.probeChange = false

section
variable {l : Link}

theorem Link.ok_iff_trainingFields (hs : l.state = .training) : l.ok = true ↔ l.TrainingFields := by
  constructor
  · intro ho
    obtain ⟨hc, ⟨ht1, ht2, ht3, ht4, -⟩, ha, hal, hsup⟩ := (Link.ok_iff l).mp ho
    obtain ⟨hreason, hcheck⟩ := hc.absent
    obtain ⟨he, hq⟩ := hcheck (by simp [hs])
    obtain ⟨hag, -, hr1, hr2, -⟩ := ha
    have h1 : l.agree.regroupStart = none := Option.not_isSome_iff_eq_none.mp fun c => by simp [hs] at hr1; simp [hr1] at c
    exact ⟨hreason (by simp [hs]), he, hq, ht1.mpr hs, ht2.mpr hs, ht3, ht4, hag (by simp [hs]), h1,
      Option.not_isSome_iff_eq_none.mp fun c => (by rw [h1] at hr2; cases hr2.mp c),
      hal.idle (by simp [hs]), hsup.idle (by simp [hs]) (by simp [hs])⟩
  · intro f
    obtain ⟨b1, b2, b3⟩ := f.align
    obtain ⟨c1, c2, c3, c4, c5, c6, c7⟩ := f.sup
    refine (Link.ok_iff l).mpr ⟨?_, ?_, ?_, ?_, ?_⟩
    · simp [Link.CheckOk, hs, f.reason, f.checkEntry, f.quiet]
    · simp only [Link.TrainingOk, hs]
      exact ⟨iff_of_true f.stage trivial, iff_of_true f.timer trivial, f.dwell, f.dwellTimer, fun c => absurd rfl c⟩
    · refine ⟨fun _ => f.agree, ?_, ?_, ?_, ?_⟩ <;> simp [hs, f.regroupStart, f.regroupTimer, Link.live]
    · simp [Link.AlignmentOk, b1, b2, b3]
    · simp [Link.SupervisionOk, hs, c1, c2, c3, c4, c5, c6, c7]

theorem Link.ok_iff_upFields (hs : l.state = .up) : l.ok = true ↔ l.UpFields := by
  constructor
  · intro ho
    obtain ⟨hc, ht, ha, hal, hsup⟩ := (Link.ok_iff l).mp ho
    obtain ⟨hreason, hcheck⟩ := hc.absent
    obtain ⟨he, hq⟩ := hcheck (by simp [hs])
    obtain ⟨-, hact, -, hr2, -⟩ := ha
    obtain ⟨hi1, hi2, hi3⟩ := hsup.absent.2 (by simp [hs])
    exact ⟨hreason (by simp [hs]), he, hq, ht.idle (by simp [hs]), hact hs, hr2, hal.2.1, hsup.1.mpr hs, hi1, hi2, hi3⟩
  · intro f
    obtain ⟨t1, t2, t3, t4, t5, t6, t7, t8⟩ := f.training
    refine (Link.ok_iff l).mpr ⟨?_, ?_, ?_, ?_, ?_⟩
    · simp [Link.CheckOk, hs, f.reason, f.checkEntry, f.quiet]
    · simp [Link.TrainingOk, hs, t1, t2, t3, t4, t5, t6, t7, t8]
    · exact ⟨fun c => absurd hs c, fun _ => f.active, fun _ => hs, f.regroup, fun c => by simp [Link.live, hs] at c⟩
    · exact ⟨fun _ => hs, f.recheck, fun _ => hs⟩
    · simp only [Link.SupervisionOk, hs, f.isoCause, f.probeTimer, f.probe]
      exact ⟨iff_of_true f.level trivial, by simp, by simp, by simp, by simp⟩

/-- An ISOLATED link is in order with every score, probe timer and probe mark (R125). -/
theorem Link.isolated_ok (ho : l.ok = true) (hs : l.state = .isolated) {u : Supervision} (hl : u.level = l.sup.level)
    (hc : u.isoCause = l.sup.isoCause) (ht : u.probeTimer.isSome = true) (hj : u.judging = l.sup.judging) :
    ({ l with sup := u } : Link).ok = true := by
  obtain ⟨h1, h2, h3, h4, hsup⟩ := (Link.ok_iff l).mp ho
  obtain ⟨hlevel, hjudging⟩ := hsup.absent.1 (by simp [hs])
  refine (Link.ok_iff _).mpr ⟨h1, h2, h3, h4, ?_⟩
  simp only [Link.SupervisionOk, hl, hc, hj, hlevel, hjudging]
  exact ⟨by simp [hs], hsup.2.1, iff_of_true ht hs, fun c => absurd hs c, by simp⟩
end

section
variable {q : PortUnit} {h : Half} {max : Nat} {l k : Link}

/-- A link that changes in place, its measures kept. -/
theorem Link.Follows.inPlace (hst : k.state = l.state) (hf : k.far = l.far) (hr : k.reason = l.reason)
    (hs : k.sup.score = l.sup.score) (hm : l.SameMeasures k) (ho : l.ok = true → k.ok = true) :
    Link.Follows q h max l k :=
  ⟨ho, fun c => ⟨hst ▸ c, hf⟩, fun _ _ r => r.same hm hst hr hs⟩
end

end Sys2Proof.Machine

/-! SUPPORT and PROOF. Groups, skews and delays within their ranges (R78 to R81, R99, R100), and what the runs of the
protocol and of the computation give a link. -/

namespace Sys2Proof.Machine

open Sys2Proof

set_option Elab.async false

/-! ### Groups -/

/-- R1, R6: the span of a half of a port with a usable descriptor. -/
theorem PortUnit.span_mem {q : PortUnit} (hd : q.desc.all Descriptor.Ok = true) (h : Half) :
    q.span h ∈ [0, 1, 2, 4, 8] := by
  unfold PortUnit.span
  cases hq : q.desc with
  | none => simp
  | some d =>
    have hl : d.lanes ∈ [1, 2, 4, 8] := by
      simp only [hq, Option.all_some, Descriptor.Ok, Bool.and_eq_true] at hd
      simpa using hd.1
    cases hf : d.form <;> cases h <;> simp_all

/-- R81: the mirror of a candidate group of a span is a candidate group. -/
theorem MapClass.group_mem_candidates {n : Nat} (hn : n ∈ [0, 1, 2, 4, 8]) {m : MapClass} {g g' : Group}
    (hg : g ∈ candidateGroups n) (hm : m.group n g = some g') : g' ∈ candidateGroups n := by
  cases m with
  | straight => obtain rfl : g = g' := Option.some.inj hm; exact hg
  | reversed =>
    have hn8 : n ≤ 8 := (by decide : ∀ n ∈ [0, 1, 2, 4, 8], n ≤ 8) n hn
    obtain ⟨hw, hmod, hend⟩ := (mem_candidateGroups hn8 g).mp hg
    simp only [MapClass.group, hend, if_true, Option.some.injEq] at hm
    subst hm
    refine (mem_candidateGroups hn8 _).mpr ⟨hw, ?_, show n - g.start - g.width + g.width ≤ n by omega⟩
    have hdvd : g.width ∣ n := by
      rcases List.mem_cons.mp hn with rfl | hn'
      · exact dvd_zero _
      · exact width_dvd_span hn' hw (by omega)
    exact Nat.mod_eq_zero_of_dvd ((Nat.dvd_sub (Nat.dvd_sub hdvd (Nat.dvd_of_mod_eq_zero hmod)) dvd_rfl))

theorem candidates_contains {n : Nat} {g : Group} (hg : g ∈ candidateGroups n) :
    (some g).all (fun g => (candidateGroups n).contains g) = true := by simpa using hg

section
variable {q : PortUnit} {h : Half} {l : Link} {g : Group}

/-- R85: the group selected is a candidate group. -/
theorem PortUnit.selected_mem (hg : q.selected h l = some g) : g ∈ candidateGroups (q.span h) := by
  unfold PortUnit.selected at hg
  split at hg
  · next hs =>
    split at hg
    · cases hg
    · obtain rfl := Option.some.inj hg
      exact (select_some hs).1
  · cases hg

/-- R86: the group a JUNIOR end takes is a candidate group. -/
theorem PortUnit.juniorTest_mem (hd : q.desc.all Descriptor.Ok = true) (hg : q.juniorTest h l = some g) :
    g ∈ candidateGroups (q.span h) := by
  unfold PortUnit.juniorTest at hg
  split at hg
  · next heard g' hheard hfar =>
    split at hg
    · next ht =>
      obtain rfl := Option.some.inj hg
      simp only [Bool.and_eq_true, List.contains_iff_mem] at ht
      rw [PortUnit.farProposal, hheard] at hfar
      exact MapClass.group_mem_candidates (PortUnit.span_mem hd h) ht.1.1.1 hfar
    · cases hg
  · cases hg
end

/-! ### Skews and delays -/

/-- R98, R99: every skew lies in the window and the spread in the range of the differences. -/
theorem alignment_inRange (L : List (Nat × Nat)) : (∀ r, skewAt (alignment L).skew r ≤ 63) ∧
    ((alignment L).spread.all fun n => decide (n ≤ 1023)) = true := by
  unfold alignment
  dsimp only
  split
  · exact ⟨fun r => by simp [skewAt, laneAt], rfl⟩
  · next j base hc =>
    refine ⟨fun r => ?_, ?_⟩
    · have hlane : ∀ f : Nat → Option Nat, (∀ i, (f i).getD 0 ≤ 63) → skewAt (laneVector f) r ≤ 63 := by
        intro f hf
        have hr : r % 8 < 8 := Nat.mod_lt _ (by decide)
        have : laneAt (laneVector f) r = laneAt (laneVector f) (r % 8) := by
          simp [laneAt, Fin.ofNat]
        rw [skewAt, this, laneAt_laneVector f hr]
        exact hf _
      refine hlane _ fun i => ?_
      split
      · split
        · next hw =>
          simp only [inWindow, Bool.and_eq_true, decide_eq_true_eq] at hw
          simp only [Option.getD_some]; omega
        · simp
      · simp
    · have hle (ds : List (Nat × Int)) (hds : ∀ x ∈ ds, -512 ≤ x.2 ∧ x.2 ≤ 511) : greatest ds ≤ 511 ∧ -512 ≤ least ds := by
        unfold greatest least
        have : ∀ (m n : Int), m ≤ 511 → -512 ≤ n → ds.foldl (fun m x => max m x.2) m ≤ 511 ∧
            -512 ≤ ds.foldl (fun m x => min m x.2) n := by
          induction ds with
          | nil => intro m n hm hn; exact ⟨hm, hn⟩
          | cons x ds ih =>
            intro m n hm hn
            obtain ⟨h1, h2⟩ := hds x (List.mem_cons_self ..)
            exact ih (fun y hy => hds y (List.mem_cons_of_mem _ hy)) _ _ (max_le hm h2) (le_min hn h1)
        exact this _ _ (by decide) (by decide)
      obtain ⟨h1, h2⟩ := hle (wrapDiffs L) fun x hx => wrapDiffs_bounds hx
      simp only [Option.all_some, decide_eq_true_eq]; omega

/-- R100: no delay exceeds the greatest skew. -/
theorem deskewDelay_le {skew : Vector (Option Nat) 8} (hs : ∀ r : Fin 8, skewAt skew r ≤ 63) (active : LaneSet) (r : Nat) :
    deskewDelay skew active r ≤ 63 := by
  have hall (i : Nat) : skewAt skew i ≤ 63 := by
    have := hs (Fin.ofNat 8 i)
    simpa [skewAt, laneAt, Fin.ofNat] using this
  unfold deskewDelay
  split
  · have hne : active ≠ 0 := by rintro rfl; simp_all
    obtain ⟨⟨m, -, hm⟩, -⟩ := greatestSkew_mem_and_le skew hne
    have := hall m
    omega
  · omega

end Sys2Proof.Machine

/-! SUPPORT and PROOF. The changes a link makes in place, each keeping the record in order (R62 to R125). -/

namespace Sys2Proof.Machine

open Sys2Proof

variable {q : PortUnit} {h : Half} {max : Nat} {l : Link}

/-! ### Fields that no state forbids -/

/-- R126: the count of violations is free. -/
theorem Link.follows_violations (n : Nat) : Link.Follows q h max l { l with sup := { l.sup with violations := n } } :=
  .inPlace rfl rfl rfl rfl ⟨rfl, .inr rfl, .inr rfl, rfl, rfl⟩ fun ho => (Link.ok_iff _).mpr ((Link.ok_iff l).mp ho)

/-- R128: so is the count of lock losses. -/
theorem Link.follows_lockLosses (n : Nat) : Link.Follows q h max l { l with sup := { l.sup with lockLosses := n } } :=
  .inPlace rfl rfl rfl rfl ⟨rfl, .inr rfl, .inr rfl, rfl, rfl⟩ fun ho => (Link.ok_iff _).mpr ((Link.ok_iff l).mp ho)

theorem Link.follows_grant (hs : l.state ≠ .blocked) : Link.Follows q h max l { l with grant := true } := by
  refine .inPlace rfl rfl rfl rfl ⟨rfl, .inr rfl, .inr rfl, rfl, rfl⟩ fun ho => ?_
  obtain ⟨⟨h1, -, h2⟩, h3⟩ := (Link.ok_iff l).mp ho
  exact (Link.ok_iff _).mpr ⟨⟨h1, fun c => absurd c hs, h2⟩, h3⟩

/-- R74: a restart of the quiet timer. -/
theorem Link.follows_restartQuiet (now : Uptime) : Link.Follows q h max l (l.restartQuiet now) := by
  unfold Link.restartQuiet
  split
  · next e he =>
    split
    · refine .inPlace rfl rfl rfl rfl ⟨rfl, .inr rfl, .inr rfl, rfl, rfl⟩ fun ho => ?_
      obtain ⟨⟨h1, h2, h3, -⟩, h4⟩ := (Link.ok_iff l).mp ho
      exact (Link.ok_iff _).mpr ⟨⟨h1, h2, h3, iff_of_true rfl (h3.mp (by rw [he]; rfl))⟩, h4⟩
    · exact .refl ..
  · exact .refl ..

/-! ### ISOLATED -/

/-- R77, R136: the probe marks of an ISOLATED link. -/
theorem Link.follows_noteProbeChange (hs : l.state = .isolated) (r : Nat) (c : Bool) :
    Link.Follows q h max l (l.noteProbeChange r c) := by
  refine .inPlace rfl rfl rfl rfl ⟨rfl, .inr rfl, .inr rfl, rfl, rfl⟩ fun ho => Link.isolated_ok ho hs rfl rfl ?_ rfl
  obtain ⟨-, -, -, -, h5⟩ := (Link.ok_iff l).mp ho
  exact h5.2.2.1.mpr hs

theorem Link.follows_badMark (r : Nat) : Link.Follows q h max l
    (if l.state = .isolated ∧ LaneSet.has l.sup.probeSet r = true then
      { l with sup := { l.sup with probeDirty := true } } else l) := by
  split
  · next hc =>
    refine .inPlace rfl rfl rfl rfl ⟨rfl, .inr rfl, .inr rfl, rfl, rfl⟩ fun ho =>
      Link.isolated_ok ho hc.1 rfl rfl ?_ rfl
    obtain ⟨-, -, -, -, h5⟩ := (Link.ok_iff l).mp ho
    exact h5.2.2.1.mpr hc.1
  · exact .refl ..

/-- R139: RECOVER sets the score of an ISOLATED link to 1. -/
theorem Link.follows_recover (hs : l.state = .isolated) :
    Link.Follows q h max l { l with sup := { l.sup with score := 1 } } := by
  refine ⟨fun ho => Link.isolated_ok ho hs rfl rfl ?_ rfl, fun c => by simp [hs, LinkState.holding] at c, fun _ _ r => ?_⟩
  · obtain ⟨-, -, -, -, h5⟩ := (Link.ok_iff l).mp ho
    exact h5.2.2.1.mpr hs
  · exact r.carry ⟨rfl, .inr rfl, .inr rfl, rfl, rfl⟩ (by simp) (fun _ => ⟨le_rfl, by simp⟩) fun a _ => by simp [hs] at a

/-- R136: a probe keeps the record in order; its score may fall to 0, which ends the recovery. -/
theorem Link.probed_ok (ho : l.ok = true) (hs : l.state = .isolated) (now : Uptime) (clean : Bool) :
    (l.probed now clean).ok = true := Link.isolated_ok ho hs rfl rfl rfl rfl

theorem Link.follows_probed (hs : l.state = .isolated) (now : Uptime) (clean : Bool)
    (hc : clean = true → (l.probed now clean).sup.score ≠ 0) : Link.Follows q h max l (l.probed now clean) := by
  refine ⟨fun ho => Link.probed_ok ho hs now clean, fun c => by simp [Link.probed, hs, LinkState.holding] at c,
    fun _ _ r => ?_⟩
  obtain ⟨h1, h2⟩ := r.1 hs
  refine r.carry ⟨rfl, .inr rfl, .inr rfl, rfl, rfl⟩ ?_ (fun _ => ?_) fun a _ => by simp [hs] at a
  · cases clean <;> simp only [Link.probed] <;> [exact r.2.1; (have := r.2.1; simp; omega)]
  · cases clean
    · exact ⟨h1, h2⟩
    · have := hc rfl
      simp only [Link.probed, if_true] at this ⊢
      omega

/-! ### UP -/

/-- R95: a lane leaves a recheck that is not in flight without effect. -/
theorem Collection.restrict_empty (L : LaneSet) : ({} : Collection).restrict L = {} := by
  have hz : (0 : LaneSet) &&& L = 0 := BitVec.zero_and
  simp only [Collection.restrict, hz]
  congr 1

section
variable (hs : l.state = .up)
include hs

/-- An UP link changes in place, its measures and its score kept. -/
theorem Link.follows_up {k : Link} (hk : k.state = .up) (hf : k.far = l.far) (hr : k.reason = l.reason)
    (hsc : k.sup.score = l.sup.score) (hm : l.SameMeasures k) (hu : l.UpFields → k.UpFields) : Link.Follows q h max l k :=
  .inPlace (hk.trans hs.symm) hf hr hsc hm fun ho =>
    (Link.ok_iff_upFields hk).mpr (hu ((Link.ok_iff_upFields hs).mp ho))

theorem Link.follows_judging : Link.Follows q h max l { l with sup := { l.sup with judging := true } } :=
  Link.follows_up hs hs rfl rfl rfl ⟨rfl, .inr rfl, .inr rfl, rfl, rfl⟩ fun f => { f with }

/-- R127: the score of an UP link and its level. -/
theorem Link.follows_score {score : Nat} (hsc : l.InRange q h max → score ≤ 255) (level : HealthLevel) :
    Link.Follows q h max l { l with sup := { l.sup with score := score, level := some level } } := by
  refine ⟨fun ho => ?_, fun c => ⟨c, rfl⟩, fun _ _ r => ?_⟩
  · have f := (Link.ok_iff_upFields hs).mp ho
    exact (Link.ok_iff_upFields (by exact hs)).mpr { f with level := rfl }
  · exact r.carry ⟨rfl, .inr rfl, .inr rfl, rfl, rfl⟩ (hsc r) (fun a => by simp [hs] at a) fun a _ => by simp [hs] at a

omit hs in
theorem Link.abandonRecheck_state (now : Uptime) (r : Nat) : (l.abandonRecheck now r).state = l.state := by
  unfold Link.abandonRecheck; split <;> rfl

omit hs in
theorem Link.markLockLost_state (r : Nat) : (l.markLockLost r).state = l.state := rfl

/-- R103: a lock loss abandons a recheck. -/
theorem Link.follows_abandonRecheck (now : Uptime) (r : Nat) : Link.Follows q h max l (l.abandonRecheck now r) := by
  unfold Link.abandonRecheck
  split
  · exact Link.follows_up hs hs rfl rfl rfl ⟨rfl, .inr rfl, .inr rfl, rfl, rfl⟩ fun f => { f with recheck := fun _ => rfl }
  · exact .refl ..

theorem Link.follows_markLockLost (r : Nat) : Link.Follows q h max l (l.markLockLost r) :=
  Link.follows_up hs hs rfl rfl rfl ⟨rfl, .inr rfl, .inr rfl, rfl, rfl⟩ fun f => { f with }

/-- R92: the regroup fields of an UP link. -/
theorem Link.follows_regroup (b : Bool) (now : Uptime) (t : Timer) : Link.Follows q h max l
    (if b then
      if l.agree.regroupStart.isSome then l
      else { l with agree := { l.agree with regroupStart := some now, regroupTimer := some t } }
    else { l with agree := { l.agree with regroupStart := none, regroupTimer := none } }) := by
  split
  · split
    · exact .refl ..
    · exact Link.follows_up hs hs rfl rfl rfl ⟨rfl, .inr rfl, .inr rfl, rfl, rfl⟩ fun f => { f with regroup := by simp }
  · exact Link.follows_up hs hs rfl rfl rfl ⟨rfl, .inr rfl, .inr rfl, rfl, rfl⟩ fun f => { f with regroup := by simp }

/-- R90, R91: an adoption while UP. -/
theorem Link.follows_shedTo (old new : Group) : Link.Follows q h max l (l.shedTo old new) :=
  Link.follows_up hs hs rfl rfl rfl ⟨rfl, .inr rfl, .inr rfl, rfl, rfl⟩ fun f =>
    { f with recheck := fun c => (congrArg (·.restrict new.lanes) (f.recheck c)).trans (Collection.restrict_empty _) }

/-- R104, R105: the results of a recheck. -/
theorem Link.follows_rechecked (now : Uptime) (L : List (Nat × Nat)) :
    Link.Follows q h max l (l.rechecked now (alignment L)) := by
  refine ⟨fun ho => ?_, fun c => ⟨c, rfl⟩, fun _ _ r => ?_⟩
  · have f := (Link.ok_iff_upFields hs).mp ho
    exact (Link.ok_iff_upFields (by exact hs)).mpr { f with recheck := fun _ => rfl }
  · obtain ⟨h1, h2, h3, h4, h5, h6, -, -⟩ := r
    exact ⟨h1, h2, h3, h4, h5, h6, fun r => (alignment_inRange L).1 r, (alignment_inRange L).2⟩

/-- R95, R103: a recheck begun, or a stamp taken by one in flight. -/
theorem Link.follows_recheck (c : Collection) :
    Link.Follows q h max l { l with align := { l.align with recheckState := .collecting, recheck := c } } :=
  Link.follows_up hs hs rfl rfl rfl ⟨rfl, .inr rfl, .inr rfl, rfl, rfl⟩ fun f => { f with recheck := fun c => by cases c }

theorem Link.follows_take (hc : l.align.recheckState = .collecting) (c : Collection) :
    Link.Follows q h max l { l with align := { l.align with recheck := c } } :=
  Link.follows_up hs hs rfl rfl rfl ⟨rfl, .inr rfl, .inr rfl, rfl, rfl⟩ fun f =>
    { f with recheck := fun d => by rw [show l.align.recheckState = .idle from d] at hc; cases hc }

theorem Link.follows_recheckTimer (t : Option Timer) :
    Link.Follows q h max l { l with align := { l.align with recheckTimer := t } } :=
  Link.follows_up hs hs rfl rfl rfl ⟨rfl, .inr rfl, .inr rfl, rfl, rfl⟩ fun f => { f with }
end

/-! ### The protocol (R85 to R87) -/

/-- A link in ALIGN or UP. -/
def Link.agrees (l : Link) : Prop := l.state = .up ∨ (l.state = .training ∧ l.training.stage = some .align)

/-- A link in ALIGN or UP takes another agreement in place: an UP link one with an active group. -/
theorem Link.follows_agree (ha : l.agrees) {a : Agreement} (hr1 : a.regroupStart = l.agree.regroupStart)
    (hr2 : a.regroupTimer = l.agree.regroupTimer) (hact : l.state = .up → l.agree.active.isSome = true → a.active.isSome = true)
    (hrange : q.desc.all Descriptor.Ok = true → l.InRange q h max →
      (a.active.all fun g => (candidateGroups (q.span h)).contains g) = true ∧
      (a.proposal.all fun g => (candidateGroups (q.span h)).contains g) = true) :
    Link.Follows q h max l { l with agree := a } := by
  refine ⟨fun ho => ?_, fun c => ⟨c, rfl⟩, fun _ hd r => ?_⟩
  · rcases ha with hs | ⟨hs, hst⟩
    · have f := (Link.ok_iff_upFields hs).mp ho
      exact (Link.ok_iff_upFields (l := { l with agree := a }) hs).mpr
        { f with active := hact hs f.active, regroup := by simp only [hr1, hr2]; exact f.regroup }
    · have f := (Link.ok_iff_trainingFields hs).mp ho
      exact (Link.ok_iff_trainingFields (l := { l with agree := a }) hs).mpr
        { f with agree := fun c => absurd hst c, regroupStart := hr1.trans f.regroupStart, regroupTimer := hr2.trans f.regroupTimer }
  · obtain ⟨h5, h6⟩ := hrange hd r
    obtain ⟨h1, h2, h3, h4, -, -, h7, h8⟩ := r
    exact ⟨h1, h2, h3, h4, h5, h6, h7, h8⟩

/-- R85 to R87: a run of the protocol that is not narrow. -/
theorem Link.follows_runProtocol (ha : l.agrees) {k : Link} (hk : q.runProtocol h l = some k) :
    Link.Follows q h max l k := by
  unfold PortUnit.runProtocol at hk
  split at hk
  · cases hk
  · next g hg =>
    have hmem := candidates_contains (PortUnit.selected_mem hg)
    split at hk
    · obtain rfl := Option.some.inj hk
      unfold Link.juniorSteps
      split
      · next g' hj =>
        exact Link.follows_agree ha rfl rfl (fun _ _ => rfl) fun hd _ =>
          ⟨candidates_contains (PortUnit.juniorTest_mem hd hj), candidates_contains (PortUnit.juniorTest_mem hd hj)⟩
      · split
        · exact Link.follows_agree ha rfl rfl (fun _ c => c) fun _ r => ⟨r.2.2.2.2.1, r.2.2.2.2.1⟩
        · next hn => exact Link.follows_agree ha rfl rfl (fun c => absurd c hn) fun _ _ => ⟨rfl, rfl⟩
    · obtain rfl := Option.some.inj hk
      refine Link.follows_agree ha rfl rfl (fun _ c => ?_) fun _ r => ⟨?_, hmem⟩
      · dsimp only; split <;> simp [c]
      · dsimp only; split
        · exact hmem
        · exact r.2.2.2.2.1
    · obtain rfl := Option.some.inj hk
      exact .refl ..

/-! ### TRAINING -/

/-- A link in EQUALIZE, its dwell apart (R110 to R114). -/
structure Link.Equalizing (l : Link) : Prop where
  state : l.state = .training
  stage : l.training.stage = some .equalize
  reason : l.reason = none
  checkEntry : l.checkEntry = none
  quiet : l.quiet = none
  timer : l.training.timer.isSome = true
  agree : l.agree.Idle
  align : l.align.Idle
  sup : l.sup.Idle

theorem Link.equalizing_of_ok (ho : l.ok = true) (hs : l.state = .training) (hst : l.training.stage = some .equalize) :
    l.Equalizing := by
  have f := (Link.ok_iff_trainingFields hs).mp ho
  obtain ⟨h1, h2, h3⟩ := f.agree (by simp [hst])
  exact ⟨hs, hst, f.reason, f.checkEntry, f.quiet, f.timer, ⟨h1, h2, h3, f.regroupStart, f.regroupTimer⟩, f.align, f.sup⟩

/-- R110: a VERIFIED link enters TRAINING. -/
theorem Link.equalizing_toTraining (ho : l.ok = true) (hs : l.state = .verified) {t : Option Timer} (ht : t.isSome = true) :
    (l.toTraining t).Equalizing := by
  obtain ⟨hc, -, -, -, hsup⟩ := (Link.ok_iff l).mp ho
  obtain ⟨hreason, hcheck⟩ := hc.absent
  obtain ⟨he, hq⟩ := hcheck (by simp [hs])
  obtain ⟨c1, c2, c3, c4, c5, c6, c7⟩ := hsup.idle (by simp [hs]) (by simp [hs])
  exact ⟨rfl, rfl, hreason (by simp [hs]), he, hq, ht, ⟨rfl, rfl, rfl, rfl, rfl⟩, ⟨rfl, rfl, rfl⟩, ⟨c1, c2, c3, c4, c5, c6, c7⟩⟩

/-- R112, R113: a dwell begins. -/
theorem Link.Equalizing.dwell_ok (e : l.Equalizing) {t : Training} (hst : t.stage = l.training.stage)
    (htm : t.timer = l.training.timer) (hd : t.dwell.isSome = true) (hdt : t.dwellTimer.isSome = true) :
    ({ l with training := t } : Link).ok = true :=
  (Link.ok_iff_trainingFields (l := { l with training := t }) e.state).mpr
    { reason := e.reason, checkEntry := e.checkEntry, quiet := e.quiet
      stage := show t.stage.isSome = true by rw [hst, e.stage]; rfl
      timer := show t.timer.isSome = true by rw [htm]; exact e.timer
      dwell := iff_of_true hd (hst.trans e.stage)
      dwellTimer := iff_of_true hdt hd
      agree := fun _ => ⟨e.agree.proposal, e.agree.accept, e.agree.active⟩
      regroupStart := e.agree.regroupStart, regroupTimer := e.agree.regroupTimer, align := e.align, sup := e.sup }

/-- R114: EQUALIZE ends and DESKEW begins. -/
theorem Link.Equalizing.deskew_ok (e : l.Equalizing) (m : Marks) {t : Training} (hst : t.stage = some .deskew)
    (htm : t.timer = l.training.timer) (hd : t.dwell = none) (hdt : t.dwellTimer = none) :
    ({ l with marks := m, training := t } : Link).ok = true :=
  (Link.ok_iff_trainingFields (l := { l with marks := m, training := t }) e.state).mpr
    { reason := e.reason, checkEntry := e.checkEntry, quiet := e.quiet
      stage := show t.stage.isSome = true by rw [hst]; rfl
      timer := show t.timer.isSome = true by rw [htm]; exact e.timer
      dwell := show t.dwell.isSome = true ↔ t.stage = some .equalize by simp [hd, hst]
      dwellTimer := show t.dwellTimer.isSome = true ↔ t.dwell.isSome = true by simp [hd, hdt]
      agree := fun _ => ⟨e.agree.proposal, e.agree.accept, e.agree.active⟩
      regroupStart := e.agree.regroupStart, regroupTimer := e.agree.regroupTimer, align := e.align, sup := e.sup }

section
variable (hs : l.state = .training)
include hs

/-- A TRAINING link changes in place, its measures kept. -/
theorem Link.follows_training {k : Link} (hk : k.state = .training) (hf : k.far = l.far) (hr : k.reason = l.reason)
    (hsc : k.sup.score = l.sup.score) (hm : l.SameMeasures k) (ht : l.TrainingFields → k.TrainingFields) :
    Link.Follows q h max l k :=
  .inPlace (hk.trans hs.symm) hf hr hsc hm fun ho =>
    (Link.ok_iff_trainingFields hk).mpr (ht ((Link.ok_iff_trainingFields hs).mp ho))

/-- R95, R118: the collection of DESKEW changes. -/
theorem Link.follows_deskew (c : Collection) :
    Link.Follows q h max l { l with training := { l.training with deskew := c } } :=
  Link.follows_training hs hs rfl rfl rfl ⟨rfl, .inr rfl, .inr rfl, rfl, rfl⟩ fun f => { f with }

/-- R113: the grades of a list dwell. -/
theorem Link.follows_grades (v : Vector (Vector (Option Nat) 4) 8) :
    Link.Follows q h max l { l with training := { l.training with grades := v } } :=
  Link.follows_training hs hs rfl rfl rfl ⟨rfl, .inr rfl, .inr rfl, rfl, rfl⟩ fun f => { f with }

/-- R115: the results of DESKEW, with which ALIGN begins. -/
theorem Link.follows_deskewed (hst : l.training.stage = some .deskew) (n : Nat) (L : List (Nat × Nat)) :
    Link.Follows q h max l (l.deskewed n (alignment L)) := by
  refine ⟨fun ho => ?_, fun c => ⟨c, rfl⟩, fun _ _ r => ?_⟩
  · have f := (Link.ok_iff_trainingFields hs).mp ho
    have hd : ¬ l.training.dwell.isSome = true := fun c => by rw [f.dwell.mp c] at hst; cases hst
    refine (Link.ok_iff_trainingFields (by exact hs)).mpr
      { f with stage := rfl, dwell := iff_of_false hd (by simp [Link.deskewed]), dwellTimer := f.dwellTimer,
               agree := fun c => absurd rfl c, align := ?_ }
    exact ⟨f.align.recheckState, f.align.recheck, f.align.recheckTimer⟩
  · obtain ⟨h1, h2, h3, h4, h5, h6, -, -⟩ := r
    exact ⟨h1, h2, h3, h4, h5, h6, fun r => (alignment_inRange L).1 r, (alignment_inRange L).2⟩

/-- The attempt count of a TRAINING link is below the maximum. -/
theorem Link.InRange.attempts_lt (r : l.InRange q h max) : l.attempts < max := by
  obtain ⟨-, -, ha, hmax, -⟩ := r
  refine lt_of_le_of_ne ha fun c => ?_
  have := (hmax c).1
  simp [hs] at this

/-- R119: a counted failure below the maximum. -/
theorem Link.follows_failure_verified (now : Uptime) (cause : Reason) (hlt : l.attempts + 1 < max) :
    Link.Follows q h max l { l.leave now with
      attempts := l.attempts + 1, training := { (l.leave now).training with lastFailure := some cause },
      state := .verified } := by
  obtain ⟨⟨-, hact, hprop, hskew, hspread⟩, hf, hsc, -⟩ := l.leave_measures now
  refine ⟨fun ho => ?_, fun _ => ⟨by simp [hs, LinkState.holding], hf⟩, fun _ _ r => ?_⟩
  · have hi := Link.idle_failure ho now (l.attempts + 1) cause
    exact Link.Idle.verified_ok (hi.of_fields rfl rfl rfl rfl hi.training hi.agree rfl rfl) rfl
  · have r0 : Link.InRange q h max { l with attempts := l.attempts + 1 } :=
      ⟨r.1, r.2.1, hlt.le, fun c => absurd c (by exact hlt.ne), r.2.2.2.2⟩
    exact r0.move ⟨rfl, hact, hprop, hskew, hspread⟩ hsc (by simp) (by simp [hs])

/-- R119: a counted failure at the maximum. -/
theorem Link.follows_failure_blocked (now : Uptime) (cause : Reason) :
    Link.Follows q h max l { l.leave now with
      attempts := l.attempts + 1, training := { (l.leave now).training with lastFailure := some cause },
      state := .blocked, reason := some .trainFailed, grant := false } := by
  obtain ⟨⟨-, hact, hprop, hskew, hspread⟩, hf, hsc, -⟩ := l.leave_measures now
  refine ⟨fun ho => ?_, fun c => by simp [LinkState.holding] at c, fun _ _ r => ?_⟩
  · have hi := Link.idle_failure ho now (l.attempts + 1) cause
    exact hi.blocked_ok rfl rfl rfl rfl rfl rfl hi.training hi.agree rfl rfl
  · have hlt := r.attempts_lt hs
    obtain ⟨-, h2, -, -, h5, h6, h7, h8⟩ := r
    refine ⟨fun c => by simp at c, (by rw [hsc]; exact h2), hlt, fun _ => ⟨rfl, rfl⟩, ?_, ?_, hskew ▸ h7, hspread ▸ h8⟩
    · rcases hact with e | e <;> simp only [e]
      · rfl
      · exact h5
    · rcases hprop with e | e <;> simp only [e]
      · rfl
      · exact h6

/-- R117: the record of a link that enters UP, its level set and its regroup fields free. -/
theorem Link.toUp_ok (ho : l.ok = true) (hact : l.agree.active.isSome = true) (t : Option Timer) (score : Nat)
    (level : HealthLevel) :
    ({ l.toUp t with sup := { (l.toUp t).sup with score := score, level := some level } } : Link).ok = true := by
  have f := (Link.ok_iff_trainingFields hs).mp ho
  refine (Link.ok_iff_upFields rfl).mpr ?_
  obtain ⟨c1, c2, c3, c4, c5, c6, c7⟩ := f.sup
  exact ⟨f.reason, f.checkEntry, f.quiet, l.training.ended_idle, hact, by simp [Link.toUp, f.regroupStart, f.regroupTimer],
    fun _ => f.align.recheck, rfl, c2, c4, c3, c5, c6⟩
end

theorem Link.toUp_inRange (h1 : 1 ≤ max) (r : l.InRange q h max) (t : Option Timer) : (l.toUp t).InRange q h max := by
  obtain ⟨-, h2, -, -, h5⟩ := r
  exact ⟨fun c => by simp [Link.toUp] at c, h2, Nat.zero_le _, fun c => absurd c (by simp [Link.toUp]; omega), h5⟩

/-- R110: the record of a VERIFIED link that enters TRAINING. -/
theorem Link.toTraining_inRange (hs : l.state = .verified) (r : l.InRange q h max) (t : Option Timer) :
    (l.toTraining t).InRange q h max := by
  obtain ⟨-, h2, h3, h4, -⟩ := r
  refine ⟨fun c => by simp [Link.toTraining] at c, h2, h3, fun c => ?_, rfl, rfl, fun r => ?_, rfl⟩
  · have := (h4 c).1
    simp [hs] at this
  · simp [Link.toTraining, skewAt, laneAt]

/-- The observations of a verdict taken in place. -/
theorem Link.passed_ok (ho : l.ok = true) (hs : l.state ≠ .blocked) (s : State) (p : Port) (o : Obs) :
    (s.passed p h o l).ok = true := by
  obtain ⟨hc, ht, ha, hal, hsup⟩ := (Link.ok_iff l).mp ho
  obtain ⟨-, -, hc3⟩ := hc
  refine (Link.ok_iff _).mpr ⟨⟨?_, fun c => absurd c hs, hc3⟩, ht, ha, hal, hsup⟩
  simpa [State.passed] using hs

end Sys2Proof.Machine

/-! SUPPORT. The change of link state read back: its position, lanes and notice queue; and notices, events and
folds over ports and positions. -/

namespace Sys2Proof.Machine

open Sys2Proof

/-! ### Folds and events -/

theorem State.forPositions_induction {P : State → Prop} {s : State} {f : State → Port → Half → State} (hs : P s)
    (hf : ∀ t p h, P t → P (f t p h)) : P (s.forPositions f) :=
  List.foldlRecOn allPositions _ hs fun t ht x _ => hf t x.1 x.2 ht

theorem State.forPorts_induction {P : State → Prop} {s : State} {f : State → Port → State} (hs : P s)
    (hf : ∀ t p, P t → P (f t p)) : P (s.forPorts f) :=
  List.foldlRecOn allPorts _ hs fun t ht p _ => hf t p ht

theorem mem_allPorts (p : Port) : p ∈ allPorts := List.mem_finRange p

theorem nodup_allPorts : allPorts.Nodup := List.nodup_finRange 16

theorem State.withLink_of_link {s : State} {p : Port} {h : Half} {l : Link} (hl : s.link p h = some l) (f : Link → State) :
    s.withLink p h f = f l := by unfold State.withLink; rw [hl]

theorem State.withLink_of_none {s : State} {p : Port} {h : Half} (hl : s.link p h = none) (f : Link → State) :
    s.withLink p h f = s := by unfold State.withLink; rw [hl]

/-! ### The lanes, the queue and the position after a change of link state -/

/-- A lane of traffic and delay released. -/
def LaneUnit.released (x : LaneUnit) : LaneUnit := { x with active := false, delay := 0 }

theorem PortUnit.lane_releaseLanes (q : PortUnit) (h : Half) (i : Lane) :
    (q.releaseLanes h).lane i = if q.ofHalf h i then (q.lane i).released else q.lane i := q.lane_mapHalf h _ i

theorem State.lane_modPos (s : State) (p p' : Port) (h : Half) (f : Position → Position) (i : Lane) :
    ((s.modPos p h f).port p').lane i = (s.port p').lane i := by
  simp only [State.modPos, State.port_modPort]
  split
  · next hp => subst hp; exact PortUnit.lane_setPos _ _ i
  · rfl

theorem State.lane_log (s : State) (p p' : Port) (c : Change) (r : Reason) (i : Lane) :
    ((s.log p c r).port p').lane i = (s.port p').lane i := by
  simp only [State.log, State.port_modPort]
  split
  · next hp => subst hp; exact PortUnit.lane_append _ _ i
  · rfl

section
variable (s : State) (p : Port) (h : Half) (old new : Option Link) (down hist : Reason)

theorem State.queue_storeMove : (s.storeMove p h old new down hist).queue = s.queue ∧
    (s.storeMove p h old new down hist).overrun = s.overrun := by
  unfold State.storeMove
  dsimp only
  (repeat' split) <;> simp

theorem State.queue_releasePosition (t : State) (a : Port) (b : Half) :
    (t.releasePosition a b).queue = t.queue ∧ (t.releasePosition a b).overrun = t.overrun := by
  unfold State.releasePosition State.withLink
  split
  · dsimp only
    split
    · exact t.queue_storeMove ..
    · exact ⟨rfl, rfl⟩
  · exact ⟨rfl, rfl⟩

/-- A change of link state files no notice. -/
theorem State.queue_moveLink : (s.moveLink p h old new down hist).queue = s.queue ∧
    (s.moveLink p h old new down hist).overrun = s.overrun := by
  unfold State.moveLink
  dsimp only
  split
  · refine State.forPositions_induction (P := fun t => t.queue = s.queue ∧ t.overrun = s.overrun)
      (s.queue_storeMove ..) fun t a b ht => ?_
    split
    · exact ht
    · obtain ⟨h1, h2⟩ := t.queue_releasePosition a b
      exact ⟨h1.trans ht.1, h2.trans ht.2⟩
  · exact s.queue_storeMove ..

/-- R151: what a change of link state leaves of the position. -/
theorem State.pos_moveLink : (s.moveLink p h old new down hist).pos p h =
    { s.pos p h with link := new, snap := (s.pos p h).snap.after (s.snapOf p h old new down) } := by
  have k := (s.storeMove_spec p h old new down hist).1 p h
  simp only [and_self, if_true] at k
  unfold State.moveLink
  dsimp only
  split
  · rw [State.pos_releaseDuplicates, if_pos ⟨rfl, rfl⟩, k]
  · exact k

theorem State.lane_storeMove (p' : Port) (i : Lane) : ((s.storeMove p h old new down hist).port p').lane i =
    if p = p' ∧ leavesUp old new = true ∧ (s.port p').ofHalf h i = true then ((s.port p').lane i).released
    else (s.port p').lane i := by
  have hcap : ∀ r, ((s.capture p h r).port p').lane i = (s.port p').lane i := fun r => s.lane_modPos p p' h _ i
  have hcapOf : ∀ r, ((s.capture p h r).port p').ofHalf h i = (s.port p').ofHalf h i := fun r =>
    PortUnit.ofHalf_of_bare (State.bare_port (s.bare_capture p h r) p') h i
  have hrel : ∀ t : State, (t.port p').lane i = (s.port p').lane i → (t.port p').ofHalf h i = (s.port p').ofHalf h i →
      ((t.modPort p fun q => q.releaseLanes h).port p').lane i =
        if p = p' ∧ (s.port p').ofHalf h i = true then ((s.port p').lane i).released else (s.port p').lane i := by
    intro t h1 h2
    simp only [State.port_modPort]
    by_cases hp : p = p'
    · subst hp
      simp [PortUnit.lane_releaseLanes, h1, h2]
    · simp [hp, h1]
  have hset : ∀ t : State, ((t.setLink p h new).port p').lane i = (t.port p').lane i := fun t => t.lane_modPos p p' h _ i
  unfold State.storeMove
  dsimp only
  cases hl : leavesUp old new
  · cases s.snapOf p h old new down <;> cases changesHistory old new <;> simp [State.lane_log, hset, hcap]
  · cases s.snapOf p h old new down <;> cases changesHistory old new <;>
      simp [State.lane_log, hset, hrel, hcap, hcapOf]

/-- R132 (2): the lanes of a link that leaves UP are released. -/
theorem State.lane_moveLink (p' : Port) (i : Lane) : ((s.moveLink p h old new down hist).port p').lane i =
    if p = p' ∧ leavesUp old new = true ∧ (s.port p').ofHalf h i = true then ((s.port p').lane i).released
    else (s.port p').lane i := by
  rw [← s.lane_storeMove p h old new down hist]
  unfold State.moveLink
  dsimp only
  split
  · refine State.forPositions_induction (P := fun t => (t.port p').lane i = _) rfl fun t a b ht => ?_
    split
    · exact ht
    · refine Eq.trans ?_ ht
      unfold State.releasePosition State.withLink
      split
      · next l hl =>
        dsimp only
        split
        · next hc => rw [State.lane_storeMove, if_neg]; simp [leavesUp, hc.1]
        · rfl
      · rfl
  · rfl
end

/-! ### A change of link state as a change of the port -/

theorem State.modPort_modPort (s : State) (p : Port) (f g : PortUnit → PortUnit) :
    (s.modPort p f).modPort p g = s.modPort p fun q => g (f q) := by
  simp [State.modPort, State.setPort, State.port]

theorem PortUnit.setPos_setPos (q : PortUnit) (h : Half) (x y : Position) : (q.setPos h x).setPos h y = q.setPos h y := by
  cases h <;> rfl

theorem State.modPos_modPos (s : State) (p : Port) (h : Half) (f g : Position → Position) :
    (s.modPos p h f).modPos p h g = s.modPos p h fun x => g (f x) := by
  simp only [State.modPos, State.modPort_modPort, PortUnit.pos_setPos_self, PortUnit.setPos_setPos]

@[simp] theorem PortUnit.pos_releaseLanes (q : PortUnit) (h h' : Half) : (q.releaseLanes h).pos h' = q.pos h' :=
  q.pos_mapHalf h _ h'

theorem PortUnit.releaseLanes_setPos (q : PortUnit) (h k : Half) (x : Position) :
    (q.setPos k x).releaseLanes h = (q.releaseLanes h).setPos k x := by
  cases k <;> rfl

/-- The port after a change of link state, before its history entry. -/
def PortUnit.moved (q : PortUnit) (h : Half) (old new : Option Link) (cap : Option SnapRecord) : PortUnit :=
  let r := if leavesUp old new then q.releaseLanes h else q
  r.setPos h { q.pos h with link := new, snap := (q.pos h).snap.after cap }

/-- A change of link state as one change of the port. -/
theorem State.storeMove_eq_modPort (s : State) (p : Port) (h : Half) (old new : Option Link) (down hist : Reason) :
    s.storeMove p h old new down hist = s.modPort p fun q =>
      let r := q.moved h old new (s.snapOf p h old new down)
      if changesHistory old new then
        r.append ⟨s.uptime, .link h (old.map fun l => l.state) (new.map fun l => l.state), hist⟩ else r := by
  unfold State.storeMove State.log PortUnit.moved
  cases s.snapOf p h old new down <;> cases leavesUp old new <;> cases changesHistory old new <;>
    simp only [State.capture, State.setLink, State.modPos, State.modPort_modPort, Bool.false_eq_true, if_true, if_false,
      PortUnit.pos_setPos_self, PortUnit.setPos_setPos, State.modPort_uptime, Snapshot.after,
      PortUnit.pos_releaseLanes, PortUnit.releaseLanes_setPos]

theorem PortUnit.span_setPos (q : PortUnit) (h k : Half) (x : Position) : (q.setPos h x).span k = q.span k := by
  cases h <;> rfl

theorem PortUnit.usable_setPos (q : PortUnit) (h k : Half) (x : Position) (l : Link) :
    (q.setPos h x).usable k l = q.usable k l := by
  cases h <;> rfl

/-- R152: a snapshot record is drawn from the time, the usable set and the notice loss. -/
theorem State.snapOf_congr {s t : State} {p : Port} {h : Half} (hu : (t.port p).usable h = (s.port p).usable h)
    (hn : t.noticeLoss = s.noticeLoss) (ht : t.uptime = s.uptime) (old new : Option Link) (down : Reason) :
    t.snapOf p h old new down = s.snapOf p h old new down := by
  unfold State.snapOf
  dsimp only
  rw [hu, hn, ht]

theorem State.snapOf_modPos (s : State) (p : Port) (h : Half) (f : Position → Position) (old new : Option Link)
    (down : Reason) : (s.modPos p h f).snapOf p h old new down = s.snapOf p h old new down :=
  State.snapOf_congr (t := s.modPos p h f) (s := s)
    (funext fun l => by rw [State.modPos, State.port_modPort_self, PortUnit.usable_setPos]) rfl rfl old new down

/-- A change of link state replaces the link, whatever stood there. -/
theorem State.storeMove_setLink (s : State) (p : Port) (h : Half) (x old new : Option Link) (down hist : Reason) :
    (s.setLink p h x).storeMove p h old new down hist = s.storeMove p h old new down hist := by
  rw [State.storeMove_eq_modPort, State.storeMove_eq_modPort, State.setLink, State.snapOf_modPos]
  simp only [State.modPos, State.modPort_modPort, State.modPort_uptime]
  congr 1
  funext q
  have : (q.setPos h { q.pos h with link := x }).moved h old new (s.snapOf p h old new down) =
      q.moved h old new (s.snapOf p h old new down) := by
    unfold PortUnit.moved
    cases leavesUp old new <;>
      simp [PortUnit.pos_setPos_self, PortUnit.setPos_setPos, PortUnit.releaseLanes_setPos]
  rw [this]

theorem State.moveLink_setLink (s : State) (p : Port) (h : Half) (x old new : Option Link) (down hist : Reason) :
    (s.setLink p h x).moveLink p h old new down hist = s.moveLink p h old new down hist := by
  rw [State.moveLink, State.moveLink, State.storeMove_setLink]

end Sys2Proof.Machine

/-! SUPPORT and PROOF. What every operation of the Link Engine at a position keeps, for all the invariants at once:
`State.Moves` says that only the position is acted on, that notices and histories stay within their limits, that the
link takes no far identity another link holds, and that the position stays within its ranges; `State.Keeps` adds
that the link record stays in order. Both chain. -/

namespace Sys2Proof.Machine

open Sys2Proof

set_option Elab.async false

/-- A position of the part within its ranges, with the delays of its lanes. -/
def State.FitAt (s : State) (p : Port) (h : Half) : Prop :=
  (s.pos p h).inRange (s.port p) h s.timing.maxAttempts = true ∧
    ∀ i, (s.port p).ofHalf h i = true → ((s.port p).lane i).delay ≤ 63

/-- From `s` to `t` the position (`p`, `h`) is acted on: its link, if it has one, keeps one, which holds the far
identity it held or one that no other link of the part holds. -/
structure State.Moves (s t : State) (p : Port) (h : Half) : Prop where
  others : s.OthersKept t p h
  queue : s.QueueOk → t.QueueOk
  histories : s.HistoriesOk → t.HistoriesOk
  stays : (s.link p h).isSome = true → (t.link p h).isSome = true
  claim : t.claims p h = s.claims p h ∨ ∀ f, t.claims p h = some f → s.duplicate p h f = false
  range : 1 ≤ s.timing.maxAttempts → (s.port p).desc.all Descriptor.Ok = true → s.FitAt p h → t.FitAt p h

structure State.Keeps (s t : State) (p : Port) (h : Half) : Prop extends State.Moves s t p h where
  ok : linkOk (s.link p h) = true → linkOk (t.link p h) = true

/-! ### Chaining -/

theorem State.timing_of_bare {s t : State} (h : t.bare = s.bare) : t.timing = s.timing :=
  show t.bare.timing = s.bare.timing from congrArg State.timing h

theorem State.desc_of_bare {s t : State} (h : t.bare = s.bare) (p : Port) : (t.port p).desc = (s.port p).desc :=
  show (t.port p).bare.desc = (s.port p).bare.desc from congrArg PortUnit.desc (State.bare_port h p)

theorem PortUnit.span_of_desc {q r : PortUnit} (hd : q.desc = r.desc) (h : Half) : q.span h = r.span h := by
  unfold PortUnit.span; rw [hd]

/-- A link released by R72 holds no far identity before or after. -/
theorem Position.Kept.claims {now : Uptime} {x y : Position} (hk : x.Kept now y) (f : FarId) :
    (match y.link with
     | some l => l.state.holding && l.far == some f
     | none => false) =
    (match x.link with
     | some l => l.state.holding && l.far == some f
     | none => false) := by
  rcases hk with rfl | ⟨l, hl, hs, -, rfl⟩
  · rfl
  · simp [hl, hs, Link.toChecking, LinkState.holding]

theorem State.duplicate_of_others {s t : State} {p : Port} {h : Half} (ho : s.OthersKept t p h) (f : FarId) :
    t.duplicate p h f = s.duplicate p h f := by
  unfold State.duplicate
  congr 1
  funext x
  by_cases hx : x = (p, h)
  · subst hx; simp
  · have hn : ¬ (x.1 = p ∧ x.2 = h) := fun c => hx (Prod.ext c.1 c.2)
    exact congrArg (fun b => ((x.1, x.2) != (p, h)) && b) ((ho.positions x.1 x.2 hn).claims f)

section
variable {s t u : State} {p : Port} {h : Half}

theorem State.Moves.refl (s : State) (p : Port) (h : Half) : s.Moves s p h :=
  ⟨.refl s p h, id, id, id, .inl rfl, fun _ _ => id⟩

theorem State.Moves.trans (h1 : s.Moves t p h) (h2 : t.Moves u p h) : s.Moves u p h where
  others := h1.others.trans h2.others
  queue := h2.queue ∘ h1.queue
  histories := h2.histories ∘ h1.histories
  stays := h2.stays ∘ h1.stays
  claim := by
    rcases h2.claim with e | e
    · rw [e]; exact h1.claim
    · exact .inr fun f hf => (State.duplicate_of_others h1.others f).symm.trans (e f hf)
  range := fun hm hd hf => h2.range (State.timing_of_bare h1.others.bare ▸ hm)
    (State.desc_of_bare h1.others.bare p ▸ hd) (h1.range hm hd hf)

theorem State.Keeps.refl (s : State) (p : Port) (h : Half) : s.Keeps s p h := ⟨.refl s p h, id⟩

theorem State.Keeps.trans (h1 : s.Keeps t p h) (h2 : t.Keeps u p h) : s.Keeps u p h :=
  ⟨h1.toMoves.trans h2.toMoves, h2.ok ∘ h1.ok⟩
end

/-! ### Primitive updates -/

theorem PortUnit.foldl_append_ok (E : List HistEntry) {q : PortUnit} (hq : q.HistoryOk) :
    (E.foldl PortUnit.append q).HistoryOk :=
  List.foldlRecOn (motive := fun q : PortUnit => q.HistoryOk) E PortUnit.append hq fun _ h e _ => PortUnit.append_bounds e h

/-- R154: histories that only get entries stay in order. -/
theorem State.HistoriesOk.of_appended {s t : State} (hs : s.HistoriesOk) (ht : ∀ p, ∃ E, s.Appended t p E) :
    t.HistoriesOk := by
  intro p
  obtain ⟨E, hh, hw⟩ := ht p
  have := PortUnit.foldl_append_ok E (hs p)
  simpa only [PortUnit.HistoryOk, hh, hw] using this

section
variable (s : State) (p : Port) (h : Half)

theorem State.keeps_post (a : Option Port) (b : Option Half) (d : Detail) : s.Keeps (s.post a b d) p h where
  others := s.others_post p h a b d
  queue := fun hq => State.post_bounds a b d hq
  histories := fun hh p' => by simpa using hh p'
  stays := fun hl => by simpa using hl
  claim := .inl (by simp [State.claims])
  range := fun _ _ hf => by simpa [State.FitAt, State.pos] using hf
  ok := fun ho => by simpa using ho

theorem State.keeps_postLink (a : Port) (b : Half) (d : Detail) : s.Keeps (s.postLink a b d) p h := s.keeps_post p h _ _ _

/-- A change of the lanes of a half that keeps their delays in range. -/
theorem State.keeps_mapHalf {f : PortUnit → Nat → LaneUnit → LaneUnit} (hb : ∀ q r x, (f q r x).bare = x.bare)
    (hd : s.FitAt p h → ∀ r x, x.delay ≤ 63 → (f (s.port p) r x).delay ≤ 63) :
    s.Keeps (s.modPort p fun q => q.mapHalf h (f q)) p h := by
  have hl : (s.modPort p fun q => q.mapHalf h (f q)).link p h = s.link p h :=
    State.link_modPort s p p _ h fun q k => by rw [PortUnit.pos_mapHalf]
  have ho := s.others_mapHalf p h hb
  refine ⟨⟨ho, id, fun hh => hh.of_appended fun p' => ⟨[], ?_⟩, fun c => hl ▸ c, .inl ?_, fun _ _ hf => ?_⟩, fun c => hl ▸ c⟩
  · simp only [State.Appended, State.port_modPort, List.foldl_nil]
    split
    · next hp => subst hp; exact ⟨rfl, rfl⟩
    · exact ⟨rfl, rfl⟩
  · simp only [State.claims, hl]
  · refine ⟨?_, fun i hi => ?_⟩
    · have := hf.1
      simpa [State.pos, Position.inRange, Link.InRange, PortUnit.span_of_desc
        (q := (s.port p).mapHalf h (f (s.port p))) (r := s.port p) rfl] using this
    · have hi' : (s.port p).ofHalf h i = true := by
        rw [← hi]; exact (PortUnit.ofHalf_of_bare (State.bare_port ho.bare p) h i).symm
      rw [State.port_modPort_self, PortUnit.lane_mapHalf, if_pos hi']
      exact hd hf _ _ (hf.2 i hi')
end

/-! ### The link of the position -/

theorem PortUnit.setPos_pos (q : PortUnit) (h : Half) : q.setPos h (q.pos h) = q := by cases h <;> rfl

theorem State.setPort_port (s : State) (p : Port) : s.setPort p (s.port p) = s := by
  simp [State.setPort, State.port]

/-- A change of a position that leaves it as it is changes nothing. -/
theorem State.modPos_eq_self {s : State} {p : Port} {h : Half} {f : Position → Position}
    (hf : f (s.pos p h) = s.pos p h) : s.modPos p h f = s := by
  have : (s.port p).setPos h (f ((s.port p).pos h)) = s.port p :=
    (congrArg ((s.port p).setPos h) hf).trans ((s.port p).setPos_pos h)
  simp only [State.modPos, State.modPort, this, State.setPort_port]

theorem Link.inRange_congr {q r : PortUnit} (hd : q.desc = r.desc) {h : Half} {max : Nat} {l : Link} :
    l.InRange q h max ↔ l.InRange r h max := by
  simp only [Link.InRange, PortUnit.span_of_desc hd]

theorem Position.inRange_iff (x : Position) (q : PortUnit) (h : Half) (max : Nat) : x.inRange q h max = true ↔
    (∀ l, x.link = some l → l.InRange q h max) ∧ ∀ r, x.residue = some r → 1 ≤ r ∧ r ≤ 127 := by
  simp only [Position.inRange, Bool.and_eq_true, Option.all_eq_true, decide_eq_true_eq, Bool.and_eq_true]

section
variable {s t : State} {p : Port} {h : Half}

/-- R71: what the link at a position may hold after a change of it. -/
theorem State.claim_of_links (hk : ∀ k, t.link p h = some k → k.state.holding = true →
      (∃ l, s.link p h = some l ∧ l.state.holding = true ∧ k.far = l.far) ∨
        ∀ f, k.far = some f → s.duplicate p h f = false) :
    t.claims p h = s.claims p h ∨ ∀ f, t.claims p h = some f → s.duplicate p h f = false := by
  cases hl : t.link p h with
  | none => exact .inr fun f hf => by simp [State.claims, hl] at hf
  | some k =>
    by_cases hh : k.state.holding = true
    · rcases hk k hl hh with ⟨l, hs, hlh, hf⟩ | hn
      · exact .inl (by simp [State.claims, hl, hs, hh, hlh, hf])
      · exact .inr fun f hf => hn f (by simpa [State.claims, hl, hh] using hf)
    · exact .inr fun f hf => by simp [State.claims, hl, hh] at hf

/-- A position stays within its ranges where its link, its residue and its delays do. -/
theorem State.fitAt_of_links (hb : t.bare = s.bare) (hf : s.FitAt p h)
    (hl : ∀ k, t.link p h = some k → k.InRange (s.port p) h s.timing.maxAttempts)
    (hr : ∀ r, (t.pos p h).residue = some r → (s.pos p h).residue = some r ∨ (1 ≤ r ∧ r ≤ 127))
    (hd : ∀ i, (s.port p).ofHalf h i = true → ((t.port p).lane i).delay ≤ ((s.port p).lane i).delay) : t.FitAt p h := by
  obtain ⟨h1, h2⟩ := hf
  obtain ⟨-, h1⟩ := (Position.inRange_iff ..).mp h1
  refine ⟨(Position.inRange_iff ..).mpr ⟨fun k hk => ?_, fun r hres => (hr r hres).elim (h1 r) id⟩, fun i hi => ?_⟩
  · rw [State.timing_of_bare hb]
    exact (Link.inRange_congr (State.desc_of_bare hb p).symm).mp (hl k hk)
  · rw [PortUnit.ofHalf_of_bare (State.bare_port hb p)] at hi
    exact (hd i hi).trans (h2 i hi)

theorem State.FitAt.link (hf : s.FitAt p h) {l : Link} (hl : s.link p h = some l) :
    l.InRange (s.port p) h s.timing.maxAttempts := ((Position.inRange_iff ..).mp hf.1).1 l hl

/-- What a new link of the position may hold: what the old one held, or what no other link of the part holds. -/
def State.MayHold (s : State) (p : Port) (h : Half) (k : Link) : Prop :=
  (∃ l, s.link p h = some l ∧ l.state.holding = true ∧ k.far = l.far) ∨ ∀ f, k.far = some f → s.duplicate p h f = false

/-- The link at a position is replaced, less the order of its record. -/
theorem State.moves_setTo (s : State) (p : Port) (h : Half) {k : Link} (hc : k.state.holding = true → s.MayHold p h k)
    (hr : 1 ≤ s.timing.maxAttempts → (s.port p).desc.all Descriptor.Ok = true → s.FitAt p h →
      k.InRange (s.port p) h s.timing.maxAttempts) :
    s.Moves (s.setLink p h (some k)) p h where
  others := s.others_setLink p h _
  queue := id
  histories := fun hh => hh.of_appended fun p' => ⟨[], s.appended_modPos p p' h _⟩
  stays := fun _ => by simp
  claim := State.claim_of_links fun k' hk' hh => by
    obtain rfl : k = k' := by simpa using hk'
    exact hc hh
  range := fun hm hd hf => State.fitAt_of_links (s.bare_setLink p h _) hf
    (fun k' hk' => by
      obtain rfl : k = k' := by simpa using hk'
      exact hr hm hd hf)
    (fun r hres => .inl (by simpa [State.setLink, State.pos_modPos] using hres))
    (fun i _ => by rw [State.setLink, State.lane_modPos])

theorem State.moves_setLink {l k : Link} (hl : s.link p h = some l)
    (hc : k.state.holding = true → l.state.holding = true ∧ k.far = l.far)
    (hr : 1 ≤ s.timing.maxAttempts → (s.port p).desc.all Descriptor.Ok = true →
      l.InRange (s.port p) h s.timing.maxAttempts → k.InRange (s.port p) h s.timing.maxAttempts) :
    s.Moves (s.setLink p h (some k)) p h :=
  s.moves_setTo p h (fun c => .inl ⟨l, hl, hc c⟩) fun hm hd hf => hr hm hd (hf.link hl)

theorem State.keeps_setLink {l k : Link} (hl : s.link p h = some l)
    (hk : Link.Follows (s.port p) h s.timing.maxAttempts l k) : s.Keeps (s.setLink p h (some k)) p h :=
  ⟨State.moves_setLink hl hk.claim hk.range, fun ho => by
    rw [hl] at ho
    simpa [linkOk] using hk.ok ho⟩

theorem State.keeps_modLink {f : Link → Link}
    (hk : ∀ l, s.link p h = some l → Link.Follows (s.port p) h s.timing.maxAttempts l (f l)) :
    s.Keeps (s.modLink p h f) p h := by
  cases hl : s.link p h with
  | none =>
    have : s.modLink p h f = s := State.modPos_eq_self (by
      have hn : (s.pos p h).link = none := hl
      rw [hn]
      exact congrArg (fun l => ({ s.pos p h with link := l } : Position)) hn.symm)
    rw [this]; exact .refl s p h
  | some l =>
    rw [State.modLink_eq_setLink hl]
    exact State.keeps_setLink hl (hk l hl)

/-- R154: a change of link state only appends to the histories. -/
theorem State.appended_moveLink (s : State) (p : Port) (h : Half) (old new : Option Link) (down hist : Reason) (p' : Port) :
    ∃ E, s.Appended (s.moveLink p h old new down hist) p' E := by
  have k := (s.storeMove_spec p h old new down hist).2 p'
  unfold State.moveLink
  dsimp only
  split
  · exact ⟨_, k.trans (State.appended_releaseDuplicates _ p p' h)⟩
  · exact ⟨_, k⟩

/-- After what moves the position its link moves, less the order of its record; its range is that of the beginning. -/
theorem State.Moves.moveTo (m : s.Moves t p h) (old : Option Link) {k : Link} (down hist : Reason)
    (hc : k.state.holding = true → t.MayHold p h k)
    (hr : 1 ≤ s.timing.maxAttempts → (s.port p).desc.all Descriptor.Ok = true → s.FitAt p h →
      k.InRange (s.port p) h s.timing.maxAttempts) :
    s.Moves (t.moveLink p h old (some k) down hist) p h := by
  have hclaim : (t.moveLink p h old (some k) down hist).claims p h = t.claims p h ∨
      ∀ f, (t.moveLink p h old (some k) down hist).claims p h = some f → t.duplicate p h f = false :=
    State.claim_of_links fun k' hk' hh => by
      obtain rfl : k = k' := by simpa [State.link_moveLink] using hk'
      exact hc hh
  refine ⟨m.others.trans (t.others_moveLink p h ..), fun hq => ?_,
    fun hh => (m.histories hh).of_appended fun p' => t.appended_moveLink p h old (some k) down hist p',
    fun _ => by rw [State.link_moveLink]; rfl, ?_, fun hm hd hf => ?_⟩
  · obtain ⟨h1, h2⟩ := t.queue_moveLink p h old (some k) down hist
    rw [State.QueueOk, h1, h2]
    exact m.queue hq
  · rcases hclaim with e | e
    · rw [e]; exact m.claim
    · exact .inr fun f hf => (State.duplicate_of_others m.others f).symm.trans (e f hf)
  · refine State.fitAt_of_links (t.others_moveLink p h ..).bare (m.range hm hd hf) (fun k' hk' => ?_)
      (fun r hres => .inl (by simpa [State.pos_moveLink] using hres)) fun i _ => ?_
    · obtain rfl : k = k' := by simpa [State.link_moveLink] using hk'
      rw [State.timing_of_bare m.others.bare]
      exact (Link.inRange_congr (State.desc_of_bare m.others.bare p).symm).mp (hr hm hd hf)
    · rw [State.lane_moveLink]
      split
      · exact Nat.zero_le _
      · exact le_rfl

/-- The link at a position moves, less the order of its record. -/
theorem State.moves_moveTo (s : State) (p : Port) (h : Half) (old : Option Link) {k : Link} (down hist : Reason)
    (hc : k.state.holding = true → s.MayHold p h k)
    (hr : 1 ≤ s.timing.maxAttempts → (s.port p).desc.all Descriptor.Ok = true → s.FitAt p h →
      k.InRange (s.port p) h s.timing.maxAttempts) :
    s.Moves (s.moveLink p h old (some k) down hist) p h := (State.Moves.refl s p h).moveTo old down hist hc hr

theorem State.moves_moveLink {l k : Link} (hl : s.link p h = some l) (down hist : Reason)
    (hc : k.state.holding = true → l.state.holding = true ∧ k.far = l.far)
    (hr : 1 ≤ s.timing.maxAttempts → (s.port p).desc.all Descriptor.Ok = true →
      l.InRange (s.port p) h s.timing.maxAttempts → k.InRange (s.port p) h s.timing.maxAttempts) :
    s.Moves (s.moveLink p h (some l) (some k) down hist) p h :=
  s.moves_moveTo p h _ down hist (fun c => .inl ⟨l, hl, hc c⟩) fun hm hd hf => hr hm hd (hf.link hl)

theorem State.keeps_moveLink {l k : Link} (hl : s.link p h = some l) (down hist : Reason)
    (hk : Link.Follows (s.port p) h s.timing.maxAttempts l k) :
    s.Keeps (s.moveLink p h (some l) (some k) down hist) p h :=
  ⟨State.moves_moveLink hl down hist hk.claim hk.range, fun ho => by
    rw [hl] at ho
    rw [State.link_moveLink]
    exact hk.ok ho⟩
end

end Sys2Proof.Machine

/-! SUPPORT and PROOF. Training keeps the invariants: from the counted failure to the start test (R109 to R122). -/

namespace Sys2Proof.Machine

open Sys2Proof

/-! ### Reading back after a change of lanes -/

section
variable (s : State) (p p' : Port) (h h' : Half)

@[simp] theorem State.link_applyGroup (a : LaneSet) (v : Vector (Option Nat) 8) :
    (s.modPort p fun q => q.applyGroup h a v).link p' h' = s.link p' h' :=
  State.link_modPort s p p' _ h' fun _ _ => by rw [PortUnit.applyGroup, PortUnit.pos_mapHalf]

@[simp] theorem State.link_clearBest : (s.modPort p fun q => q.clearBest h).link p' h' = s.link p' h' :=
  State.link_modPort s p p' _ h' fun _ _ => by rw [PortUnit.clearBest, PortUnit.pos_mapHalf]

@[simp] theorem State.link_choosePresets (S : LaneSet) (f : Nat → Nat) :
    (s.modPort p fun q => q.choosePresets h S f).link p' h' = s.link p' h' :=
  State.link_modPort s p p' _ h' fun _ _ => by rw [PortUnit.choosePresets, PortUnit.pos_mapHalf]

@[simp] theorem State.link_takeGrades (S : LaneSet) : (s.modPort p fun q => q.takeGrades h S).link p' h' = s.link p' h' :=
  State.link_modPort s p p' _ h' fun _ _ => by rw [PortUnit.takeGrades, PortUnit.pos_mapHalf]

@[simp] theorem State.link_takeBest (t : Training) : (s.modPort p fun q => q.takeBest h t).link p' h' = s.link p' h' :=
  State.link_modPort s p p' _ h' fun _ _ => by rw [PortUnit.takeBest, PortUnit.pos_mapHalf]

@[simp] theorem State.link_storeContext (far : Option FarId) (g : Group) :
    (s.storeContext p h far g).link p' h' = s.link p' h' := by
  unfold State.storeContext
  split
  · rw [State.link_modPos]
    split
    · next hc => obtain ⟨rfl, rfl⟩ := hc; rfl
    · rfl
  · rfl
end

section
variable {s : State} {p : Port} {h : Half} {l : Link}

theorem State.keeps_withLink {f : Link → State} (hf : ∀ l, s.link p h = some l → s.Keeps (f l) p h) :
    s.Keeps (s.withLink p h f) p h := by
  cases hl : s.link p h with
  | none => rw [State.withLink_of_none hl]; exact .refl s p h
  | some l => rw [State.withLink_of_link hl]; exact hf l hl

/-- What is done within an event keeps what it keeps outside one. -/
theorem State.keeps_inEvent {f : State → State} (ho : ∀ t, State.OthersKept t (f t) p h)
    (hf : State.Keeps s.event (f s.event) p h) : s.Keeps (s.inEvent f) p h where
  others := s.others_inEvent p h ho
  queue := hf.queue
  histories := hf.histories
  stays := hf.stays
  claim := hf.claim
  range := hf.range
  ok := hf.ok

/-- A change of what a position keeps beside its link: a context, or a residue that goes. -/
theorem State.keeps_position {f : Position → Position} (hl : (f (s.pos p h)).link = (s.pos p h).link)
    (hr : (f (s.pos p h)).residue = (s.pos p h).residue ∨ (f (s.pos p h)).residue = none) :
    s.Keeps (s.modPos p h f) p h := by
  have hlink : (s.modPos p h f).link p h = s.link p h := by rw [State.link_modPos, if_pos ⟨rfl, rfl⟩, hl]; rfl
  refine ⟨⟨s.others_modPos p h f, id, fun hh => hh.of_appended fun p' => ⟨[], s.appended_modPos p p' h _⟩,
    fun c => hlink ▸ c, .inl (by simp only [State.claims, hlink]), fun _ _ hf => ?_⟩, fun c => hlink ▸ c⟩
  refine State.fitAt_of_links (s.bare_modPos p h f) hf (fun k hk => hf.link (hlink ▸ hk)) (fun r hres => ?_)
    fun i _ => by rw [State.lane_modPos]
  rw [State.pos_modPos, if_pos ⟨rfl, rfl⟩] at hres
  rcases hr with e | e
  · exact .inl (e ▸ hres)
  · rw [e] at hres; cases hres

/-- R132: a link goes down. -/
theorem State.keeps_linkDown {k : Link} (hl : s.link p h = some l) (hk : Link.Follows (s.port p) h s.timing.maxAttempts l k)
    (reason hist : Reason) : s.Keeps (s.linkDown p h l k reason hist) p h :=
  (State.keeps_moveLink hl reason hist hk).trans (State.keeps_postLink _ p h _ _ _)

theorem State.keeps_enterChecking (hl : s.link p h = some l)
    (hb : ¬ (l.state = .blocked ∧ l.reason = some .trainFailed)) (hist : Reason) :
    s.Keeps (s.enterChecking p h l hist) p h :=
  State.keeps_moveLink hl hist hist (Link.follows_toChecking _ hb)

/-! ### Entry to UP (R117) -/

theorem State.keeps_updateRegroup (hl : s.link p h = some l) (hs : l.state = .up) : s.Keeps (s.updateRegroup p h) p h :=
  State.keeps_modLink fun l' hl' => by
    obtain rfl : l = l' := Option.some.inj (hl.symm.trans hl')
    exact Link.follows_regroup hs _ _ _

theorem State.keeps_setScore (hl : s.link p h = some l) (hs : l.state = .up) {n : Nat}
    (hn : l.InRange (s.port p) h s.timing.maxAttempts → n ≤ 255) : s.Keeps (s.setScore p h n) p h := by
  rw [State.setScore, State.withLink_of_link hl]
  have hk : s.Keeps (s.modLink p h fun k =>
      { k with sup := { k.sup with score := n, level := some (levelOf s.timing.warning n) } }) p h :=
    State.keeps_modLink fun l' hl' => by
      obtain rfl : l = l' := Option.some.inj (hl.symm.trans hl')
      exact Link.follows_score hs hn _
  dsimp only
  split
  · exact hk.trans (State.keeps_postLink _ p h _ _ _)
  · exact hk

/-- The score of an UP link is set with its level, and nothing else of the record. -/
theorem State.link_setScore (hl : s.link p h = some l) (n : Nat) : (s.setScore p h n).link p h =
    some { l with sup := { l.sup with score := n, level := some (levelOf s.timing.warning n) } } := by
  rw [State.setScore, State.withLink_of_link hl]
  dsimp only
  split <;> simp [hl]

theorem State.keeps_enterUp (hl : s.link p h = some l) (hs : l.state = .training) : s.Keeps (s.enterUp p h) p h := by
  rw [State.enterUp, State.withLink_of_link hl]
  dsimp only
  split
  · exact .refl s p h
  · next g hg =>
    have k1 : s.Moves (s.modPort p fun q => q.applyGroup h g.lanes l.align.skew) p h :=
      (State.keeps_mapHalf s p h (f := fun _ r x =>
        { x with active := LaneSet.has g.lanes r, delay := deskewDelay l.align.skew g.lanes r }) (fun _ _ _ => rfl) fun hf r x _ => deskewDelay_le (hf.link hl).2.2.2.2.2.2.1 _ r).toMoves
    generalize hs1 : (s.modPort p fun q => q.applyGroup h g.lanes l.align.skew) = s1 at k1
    have l1 : s1.link p h = some l := by rw [← hs1, State.link_applyGroup, hl]
    have k2 : s1.Moves (s1.storeContext p h l.far g) p h := by
      unfold State.storeContext
      split
      · exact (State.keeps_position rfl (.inl rfl)).toMoves
      · exact .refl s1 p h
    generalize hs2 : s1.storeContext p h l.far g = s2 at k2
    have l2 : s2.link p h = some l := by rw [← hs2, State.link_storeContext, l1]
    have k3 : s2.Moves (s2.moveLink p h (some l) (some (l.toUp s.recheckTimer)) .trained .trained) p h :=
      State.moves_moveLink l2 _ _ (fun _ => ⟨by simp [hs, LinkState.holding], rfl⟩) fun h1 _ r =>
        Link.toUp_inRange h1 r _
    generalize hs3 : (s2.moveLink p h (some l) (some (l.toUp s.recheckTimer)) .trained .trained).postLink p h
      (.linkUp g l.map) = s4
    have k4 : s2.Moves s4 p h := hs3 ▸ k3.trans (State.keeps_postLink _ p h _ _ _).toMoves
    have l4 : s4.link p h = some (l.toUp s.recheckTimer) := by
      rw [← hs3, State.link_postLink, State.link_moveLink]
    have k5 : s4.Keeps (s4.setScore p h l.sup.score) p h := State.keeps_setScore l4 rfl fun r => r.2.1
    have l5 := State.link_setScore l4 l.sup.score
    have k6 := State.keeps_updateRegroup l5 rfl
    refine ⟨(k1.trans (k2.trans (k4.trans k5.toMoves))).trans k6.toMoves, fun ho => k6.ok ?_⟩
    rw [l5]
    rw [hl] at ho
    exact Link.toUp_ok hs ho (by rw [hg]; rfl) _ _ _

theorem State.keeps_alignTest (hl : s.link p h = some l) (hs : l.state = .training) : s.Keeps (s.alignTest p h) p h := by
  rw [State.alignTest, State.withLink_of_link hl]
  split
  · exact State.keeps_enterUp hl hs
  · exact .refl s p h
end

/-! ### From ALIGN back to EQUALIZE -/

/-- A run of the protocol changes the agreement fields alone. -/
theorem PortUnit.runProtocol_agree {q : PortUnit} {h : Half} {l k : Link} (hk : q.runProtocol h l = some k) :
    k = { l with agree := k.agree } := by
  unfold PortUnit.runProtocol at hk
  split at hk
  · cases hk
  · split at hk <;> obtain rfl := Option.some.inj hk
    · unfold Link.juniorSteps
      split
      · rfl
      · split <;> rfl
    · rfl
    · rfl

theorem PortUnit.runProtocol_state {q : PortUnit} {h : Half} {l k : Link} (hk : q.runProtocol h l = some k) :
    k.state = l.state := by rw [PortUnit.runProtocol_agree hk]

section
variable {restart : Restart} {s : State} {p : Port} {h : Half} {l : Link}
variable (hr : ∀ t : State, t.Keeps (restart t p h) p h)
include hr

theorem State.keeps_countFailure (hl : s.link p h = some l) (hs : l.state = .training) (cause : Reason) :
    s.Keeps (s.countFailure restart p h cause) p h := by
  rw [State.countFailure, State.withLink_of_link hl]
  dsimp only
  split
  · next hlt =>
    exact ((State.keeps_moveLink hl _ _ (Link.follows_failure_verified hs _ _ hlt)).trans
      (State.keeps_postLink _ p h _ _ _)).trans (hr _)
  · exact (State.keeps_moveLink hl _ _ (Link.follows_failure_blocked hs _ _)).trans (State.keeps_postLink _ p h _ _ _)

theorem State.keeps_alignRun (hl : s.link p h = some l) (hs : l.state = .training)
    (hst : l.training.stage = some .align) : s.Keeps (s.alignRun restart p h) p h := by
  rw [State.alignRun, State.withLink_of_link hl]
  split
  · exact State.keeps_countFailure hr hl hs _
  · next k hk =>
    have hks : k.state = .training := (PortUnit.runProtocol_state hk).trans hs
    exact (State.keeps_setLink hl (Link.follows_runProtocol (.inr ⟨hs, hst⟩) hk)).trans
      (State.keeps_alignTest (State.link_setLink_self ..) hks)

theorem State.keeps_endDeskew (hl : s.link p h = some l) (hs : l.state = .training)
    (hst : l.training.stage = some .deskew) : s.Keeps (s.endDeskew restart p h) p h := by
  rw [State.endDeskew, State.withLink_of_link hl]
  exact (State.keeps_setLink hl (Link.follows_deskewed hs hst _ _)).trans
    (State.keeps_alignRun hr (State.link_setLink_self ..) hs rfl)

theorem State.keeps_deskewTest (hl : s.link p h = some l) (hs : l.state = .training) :
    s.Keeps (s.deskewTest restart p h) p h := by
  rw [State.deskewTest, State.withLink_of_link hl]
  split
  · next hc => exact State.keeps_endDeskew hr hl hs hc.1
  · exact .refl s p h

theorem State.keeps_deskewDrop (hl : s.link p h = some l) (hs : l.state = .training) :
    s.Keeps (s.deskewDrop restart p h) p h := by
  rw [State.deskewDrop, State.modLink_eq_setLink hl]
  exact (State.keeps_setLink hl (Link.follows_deskew hs _)).trans (State.keeps_deskewTest hr (State.link_setLink_self ..) hs)
end

end Sys2Proof.Machine

/-! SUPPORT and PROOF. EQUALIZE and the start test keep the invariants (R109 to R115). The record of a link that begins
EQUALIZE has no dwell yet, so the order of the record is shown of the dwell that follows. -/

namespace Sys2Proof.Machine

open Sys2Proof

section
variable {s : State} {p : Port} {h : Half} {l : Link}

/-- A TRAINING link takes other training fields and marks in place, less the order of its record. -/
theorem State.moves_setTraining (hl : s.link p h = some l) (m : Marks) (t : Training) :
    s.Moves (s.setLink p h (some { l with marks := m, training := t })) p h :=
  State.moves_setLink hl (fun c => ⟨c, rfl⟩) fun _ _ r => r.same ⟨rfl, .inr rfl, .inr rfl, rfl, rfl⟩ rfl rfl rfl

/-- From `s` to `t` a link in EQUALIZE is moved on: to a record in order. -/
structure State.Equalizes (s t : State) (p : Port) (h : Half) (l : Link) : Prop where
  moves : s.Moves t p h
  ok : l.Equalizing → linkOk (t.link p h) = true

theorem State.Equalizes.keeps {t : State} (k : s.Equalizes t p h l) (hl : s.link p h = some l) (hs : l.state = .training)
    (hst : l.ok = true → l.training.stage = some .equalize) : s.Keeps t p h :=
  ⟨k.moves, fun ho => by
    rw [hl] at ho
    exact k.ok (Link.equalizing_of_ok ho hs (hst ho))⟩

/-- A dwell in progress shows a link in EQUALIZE. -/
theorem Link.stage_of_dwell (ho : l.ok = true) (hs : l.state = .training) (hd : l.training.dwell.isSome = true) :
    l.training.stage = some .equalize := ((Link.ok_iff_trainingFields hs).mp ho).dwell.mp hd

/-- What comes before, with the lanes' presets and grades, of a link in EQUALIZE. -/
theorem State.Equalizes.after {t u : State} {k : Link} (h1 : s.Moves t p h) (he : l.Equalizing → k.Equalizing)
    (h2 : t.Equalizes u p h k) : s.Equalizes u p h l := ⟨h1.trans h2.moves, h2.ok ∘ he⟩

/-! ### Dwells -/

theorem State.keeps_choosePresets (s : State) (p : Port) (h : Half) (S : LaneSet) (f : Nat → Nat) :
    s.Keeps (s.modPort p fun q => q.choosePresets h S f) p h :=
  State.keeps_mapHalf s p h (f := fun _ r x => if LaneSet.has S r then { x with preset := f r } else x)
    (fun _ _ _ => by split <;> rfl) fun _ _ _ hx => by split <;> exact hx

theorem State.keeps_clearBest (s : State) (p : Port) (h : Half) : s.Keeps (s.modPort p fun q => q.clearBest h) p h :=
  State.keeps_mapHalf s p h (f := fun _ _ x => { x with best := none }) (fun _ _ _ => rfl) fun _ _ _ hx => hx

theorem State.equalizes_beginListDwell (hl : s.link p h = some l) (k : Nat) :
    s.Equalizes (s.beginListDwell p h k) p h l := by
  rw [State.beginListDwell, State.withLink_of_link hl]
  generalize ht : (s.modPort p fun q => q.choosePresets h l.training.attemptLanes fun _ => presetAt l.training.presets k) = t
  have h1 : s.Moves t p h := ht ▸ (State.keeps_choosePresets s p h _ _).toMoves
  have hlt : t.link p h = some l := by rw [← ht, State.link_choosePresets, hl]
  rw [State.modLink_eq_setLink hlt]
  exact ⟨h1.trans (State.moves_setTraining hlt l.marks _), fun e => by
    rw [State.link_setLink_self]; exact e.dwell_ok rfl rfl rfl rfl⟩

theorem State.equalizes_beginRetained (hl : s.link p h = some l) (c : Context) :
    s.Equalizes (s.beginRetained p h c) p h l := by
  rw [State.beginRetained, State.withLink_of_link hl]
  generalize ht : (s.modPort p fun q => q.choosePresets h l.training.attemptLanes fun r => (laneAt c.presets r).getD 0) = t
  have h1 : s.Moves t p h := ht ▸ (State.keeps_choosePresets s p h _ _).toMoves
  have hlt : t.link p h = some l := by rw [← ht, State.link_choosePresets, hl]
  rw [State.modLink_eq_setLink hlt]
  exact ⟨h1.trans (State.moves_setTraining hlt l.marks _), fun e => by
    rw [State.link_setLink_self]; exact e.dwell_ok rfl rfl rfl rfl⟩
end

section
variable {restart : Restart} {s : State} {p : Port} {h : Half} {l : Link}
variable (hr : ∀ t : State, t.Keeps (restart t p h) p h)
include hr

theorem State.equalizes_endEqualize (hl : s.link p h = some l) (hs : l.state = .training) :
    s.Equalizes (s.endEqualize restart p h) p h l := by
  rw [State.endEqualize, State.modLink_eq_setLink hl]
  have h1 : ∀ m t, s.Moves (s.setLink p h (some { l with marks := m, training := t })) p h := State.moves_setTraining hl
  refine ⟨(h1 _ _).trans (State.keeps_deskewTest hr (State.link_setLink_self ..) ?_).toMoves, fun e =>
    (State.keeps_deskewTest hr (State.link_setLink_self ..) ?_).ok ?_⟩
  · exact hs
  · exact hs
  · rw [State.link_setLink_self]
    exact e.deskew_ok _ rfl rfl rfl rfl

theorem State.equalizes_beginEqualize (hl : s.link p h = some l) (hs : l.state = .training) :
    s.Equalizes (s.beginEqualize restart p h) p h l := by
  rw [State.beginEqualize, State.withLink_of_link hl]
  dsimp only
  generalize ht : (s.modPort p fun q => q.clearBest h) = t
  have h1 : s.Moves t p h := ht ▸ (State.keeps_clearBest s p h).toMoves
  have hlt : t.link p h = some l := by rw [← ht, State.link_clearBest, hl]
  rw [State.modLink_eq_setLink hlt]
  have h2 := h1.trans (State.moves_setTraining hlt l.marks
    { l.training with attemptLanes := (s.port p).usable h l
                      presets := (s.port p).effectiveList ((s.port p).expectation h) })
  have he : l.Equalizing → Link.Equalizing { l with training := { l.training with
      attemptLanes := (s.port p).usable h l, presets := (s.port p).effectiveList ((s.port p).expectation h) } } :=
    fun e => { e with }
  split
  · exact .after h2 he (State.equalizes_endEqualize hr (State.link_setLink_self ..) hs)
  · split
    · exact .after h2 he (State.equalizes_beginRetained (State.link_setLink_self ..) _)
    · exact .after h2 he (State.equalizes_beginListDwell (State.link_setLink_self ..) _)

theorem State.keeps_endRetained (hl : s.link p h = some l) (hs : l.state = .training)
    (hd : l.training.dwell.isSome = true) : s.Keeps (s.endRetained restart p h) p h := by
  rw [State.endRetained, State.withLink_of_link hl]
  split
  · have h1 : s.Keeps (s.modPort p fun q => q.takeGrades h l.training.attemptLanes) p h :=
      State.keeps_mapHalf s p h (f := fun _ r x =>
        if LaneSet.has l.training.attemptLanes r then { x with best := x.heard.map fun k => k.grade } else x)
        (fun _ _ _ => by split <;> rfl) fun _ _ _ hx => by split <;> exact hx
    exact (State.Equalizes.after h1.toMoves id (State.equalizes_endEqualize hr (by rw [State.link_takeGrades, hl]) hs)).keeps
      hl hs fun ho => Link.stage_of_dwell ho hs hd
  · exact (State.Equalizes.after (State.keeps_clearBest s p h).toMoves id
      (State.equalizes_beginListDwell (by rw [State.link_clearBest, hl]) 1)).keeps hl hs fun ho => Link.stage_of_dwell ho hs hd

theorem State.keeps_endListDwell (hl : s.link p h = some l) (hs : l.state = .training)
    (hd : l.training.dwell.isSome = true) (k : Nat) : s.Keeps (s.endListDwell restart p h k) p h := by
  rw [State.endListDwell, State.withLink_of_link hl]
  dsimp only
  rw [State.modLink_eq_setLink hl]
  have h1 := State.moves_setTraining hl l.marks { l.training with grades := (s.port p).recordGrades h l k }
  have he : l.Equalizing →
      Link.Equalizing { l with training := { l.training with grades := (s.port p).recordGrades h l k } } := fun e => { e with }
  split
  · exact (State.Equalizes.after h1 he (State.equalizes_beginListDwell (State.link_setLink_self ..) _)).keeps hl hs
      fun ho => Link.stage_of_dwell ho hs hd
  · rw [State.withLink_of_link (State.link_setLink_self ..)]
    generalize hv : s.setLink p h _ = u at h1 ⊢
    have hlu : u.link p h = some { l with training := { l.training with grades := (s.port p).recordGrades h l k } } := by
      rw [← hv, State.link_setLink_self]
    have h2 : u.Keeps (u.modPort p fun q => q.takeBest h
        { l.training with grades := (s.port p).recordGrades h l k }) p h :=
      State.keeps_mapHalf u p h (f := fun _ r x =>
        if LaneSet.has l.training.attemptLanes r then
          match bestOf (laneAt ((s.port p).recordGrades h l k) r) l.training.presets with
          | some b => { x with best := some b.1, preset := b.2 }
          | none => { x with best := none, preset := presetAt l.training.presets 1 }
        else x) (fun _ _ _ => by split <;> [split <;> rfl; rfl]) fun _ _ _ hx => by split <;> [split <;> exact hx; exact hx]
    exact (State.Equalizes.after (h1.trans h2.toMoves) he
      (State.equalizes_endEqualize hr (by rw [State.link_takeBest, hlu]) hs)).keeps hl hs fun ho => Link.stage_of_dwell ho hs hd
end

/-! ### The start of an attempt -/

section
variable {s : State} {p : Port} {h : Half} {l : Link}

theorem State.keeps_enterTraining (hl : s.link p h = some l) (hs : l.state = .verified) :
    s.Keeps (s.enterTraining p h l) p h := by
  unfold State.enterTraining
  have h1 : s.Moves (s.moveLink p h (some l) (some (l.toTraining (s.timer s.timing.timeout))) .start .start) p h :=
    State.moves_moveLink hl _ _ (fun _ => ⟨by simp [hs, LinkState.holding], rfl⟩) fun _ _ r => Link.toTraining_inRange hs r _
  have h2 := State.equalizes_beginEqualize (restart := fun t _ _ => t) (fun t => .refl t p h)
    (State.link_moveLink s p h (some l) (some (l.toTraining (s.timer s.timing.timeout))) .start .start) rfl
  refine ⟨h1.trans h2.moves, fun ho => h2.ok ?_⟩
  rw [hl] at ho
  exact Link.equalizing_toTraining ho hs rfl

theorem State.keeps_startTest (s : State) (p : Port) (h : Half) : s.Keeps (s.startTest p h) p h :=
  State.keeps_withLink fun l hl => by
    split
    · next hc => exact State.keeps_enterTraining hl hc.1
    · exact .refl s p h

theorem State.keeps_restartByTest (t : State) (p : Port) (h : Half) : t.Keeps (restartByTest t p h) p h :=
  t.keeps_startTest p h
end

end Sys2Proof.Machine

/-! SUPPORT and PROOF. The protocol while UP, the recheck and the verdict keep the invariants (R63 to R70, R90 to R105,
R129, R132). -/

namespace Sys2Proof.Machine

open Sys2Proof

set_option Elab.async false

/-! ### The protocol while UP (R90, R129) -/

section
variable {s : State} {p : Port} {h : Half} {l : Link}

theorem State.keeps_loseLanes (hl : s.link p h = some l) (hs : l.state = .up) (reason : Reason) :
    s.Keeps (s.loseLanes p h reason) p h := by
  rw [State.loseLanes, State.withLink_of_link hl]
  exact State.keeps_linkDown hl (Link.follows_toChecking _ (by simp [hs])) _ _

/-- The delays of a group are in range where the skews are. -/
theorem State.keeps_applyGroup (s : State) (p : Port) (h : Half) (a : LaneSet) {v : Vector (Option Nat) 8}
    (hv : s.FitAt p h → ∀ r : Fin 8, skewAt v r ≤ 63) : s.Keeps (s.modPort p fun q => q.applyGroup h a v) p h :=
  State.keeps_mapHalf s p h (f := fun _ r x => { x with active := LaneSet.has a r, delay := deskewDelay v a r })
    (fun _ _ _ => rfl) fun hf r _ _ => deskewDelay_le (hv hf) a r

theorem State.keeps_adoptUp (hl : s.link p h = some l) {k : Link} (hk : Link.Follows (s.port p) h s.timing.maxAttempts l k)
    (hs : k.state = .up) (old new : Group) : s.Keeps (s.adoptUp p h k old new) p h := by
  unfold State.adoptUp
  have h1 := State.keeps_setLink hl (hk.trans (Link.follows_shedTo hs old new))
  refine (h1.trans (State.keeps_applyGroup _ p h _ fun hf r => ?_)).trans (State.keeps_postLink _ p h _ _ _)
  exact (hf.link (State.link_setLink_self s p h (some (k.shedTo old new)))).2.2.2.2.2.2.1 r

/-- The link record after the protocol has run at an UP link without narrowing, before the regroup fields. -/
def Link.regrouped (l k : Link) : Link :=
  match l.agree.active, k.agree.active with
  | some old, some new => if old = new then k else k.shedTo old new
  | _, _ => k

/-- One run of the protocol at an UP link that is not narrow, before the regroup fields. -/
def State.regroup (s : State) (p : Port) (h : Half) (l k : Link) : State :=
  match l.agree.active, k.agree.active with
  | some old, some new => if old = new then s.setLink p h (some k) else s.adoptUp p h k old new
  | _, _ => s.setLink p h (some k)

theorem State.link_regroup (s : State) (p : Port) (h : Half) (l k : Link) :
    (s.regroup p h l k).link p h = some (l.regrouped k) := by
  unfold State.regroup Link.regrouped
  split
  · split
    · simp
    · simp [State.adoptUp]
  · simp

theorem Link.regrouped_state (l k : Link) : (l.regrouped k).state = k.state := by
  unfold Link.regrouped
  split
  · split <;> rfl
  · rfl

/-- A run of the protocol at an UP link: down where it is narrow, else its group and its regroup fields. -/
theorem State.upRun_of_link (hl : s.link p h = some l) (reason : Reason) : s.upRun p h reason =
    match (s.port p).runProtocol h l with
    | none => s.loseLanes p h reason
    | some k => (s.regroup p h l k).updateRegroup p h := by
  rw [State.upRun, State.withLink_of_link hl]; rfl

theorem State.keeps_upRun (hl : s.link p h = some l) (hs : l.state = .up) (reason : Reason) :
    s.Keeps (s.upRun p h reason) p h := by
  rw [State.upRun_of_link hl]
  split
  · exact State.keeps_loseLanes hl hs reason
  · next k hk =>
    have hks : k.state = .up := (PortUnit.runProtocol_state hk).trans hs
    have hf := Link.follows_runProtocol (max := s.timing.maxAttempts) (.inl hs) hk
    refine State.Keeps.trans ?_ (State.keeps_updateRegroup (s.link_regroup p h l k) ((l.regrouped_state k).trans hks))
    unfold State.regroup
    split
    · split
      · exact State.keeps_setLink hl hf
      · exact State.keeps_adoptUp hl hf hks _ _
    · exact State.keeps_setLink hl hf

theorem State.keeps_recheckTest (s : State) (p : Port) (h : Half) : s.Keeps (s.recheckTest p h) p h :=
  State.keeps_withLink fun l hl => by
    split
    · next hc =>
      have h1 := State.keeps_setLink hl (Link.follows_rechecked hc.1 s.uptime l.align.recheck.stamped)
      dsimp only
      split
      · exact h1.trans (State.keeps_applyGroup _ p h _ fun _ r => (alignment_inRange _).1 r)
      · exact h1.trans (State.keeps_upRun (State.link_setLink_self s p h (some (l.rechecked s.uptime _))) hc.1 _)
    · exact .refl s p h

theorem State.keeps_upProtocol (hl : s.link p h = some l) (hs : l.state = .up) : s.Keeps (s.upProtocol p h) p h :=
  State.keeps_inEvent (fun t => (t.others_upRun p h _).trans ((t.upRun p h _).others_recheckTest p h))
    ((State.keeps_upRun (s := s.event) hl hs _).trans (State.keeps_recheckTest _ p h))

theorem State.keeps_beginRecheck (hl : s.link p h = some l) (hs : l.state = .up) : s.Keeps (s.beginRecheck p h) p h :=
  (State.keeps_modLink fun l' hl' => by
    obtain rfl : l = l' := Option.some.inj (hl.symm.trans hl')
    exact Link.follows_recheck hs _).trans (State.keeps_recheckTest _ p h)
end

/-! ### The verdict (R66 to R70) -/

/-- R95 to R125: a link whose measures are in range, whatever its state, and whose training has not ended in
TRAIN_FAILED. -/
structure Link.Measured (q : PortUnit) (h : Half) (max : Nat) (l : Link) : Prop where
  score : l.sup.score ≤ 255
  attempts : l.attempts < max
  active : (l.agree.active.all fun g => (candidateGroups (q.span h)).contains g) = true
  proposal : (l.agree.proposal.all fun g => (candidateGroups (q.span h)).contains g) = true
  skew : ∀ r : Fin 8, skewAt l.align.skew r ≤ 63
  spread : (l.align.spread.all fun n => decide (n ≤ 1023)) = true

section
variable {q : PortUnit} {h : Half} {max : Nat} {l k : Link}

theorem Link.InRange.measured (r : l.InRange q h max) (hb : ¬ (l.state = .blocked ∧ l.reason = some .trainFailed)) :
    l.Measured q h max :=
  ⟨r.2.1, lt_of_le_of_ne r.2.2.1 fun c => hb (r.2.2.2.1 c), r.2.2.2.2.1, r.2.2.2.2.2.1, r.2.2.2.2.2.2.1, r.2.2.2.2.2.2.2⟩

/-- A link that takes a measured link's measures is in range in every state with its score. -/
theorem Link.Measured.inRange (m : l.Measured q h max) (hm : l.SameMeasures k) (hs : k.sup.score ≤ 255)
    (hi : k.state = .isolated → 1 ≤ k.sup.score ∧ k.sup.score ≤ 127) : k.InRange q h max := by
  obtain ⟨-, ha, hact, hprop, hsk, hsp⟩ := m
  have r : Link.InRange q h max { l with state := .verified, sup := { l.sup with score := 0 } } :=
    ⟨by simp, by simp, ha.le, fun c => absurd c ha.ne, hact, hprop, hsk, hsp⟩
  exact r.carry ⟨hm.attempts, hm.active, hm.proposal, hm.skew, hm.spread⟩ hs hi (by simp)

theorem Link.Measured.carry (m : l.Measured q h max) (hm : l.SameMeasures k) (hs : k.sup.score = l.sup.score) :
    k.Measured q h max := by
  refine ⟨hs ▸ m.score, hm.attempts ▸ m.attempts, ?_, ?_, hm.skew ▸ m.skew, hm.spread ▸ m.spread⟩
  · rcases hm.active with e | e <;> rw [e]
    · rfl
    · exact m.active
  · rcases hm.proposal with e | e <;> rw [e]
    · rfl
    · exact m.proposal

theorem Link.Measured.leave (m : l.Measured q h max) (now : Uptime) : (l.leave now).Measured q h max := by
  obtain ⟨hm, -, hs, -⟩ := l.leave_measures now
  exact m.carry hm hs
end

theorem not_and_rest_of_ite {c : Prop} [Decidable c] {r : Reason} {x : Option Reason} (h : (if c then some r else x) = none) :
    ¬ c ∧ x = none := by
  by_cases hc : c
  · rw [if_pos hc] at h; cases h
  · exact ⟨hc, (if_neg hc).symm.trans h⟩

/-- R71: a passing verdict observes a far identity that no other link of the part holds. -/
theorem State.checks_none {s : State} {p : Port} {h : Half} {o : Obs} {w : Option Nat} (hc : s.checks p h o w = none) :
    ∃ f, o.far = some f ∧ s.duplicate p h f = false := by
  unfold State.checks at hc
  obtain ⟨-, hc⟩ := not_and_rest_of_ite hc
  obtain ⟨-, hc⟩ := not_and_rest_of_ite hc
  cases hf : o.far with
  | none => rw [hf] at hc; cases hc
  | some f =>
    rw [hf] at hc
    obtain ⟨-, hc⟩ := not_and_rest_of_ite hc
    obtain ⟨-, hc⟩ := not_and_rest_of_ite hc
    cases he : (s.port p).expectation h with
    | none => rw [he] at hc; cases hc
    | some e =>
      rw [he] at hc
      obtain ⟨-, hc⟩ := not_and_rest_of_ite hc
      obtain ⟨-, hc⟩ := not_and_rest_of_ite hc
      obtain ⟨-, hc⟩ := not_and_rest_of_ite hc
      obtain ⟨-, hc⟩ := not_and_rest_of_ite hc
      obtain ⟨hd, -⟩ := not_and_rest_of_ite hc
      exact ⟨f, rfl, Bool.eq_false_iff.mpr hd⟩

section
variable {s : State} {p : Port} {h : Half} {old : Option Link} {l : Link}

theorem State.keeps_verdictContext (s : State) (p : Port) (h : Half) (o : Obs) : s.Keeps (s.verdictContext p h o) p h :=
  State.keeps_position (by split <;> [split <;> rfl; rfl]) (.inl (by split <;> [split <;> rfl; rfl]))

@[simp] theorem State.link_verdictContext (s : State) (p p' : Port) (h h' : Half) (o : Obs) :
    (s.verdictContext p h o).link p' h' = s.link p' h' := by
  rw [State.verdictContext, State.link_modPos]
  split
  · next hc =>
    obtain ⟨rfl, rfl⟩ := hc
    split <;> [split <;> rfl; rfl]
  · rfl

/-- R68: the record of a failing verdict is in order. -/
theorem Link.Idle.failed_ok (hi : l.Idle) (o : Obs) (r : Reason) : (l.failed o r).ok = true :=
  hi.blocked_ok rfl rfl rfl rfl rfl rfl hi.training
    ⟨hi.agree.proposal, hi.agree.accept, hi.agree.active, hi.agree.regroupStart, hi.agree.regroupTimer⟩ rfl rfl

theorem Link.Idle.passed (hi : l.Idle) (s : State) (p : Port) (h : Half) (o : Obs) : (s.passed p h o l).Idle :=
  hi.of_fields hi.reason.symm rfl rfl rfl hi.training
    ⟨hi.agree.proposal, hi.agree.accept, hi.agree.active, hi.agree.regroupStart, hi.agree.regroupTimer⟩ rfl rfl

theorem Link.idle_new : ({} : Link).Idle :=
  ⟨rfl, rfl, rfl, rfl, ⟨rfl, rfl, rfl, rfl, rfl, rfl, rfl, rfl⟩, ⟨rfl, rfl, rfl, rfl, rfl⟩, ⟨rfl, rfl, rfl⟩,
    ⟨rfl, rfl, rfl, rfl, rfl, rfl, rfl⟩⟩

/-- R68: a link fails a verdict. -/
theorem State.Keeps.failed {t : State} (m : s.Keeps t p h) (hi : linkOk (s.link p h) = true → l.Idle)
    (hm : 1 ≤ s.timing.maxAttempts → s.FitAt p h → l.Measured (s.port p) h s.timing.maxAttempts) (old : Option Link)
    (o : Obs) (r down hist : Reason) : s.Keeps (t.moveLink p h old (some (l.failed o r)) down hist) p h :=
  ⟨m.toMoves.moveTo old down hist (fun c => by simp [Link.failed, LinkState.holding] at c) fun h1 _ hf =>
      (hm h1 hf).inRange ⟨rfl, .inr rfl, .inr rfl, rfl, rfl⟩ (hm h1 hf).score (fun c => by simp [Link.failed] at c),
    fun ho => by rw [State.link_moveLink]; exact (hi ho).failed_ok o r⟩

/-- R67: a link passes a verdict and is VERIFIED. -/
theorem State.Keeps.verified {t : State} (m : s.Keeps t p h) (hi : linkOk (s.link p h) = true → l.Idle)
    (hm : 1 ≤ s.timing.maxAttempts → s.FitAt p h → l.Measured (s.port p) h s.timing.maxAttempts) (old : Option Link)
    {u : State} {o : Obs} {f : FarId} (hf : o.far = some f) (hd : s.duplicate p h f = false) (down hist : Reason) :
    s.Keeps (t.moveLink p h old (some { u.passed p h o l with state := .verified }) down hist) p h :=
  ⟨m.toMoves.moveTo old down hist (fun _ => .inr fun f' hf' => by
        obtain rfl : f = f' := Option.some.inj (hf.symm.trans hf')
        exact (State.duplicate_of_others m.others f).trans hd) fun h1 _ hf =>
      (hm h1 hf).inRange ⟨rfl, .inr rfl, .inr rfl, rfl, rfl⟩ (hm h1 hf).score (fun c => by simp at c),
    fun ho => by
      rw [State.link_moveLink]
      have hk := (hi ho).passed u p h o
      exact Link.Idle.verified_ok (hk.of_fields rfl rfl rfl rfl hk.training hk.agree rfl rfl) rfl⟩

/-- R67, R135: a link passes a verdict and takes a residue into ISOLATED. -/
theorem State.Keeps.residue {t : State} (m : s.Keeps t p h) (hi : linkOk (s.link p h) = true → l.Idle)
    (hm : 1 ≤ s.timing.maxAttempts → s.FitAt p h → l.Measured (s.port p) h s.timing.maxAttempts)
    (old : Option Link) {k : Link} (hk : l.SameMeasures k) (hki : l.Idle → k.Idle) (now : Uptime) (probes : LaneSet)
    (cause : Reason) {score : Nat} (hsc : (s.pos p h).residue = some score) (down hist : Reason) :
    s.Keeps (t.moveLink p h old (some (k.toIsolated now probes cause score)) down hist) p h := by
  refine ⟨m.toMoves.moveTo old down hist (fun c => by simp [Link.toIsolated, LinkState.holding] at c) fun h1 _ hf => ?_,
    fun ho => by rw [State.link_moveLink]; exact (hki (hi ho)).isolated_ok ..⟩
  obtain ⟨hlm, -⟩ := k.leave_measures now
  have hlm' := hk.trans hlm
  obtain ⟨s1, s2⟩ := ((Position.inRange_iff ..).mp hf.1).2 score hsc
  exact (hm h1 hf).inRange ⟨hlm'.attempts, hlm'.active, hlm'.proposal, hlm'.skew, hlm'.spread⟩ (s2.trans (by decide))
    fun _ => ⟨s1, s2⟩
end

end Sys2Proof.Machine

/-! SUPPORT and PROOF. The outcomes of a verdict, isolation, recovery, the score and the events of a link keep the
invariants (R67 to R77, R118, R126 to R138). -/

namespace Sys2Proof.Machine

open Sys2Proof

section
variable {s : State} {p : Port} {h : Half} {l : Link}

/-! ### Outcomes of a verdict -/

theorem State.keeps_giveVerdict (old : Option Link) (hi : linkOk (s.link p h) = true → l.Idle)
    (hm : 1 ≤ s.timing.maxAttempts → s.FitAt p h → l.Measured (s.port p) h s.timing.maxAttempts) (hist : Option Reason) :
    s.Keeps (s.giveVerdict p h old l hist) p h := by
  unfold State.giveVerdict
  dsimp only
  have hv := s.keeps_verdictContext p h ((s.port p).observe h)
  split
  · exact (hv.failed hi hm old _ _ _ _).trans (State.keeps_postLink _ p h _ _ _)
  · next hc =>
    obtain ⟨f, hf, hd⟩ := State.checks_none hc
    split
    · have k := (hv.verified (u := s) hi hm old hf hd .pass (hist.getD .pass)).trans
        (State.keeps_postLink _ p h p h (((s.port p).observe h).notice .verified none))
      split
      · exact k
      · exact k.trans (State.keeps_startTest _ p h)
    · next score hres =>
      have hr := hv.trans (State.keeps_position (f := fun x => { x with residue := none }) rfl (.inr rfl))
      unfold State.enterIsolated
      exact ((hr.residue (k := s.passed p h ((s.port p).observe h) l) hi hm old ⟨rfl, .inr rfl, .inr rfl, rfl, rfl⟩
        (fun c => c.passed ..) _ _ _ hres _ _).trans (State.keeps_postLink _ p h _ _ _)).trans
        (State.keeps_postLink _ p h _ _ _)

theorem State.keeps_createLink (s : State) (p : Port) (h : Half) : s.Keeps (s.createLink p h) p h :=
  State.keeps_giveVerdict none (fun _ => Link.idle_new) (fun h1 _ =>
    ⟨by simp, h1, rfl, rfl, fun r => by simp [skewAt, laneAt], rfl⟩) none

theorem State.linkOk_of_link (hl : s.link p h = some l) (ho : linkOk (s.link p h) = true) : l.ok = true := by
  rw [hl] at ho; exact ho

theorem State.keeps_endChecking (s : State) (p : Port) (h : Half) : s.Keeps (s.endChecking p h) p h :=
  State.keeps_withLink fun l hl => by
    split
    · next hc =>
      exact State.keeps_giveVerdict _ (fun ho => Link.idle_leave (State.linkOk_of_link hl ho) _)
        (fun _ hf => ((hf.link hl).measured (by simp [hc])).leave _) none
    · exact .refl s p h

theorem State.keeps_retag (s : State) (p : Port) (h : Half) : s.Keeps (s.retag p h) p h :=
  State.keeps_withLink fun l hl => by
    split
    · next hc =>
      exact State.keeps_giveVerdict _ (fun ho => Link.idle_leave (State.linkOk_of_link hl ho) _)
        (fun _ hf => ((hf.link hl).measured fun d => hc.2 d.2).leave _) none
    · exact .refl s p h

/-- R51: the observations of a passing verdict taken in place. -/
theorem State.keeps_passed (hl : s.link p h = some l) (hb : l.state ≠ .blocked) {t : State} (ht : s.Keeps t p h)
    (hlt : t.link p h = some l) {o : Obs} {f : FarId} (hf : o.far = some f) (hd : s.duplicate p h f = false) :
    s.Keeps (t.setLink p h (some (s.passed p h o l))) p h := by
  have hn : l.reason = none ∨ linkOk (s.link p h) = false := by
    cases ho : linkOk (s.link p h)
    · exact .inr rfl
    · exact .inl (((Link.ok_iff l).mp (State.linkOk_of_link hl ho)).1.absent.1 hb)
  have hm : t.Moves (t.setLink p h (some (s.passed p h o l))) p h :=
    t.moves_setTo p h (fun _ => .inr fun f' hf' => by
        obtain rfl : f = f' := Option.some.inj (hf.symm.trans hf')
        exact (State.duplicate_of_others ht.others f).trans hd) fun _ _ hf => by
      have r := hf.link hlt
      exact (r.measured fun c => hb c.1).inRange ⟨rfl, .inr rfl, .inr rfl, rfl, rfl⟩ r.2.1 r.1
  exact ⟨ht.toMoves.trans hm, fun ho => by
    rw [State.link_setLink_self]
    exact Link.passed_ok (State.linkOk_of_link hl ho) hb s p o⟩

theorem State.keeps_reevaluateHolder (hl : s.link p h = some l) (hh : l.state.holding = true) :
    s.Keeps (s.reevaluateHolder p h l) p h := by
  have hb : l.state ≠ .blocked := fun c => by simp [c, LinkState.holding] at hh
  unfold State.reevaluateHolder
  dsimp only
  have hv := s.keeps_verdictContext p h ((s.port p).observe h)
  split
  · next r _ =>
    have k := hv.failed (fun ho => Link.idle_leave (State.linkOk_of_link hl ho) s.uptime)
      (fun _ hf => ((hf.link hl).measured fun c => hb c.1).leave _) (some l) ((s.port p).observe h) r .planChange
      .planChange
    split
    · exact (k.trans (State.keeps_postLink _ p h _ _ _)).trans (State.keeps_postLink _ p h _ _ _)
    · exact k.trans (State.keeps_postLink _ p h _ _ _)
  · next hc =>
    obtain ⟨f, hf, hd⟩ := State.checks_none hc
    have k := (State.keeps_passed hl hb hv (by rw [State.link_verdictContext, hl]) hf hd).trans
      (State.keeps_postLink _ p h p h (((s.port p).observe h).notice l.state none))
    generalize hu : State.postLink _ p h _ = u at k ⊢
    have hlu : u.link p h = some (s.passed p h ((s.port p).observe h) l) := by
      rw [← hu, State.link_postLink, State.link_setLink_self]
    split
    · exact k.trans (State.keeps_startTest _ p h)
    · next hs => exact k.trans (State.keeps_upProtocol hlu hs)
    · next hs =>
      split
      · exact k.trans (State.keeps_deskewDrop (fun t => t.keeps_startTest p h) hlu hs)
      · next hst => exact k.trans (State.keeps_alignRun (fun t => t.keeps_startTest p h) hlu hs hst)
      · exact k
    · exact k

theorem State.keeps_reevaluate (s : State) (p : Port) (h : Half) : s.Keeps (s.reevaluate p h) p h :=
  State.keeps_withLink fun l hl => by
    cases hs : l.state <;> dsimp only
    case checking => exact .refl s p h
    case isolated => exact .refl s p h
    case blocked =>
      refine State.keeps_giveVerdict _ (fun ho => ?_) (fun h1 hf => ?_) _
      · have hi := Link.idle_leave (State.linkOk_of_link hl ho) s.uptime
        exact hi.of_fields rfl rfl rfl rfl hi.training hi.agree rfl rfl
      · have r := hf.link hl
        obtain ⟨⟨-, hact, hprop, hsk, hsp⟩, -, hsc, -⟩ := l.leave_measures s.uptime
        by_cases ht : l.reason = some .trainFailed
        · have m : Link.Measured (s.port p) h s.timing.maxAttempts { l with attempts := 0 } :=
            ⟨r.2.1, h1, r.2.2.2.2.1, r.2.2.2.2.2.1, r.2.2.2.2.2.2.1, r.2.2.2.2.2.2.2⟩
          exact m.carry ⟨by simp [ht], hact, hprop, hsk, hsp⟩ hsc
        · exact (r.measured fun c => ht c.2).carry ⟨by simp [ht], hact, hprop, hsk, hsp⟩ hsc
    all_goals exact State.keeps_reevaluateHolder hl (by simp [hs, LinkState.holding])

/-! ### Isolation and recovery -/

theorem State.keeps_isolateByHealth (hl : s.link p h = some l) (hs : l.state = .up) :
    s.Keeps (s.isolateByHealth p h) p h := by
  rw [State.isolateByHealth, State.withLink_of_link hl]
  dsimp only [State.enterIsolated]
  refine State.Keeps.trans (State.Keeps.trans ⟨s.moves_moveTo p h _ _ _ ?_ fun h1 hd hf => ?_, fun ho => ?_⟩
    (State.keeps_postLink _ p h _ _ _)) (State.keeps_postLink _ p h _ _ _)
  · exact fun c => by simp [Link.toIsolated, LinkState.holding] at c
  · have r := hf.link hl
    have r' : Link.InRange (s.port p) h s.timing.maxAttempts { l with sup := { l.sup with score := 255 } } :=
      r.carry ⟨rfl, .inr rfl, .inr rfl, rfl, rfl⟩ le_rfl (fun c => by simp [hs] at c) fun c => by simp [hs] at c
    exact (Link.follows_toIsolated s.uptime _ .health (score := 127) (by decide) (by decide) (by simp [hs])).range h1 hd r'
  · rw [State.link_moveLink]
    have f := (Link.ok_iff_upFields hs).mp (State.linkOk_of_link hl ho)
    exact Link.toIsolated_ok (l := { l with sup := { l.sup with score := 255 } })
      ((Link.ok_iff_upFields (by exact hs)).mpr { f with }) _ _ _ _

theorem State.keeps_isolateByHost (hl : s.link p h = some l) : s.Keeps (s.isolateByHost p h l) p h := by
  unfold State.isolateByHost
  dsimp only
  generalize (if l.state = .up then groupLanes l.agree.active ||| (s.port p).usable h l
    else (s.port p).confirmedSet h l.far) = probes
  have hlast : ∀ t : State, t.Keeps (if l.live then t.postLink p h (l.downNotice .hostIsolate) else t) p h := fun t => by
    split
    · exact State.keeps_postLink _ p h _ _ _
    · exact .refl t p h
  unfold State.enterIsolated
  refine State.Keeps.trans (State.Keeps.trans ?_ (hlast _)) (State.keeps_postLink _ p h _ _ _)
  split
  · next hc =>
    refine ⟨s.moves_moveTo p h _ _ _ (fun c => by simp [Link.toIsolated, LinkState.holding] at c) fun h1 hd hf => ?_,
      fun ho => ?_⟩
    · have r := hf.link hl
      have m : Link.Measured (s.port p) h s.timing.maxAttempts { l with attempts := 0 } :=
        ⟨r.2.1, h1, r.2.2.2.2.1, r.2.2.2.2.2.1, r.2.2.2.2.2.2.1, r.2.2.2.2.2.2.2⟩
      obtain ⟨⟨-, hact, hprop, hsk, hsp⟩, -⟩ := l.leave_measures s.uptime
      exact m.inRange ⟨rfl, hact, hprop, hsk, hsp⟩ (by simp [Link.toIsolated]) fun _ => by simp [Link.toIsolated]
    · rw [State.link_moveLink]
      exact (Link.ok_iff _).mpr ((Link.ok_iff _).mp (Link.toIsolated_ok (State.linkOk_of_link hl ho) s.uptime probes
        .hostIsolate 127))
  · next hc =>
    exact State.keeps_moveLink hl _ _ (Link.follows_toIsolated _ _ _ (by decide) (by decide) hc)

/-- R137: the verdict that ends a recovery, of a link `k` in the place of the ISOLATED link `l`: its score may have
reached 0. -/
theorem State.keeps_endRecovery (hl : s.link p h = some l) {k : Link} (ho : l.ok = true → k.ok = true)
    (hm : l.InRange (s.port p) h s.timing.maxAttempts → k.Measured (s.port p) h s.timing.maxAttempts) :
    s.Keeps ((s.setLink p h (some k)).endRecovery p h) p h := by
  rw [State.endRecovery, State.withLink_of_link (State.link_setLink_self ..)]
  dsimp only
  generalize hobs : ((s.setLink p h (some k)).port p).observe h = o
  have hv := s.keeps_verdictContext p h o
  have hcomm : (s.setLink p h (some k)).verdictContext p h o = (s.verdictContext p h o).setLink p h (some k) := by
    simp only [State.verdictContext, State.setLink, State.modPos_modPos]
    congr 1
    funext x
    split <;> [split <;> rfl; rfl]
  have hres : ((s.setLink p h (some k)).pos p h).residue = (s.pos p h).residue := by
    simp [State.setLink, State.pos_modPos]
  have hi : linkOk (s.link p h) = true → (k.leave s.uptime).Idle := fun c =>
    Link.idle_leave (ho (State.linkOk_of_link hl c)) _
  have hm' : 1 ≤ s.timing.maxAttempts → s.FitAt p h → (k.leave s.uptime).Measured (s.port p) h s.timing.maxAttempts :=
    fun _ hf => (hm (hf.link hl)).leave _
  rw [hcomm, hres]
  simp only [State.moveLink_setLink, State.setLink_uptime]
  split
  · exact (hv.failed hi hm' _ _ _ _ _).trans (State.keeps_postLink _ p h _ _ _)
  · next hc =>
    obtain ⟨f, hf, hd⟩ := State.checks_none hc
    rw [State.duplicate_of_others (s.others_setLink p h _)] at hd
    split
    · exact (((hv.verified hi hm' _ hf hd _ _).trans (State.keeps_postLink _ p h _ _ _)).trans
        (State.keeps_postLink _ p h _ _ _)).trans (State.keeps_startTest _ p h)
    · next score hsc =>
      have hset : ((s.verdictContext p h o).setLink p h (some k)).setResidue p h none =
          ((s.verdictContext p h o).setResidue p h none).setLink p h (some k) := by
        simp only [State.setResidue, State.setLink, State.modPos_modPos]
      have hr := hv.trans (State.keeps_position (f := fun x => { x with residue := none }) rfl (.inr rfl))
      unfold State.enterIsolated
      rw [hset]
      simp only [State.moveLink_setLink]
      exact ((hr.residue (k := (s.setLink p h (some k)).passed p h o (k.leave s.uptime)) hi hm' _
        ⟨rfl, .inr rfl, .inr rfl, rfl, rfl⟩ (fun c => c.passed ..) _ _ _ hsc _ _).trans (State.keeps_postLink _ p h _ _ _)).trans
        (State.keeps_postLink _ p h _ _ _)

theorem State.keeps_probe (hl : s.link p h = some l) (hs : l.state = .isolated) : s.Keeps (s.probe p h) p h := by
  rw [State.probe, State.withLink_of_link hl]
  dsimp only
  split
  · refine State.keeps_endRecovery hl (fun ho => Link.probed_ok ho hs _ _) fun r => ?_
    refine (r.measured (by simp [hs])).1.trans' ?_ |> fun hsc => ⟨hsc, r.measured (by simp [hs]) |>.attempts,
      r.2.2.2.2.1, r.2.2.2.2.2.1, r.2.2.2.2.2.2.1, r.2.2.2.2.2.2.2⟩
    simp only [Link.probed]
    split <;> omega
  · next hc =>
    refine State.keeps_setLink hl (Link.follows_probed hs _ _ fun c => ?_)
    simpa [c] using hc

/-! ### The score while UP -/

theorem State.keeps_scoreTo (hl : s.link p h = some l) (hs : l.state = .up) (n : Nat) : s.Keeps (s.scoreTo p h n) p h := by
  unfold State.scoreTo
  split
  · exact State.keeps_isolateByHealth hl hs
  · exact State.keeps_setScore hl hs fun _ => by omega

theorem State.keeps_judgeInterval (s : State) (p : Port) (h : Half) (v : Vector Nat 8) :
    s.Keeps (s.judgeInterval p h v) p h :=
  State.keeps_withLink fun l hl => by
    split
    · exact .refl s p h
    · next hs =>
      simp only [ne_eq, not_not] at hs
      split
      · rw [State.modLink_eq_setLink hl]
        exact State.keeps_setLink hl (Link.follows_judging hs)
      · dsimp only
        rw [State.modLink_eq_setLink hl]
        have k := State.keeps_setLink hl (Link.follows_violations (q := s.port p) (h := h) (max := s.timing.maxAttempts)
          (satAdd 4294967295 l.sup.violations (activeCounts h (groupLanes l.agree.active) v).sum))
        split
        · exact k.trans (State.keeps_scoreTo (State.link_setLink_self ..) (by exact hs) _)
        · exact k.trans (State.keeps_scoreTo (State.link_setLink_self ..) (by exact hs) _)
end

end Sys2Proof.Machine

/-! SUPPORT and PROOF. The events and requests of a link keep the invariants (R72 to R77, R108, R118, R128 to R139). -/

namespace Sys2Proof.Machine

open Sys2Proof

section
variable {s : State} {p : Port} {h : Half} {l : Link}

/-! ### Lock loss -/

theorem State.keeps_markLoss (hl : s.link p h = some l) (hs : l.state = .up) (now : Uptime) (r : Nat) :
    s.Keeps ((s.modLink p h fun k => (k.abandonRecheck now r).markLockLost r).upProtocol p h) p h := by
  have hst : (l.abandonRecheck now r).state = .up := (Link.abandonRecheck_state ..).trans hs
  rw [State.modLink_eq_setLink hl]
  exact (State.keeps_setLink hl ((Link.follows_abandonRecheck hs _ _).trans (Link.follows_markLockLost hst _))).trans
    (State.keeps_upProtocol (State.link_setLink_self ..) hst)

theorem State.keeps_lockLostAt (s : State) (p : Port) (h : Half) (r : Nat) : s.Keeps (s.lockLostAt p h r) p h := by
  unfold State.lockLostAt
  dsimp only
  refine State.Keeps.trans (State.keeps_modLink (f := fun l =>
    { l with sup := { l.sup with lockLosses := satAdd 65535 l.sup.lockLosses 1 } }) fun l _ => Link.follows_lockLosses _) ?_
  generalize s.modLink p h _ = t
  refine State.keeps_withLink fun l hl => ?_
  split
  · exact .refl t p h
  · next hs =>
    simp only [ne_eq, not_not] at hs
    split
    · exact State.keeps_isolateByHealth hl hs
    · next hn =>
      refine State.keeps_inEvent (fun u => ?_) ?_
      · split
        · exact (u.others_setScore p h _).trans ((State.others_modLink _ p h _).trans (State.others_upProtocol _ p h))
        · exact (State.others_modLink u p h _).trans (State.others_upProtocol _ p h)
      · have hle : t.event.link p h = some l := hl
        split
        · next ha =>
          have hn255 : ¬ 255 ≤ satAdd 255 l.sup.score 32 := by simpa [ha] using hn
          have k1 := State.keeps_setScore hle hs (n := satAdd 255 l.sup.score 32) fun _ => by omega
          have l1 := State.link_setScore hle (satAdd 255 l.sup.score 32)
          exact k1.trans (State.keeps_markLoss l1 (by exact hs) _ _)
        · exact State.keeps_markLoss hle hs _ _

/-! ### Lane change events -/

theorem State.keeps_farEndChange (hl : s.link p h = some l) (hlive : l.live = true) (new : LaneId) :
    s.Keeps (s.farEndChange p h l new) p h :=
  (State.keeps_linkDown hl (Link.follows_toChecking _ fun c => by simp [Link.live, c.1] at hlive) _ _).trans
    (State.keeps_postLink _ p h _ _ _)

theorem State.keeps_farEndLeft (hl : s.link p h = some l) (hlive : l.live = true) : s.Keeps (s.farEndLeft p h l) p h :=
  (State.keeps_linkDown hl (Link.follows_toVerified _ hlive) _ _).trans (State.keeps_startTest _ p h)

theorem State.keeps_trainingEvent (hl : s.link p h = some l) (hs : l.state = .training) (items : LaneItems) :
    s.Keeps (s.trainingEvent p h l items) p h := by
  unfold State.trainingEvent
  split
  · exact State.keeps_farEndLeft hl (by simp [Link.live, hs])
  · split
    · exact State.keeps_deskewDrop (fun t => t.keeps_restartByTest p h) hl hs
    · next hst =>
      split
      · exact State.keeps_alignRun (fun t => t.keeps_restartByTest p h) hl hs hst
      · split
        · exact State.keeps_alignTest hl hs
        · exact .refl s p h
    · exact .refl s p h

theorem State.keeps_upEvent (hl : s.link p h = some l) (hs : l.state = .up) (items : LaneItems) :
    s.Keeps (s.upEvent p h l items) p h := by
  unfold State.upEvent
  split
  · exact State.keeps_farEndLeft hl (by simp [Link.live, hs])
  · split
    · exact State.keeps_upProtocol hl hs
    · exact .refl s p h

theorem State.keeps_linkEvent (s : State) (p : Port) (h : Half) (r : Nat) (items : LaneItems) (newId : Option LaneId) :
    s.Keeps (s.linkEvent p h r items newId) p h :=
  State.keeps_withLink fun l hl => by
    cases hs : l.state <;> dsimp only
    case checking => exact State.keeps_setLink hl (Link.follows_restartQuiet _)
    case verified =>
      split
      · exact State.keeps_enterChecking hl (by simp [hs]) _
      · split
        · exact State.keeps_enterChecking hl (by simp [hs]) _
        · split
          · exact s.keeps_startTest p h
          · exact .refl s p h
    case blocked =>
      split
      · exact .refl s p h
      · next hr => exact State.keeps_enterChecking hl (fun c => hr c.2) _
    case training =>
      split
      · exact State.keeps_farEndChange hl (by simp [Link.live, hs]) _
      · exact State.keeps_trainingEvent hl hs items
    case up =>
      split
      · exact State.keeps_farEndChange hl (by simp [Link.live, hs]) _
      · exact State.keeps_upEvent hl hs items
    case isolated => exact State.keeps_setLink hl (Link.follows_noteProbeChange hs _ _)

theorem State.keeps_stampEvent (s : State) (p : Port) (h : Half) (r stamp : Nat) :
    s.Keeps (s.stampEvent p h r stamp) p h :=
  State.keeps_withLink fun l hl => by
    split
    · next hc =>
      rw [State.modLink_eq_setLink hl]
      exact (State.keeps_setLink hl (Link.follows_deskew hc.1 _)).trans
        (State.keeps_deskewTest (fun t => t.keeps_restartByTest p h) (State.link_setLink_self ..) hc.1)
    · split
      · next hc =>
        rw [State.modLink_eq_setLink hl]
        exact (State.keeps_setLink hl (Link.follows_take hc.1 hc.2 _)).trans (State.keeps_recheckTest _ p h)
      · exact .refl s p h

theorem State.keeps_badMarkEvent (s : State) (p : Port) (h : Half) (r : Nat) : s.Keeps (s.badMarkEvent p h r) p h :=
  State.keeps_modLink fun _ _ => Link.follows_badMark r

/-! ### Requests -/

theorem State.keeps_train (hl : s.link p h = some l) {t : State} (ht : s.train p h l = some t) : s.Keeps t p h := by
  have hg : l.state ≠ .blocked → s.Keeps (s.grantAt p h) p h := fun hb => by
    rw [State.grantAt, State.modLink_eq_setLink hl]
    exact State.keeps_setLink hl (Link.follows_grant hb)
  unfold State.train at ht
  split at ht
  · next hs =>
    obtain rfl := Option.some.inj ht
    exact (hg (by simp [hs])).trans (State.keeps_startTest _ p h)
  · next hs =>
    obtain rfl := Option.some.inj ht
    unfold State.trainChecking
    split
    · exact .refl s p h
    · exact State.keeps_setLink hl ((Link.follows_grant (by simp [hs])).trans (Link.follows_restartQuiet _))
  · next hs => obtain rfl := Option.some.inj ht; exact hg (by simp [hs])
  · next hs => obtain rfl := Option.some.inj ht; exact hg (by simp [hs])
  · next hs =>
    split at ht
    · obtain rfl := Option.some.inj ht
      have hlv : ∀ now, ({ l with grant := true, attempts := 0 } : Link).toChecking now =
          { l.toChecking now with grant := true, attempts := 0 } := fun now => by
        simp [Link.toChecking, Link.leave, hs]
      refine ⟨s.moves_moveTo p h _ _ _ (fun c => by simp [Link.toChecking, LinkState.holding] at c) fun h1 _ hf => ?_,
        fun ho => ?_⟩
      · rw [hlv]
        have r := hf.link hl
        have m : Link.Measured (s.port p) h s.timing.maxAttempts { l with grant := true, attempts := 0 } :=
          ⟨r.2.1, h1, r.2.2.2.2.1, r.2.2.2.2.2.1, r.2.2.2.2.2.2.1, r.2.2.2.2.2.2.2⟩
        obtain ⟨⟨-, hact, hprop, hsk, hsp⟩, -, hsc, -⟩ := l.leave_measures s.uptime
        exact m.inRange ⟨rfl, hact, hprop, hsk, hsp⟩ (hsc ▸ r.2.1) fun c => by simp [Link.toChecking] at c
      · rw [State.enterChecking, State.link_moveLink, hlv]
        have hi := Link.idle_leave (State.linkOk_of_link hl ho) s.uptime
        exact Link.Idle.checking_ok (l := { l.leave s.uptime with grant := true, attempts := 0 })
          (hi.of_fields rfl rfl rfl rfl hi.training hi.agree rfl rfl) _ _
    · cases ht
  · cases ht

theorem State.keeps_recover (hl : s.link p h = some l) (hs : l.state = .isolated) :
    s.Keeps (s.modLink p h fun k => { k with sup := { k.sup with score := 1 } }) p h := by
  rw [State.modLink_eq_setLink hl]
  exact State.keeps_setLink hl (Link.follows_recover hs)

theorem State.keeps_setResidue_none (s : State) (p : Port) (h : Half) : s.Keeps (s.setResidue p h none) p h :=
  State.keeps_position rfl (.inr rfl)
end

end Sys2Proof.Machine

/-! SUPPORT and PROOF. What a command keeps of the whole part: `State.Sound` says that every invariant of the part
carries over. A port's own part of the invariants is `PortUnit.Good`, `PortUnit.Clean` and `PortUnit.Fit`: they depend on
the bare port, on which of its positions hold a link, and on their ranges. -/

namespace Sys2Proof.Machine

open Sys2Proof

set_option Elab.async false

/-! ### The invariants at one port -/

/-- R20, R26: whether a lane of a port is processed in a mode. -/
def PortUnit.processedIn (m : Mode) (q : PortUnit) (i : Lane) : Bool :=
  m == .active && (q.state == .survey || q.state == .assigned) && q.inSpan i

/-- R1, R5, R20, R57, R156: what the invariants say of one port in a mode, its links and receive records apart. -/
structure PortUnit.Plain (m : Mode) (q : PortUnit) : Prop where
  record : q.RecordOk
  mode : m = .setup → q.state ≠ .survey ∧ q.state ≠ .assigned
  silence : ∀ i, (q.lane i).txMark.isSome = true → q.processedIn m i = true

/-- R61: and its links. -/
structure PortUnit.Good (m : Mode) (q : PortUnit) : Prop extends PortUnit.Plain m q where
  links : q.LinksOk

/-- R27, R30, R31: what the invariants say of the receive records of one port in a mode. -/
def PortUnit.Clean (m : Mode) (q : PortUnit) : Prop :=
  ∀ i, (q.lane i).rx.Ok ∧ (q.lane i).rx.polInverted = (q.lane i).correction ∧
    (q.processedIn m i = false → (q.lane i).rx = {})

/-- R100, R119, R125, R140: the ranges at one port. -/
structure PortUnit.Fit (max : Nat) (q : PortUnit) : Prop where
  pos : ∀ h, (q.pos h).inRange q h max = true
  delay : ∀ i, (q.lane i).delay ≤ 63

theorem State.portsOk_iff (s : State) : s.PortsOk ↔ ∀ p, (s.port p).Good s.mode := by
  constructor
  · rintro ⟨h1, h2, h3⟩ p
    exact ⟨⟨(h1 p).1, fun c => h2 c p, h3 p⟩, (h1 p).2⟩
  · intro h
    exact ⟨fun p => ⟨(h p).record, (h p).links⟩, fun c p => (h p).mode c, fun p => (h p).silence⟩

theorem State.lanesOk_iff (s : State) : s.LanesOk ↔ ∀ p, (s.port p).Clean s.mode := Iff.rfl

theorem State.rangesOk_iff (s : State) : s.RangesOk ↔ ∀ p, (s.port p).Fit s.timing.maxAttempts := by
  constructor
  · exact fun h p => ⟨fun | .A => (h p).1 | .B => (h p).2.1, (h p).2.2⟩
  · exact fun h p => ⟨(h p).pos .A, (h p).pos .B, (h p).delay⟩

section
variable {m : Mode} {q r : PortUnit}

theorem PortUnit.state_of_bare (hb : r.bare = q.bare) : r.state = q.state :=
  show r.bare.state = q.bare.state from congrArg PortUnit.state hb

theorem PortUnit.desc_of_bare (hb : r.bare = q.bare) : r.desc = q.desc :=
  show r.bare.desc = q.bare.desc from congrArg PortUnit.desc hb

theorem PortUnit.processedIn_congr (hst : r.state = q.state) (hd : r.desc = q.desc) (i : Lane) :
    r.processedIn m i = q.processedIn m i := by
  unfold PortUnit.processedIn PortUnit.inSpan; rw [hst, hd]

/-- A port with the same bare record is as plain. -/
theorem PortUnit.Plain.of_bare (hq : q.Plain m) (hb : r.bare = q.bare) : r.Plain m := by
  have hst := PortUnit.state_of_bare hb
  refine ⟨?_, fun c => ?_, fun i => ?_⟩
  · have : r.bare.RecordOk := by rw [hb]; exact hq.record
    exact this
  · rw [hst]; exact hq.mode c
  · have h3 : (r.lane i).txMark = (q.lane i).txMark :=
      show (r.lane i).bare.txMark = (q.lane i).bare.txMark from congrArg LaneUnit.txMark (PortUnit.bare_lane hb i)
    rw [h3, PortUnit.processedIn_congr hst (PortUnit.desc_of_bare hb)]
    exact hq.silence i

/-- With links at the same positions it is as good. -/
theorem PortUnit.Good.of_bare (hq : q.Good m) (hb : r.bare = q.bare)
    (hl : ∀ h, (r.pos h).link.isSome = (q.pos h).link.isSome) : r.Good m := by
  have hsplit : r.isSplit = q.isSplit := by unfold PortUnit.isSplit; rw [PortUnit.desc_of_bare hb]
  have hA : r.posA.link.isSome = q.posA.link.isSome := hl .A
  have hB : r.posB.link.isSome = q.posB.link.isSome := hl .B
  refine ⟨hq.toPlain.of_bare hb, ?_⟩
  rw [PortUnit.LinksOk, hA, hB, PortUnit.state_of_bare hb, hsplit]
  exact hq.links

theorem PortUnit.Clean.of_bare (hq : q.Clean m) (hb : r.bare = q.bare) : r.Clean m := by
  intro i
  have h1 : (r.lane i).rx = (q.lane i).rx :=
    show (r.lane i).bare.rx = (q.lane i).bare.rx from congrArg LaneUnit.rx (PortUnit.bare_lane hb i)
  have h2 : (r.lane i).correction = (q.lane i).correction :=
    show (r.lane i).bare.correction = (q.lane i).bare.correction from congrArg LaneUnit.correction (PortUnit.bare_lane hb i)
  rw [h1, h2, PortUnit.processedIn_congr (PortUnit.state_of_bare hb) (PortUnit.desc_of_bare hb)]
  exact hq i
end

/-! ### Soundness of a command -/

/-- From `s` to `t` every invariant of the part carries over, and the waiting commands stay. -/
structure State.Sound (s t : State) : Prop where
  queue : s.QueueOk → t.QueueOk
  histories : s.HistoriesOk → t.HistoriesOk
  line : s.LineOk → t.LineOk
  settings : s.SettingsOk → t.SettingsOk
  locate : s.LocateOk → t.LocateOk
  event : s.eventLoss = none → t.eventLoss = none
  links : s.LinksOk → t.LinksOk
  apart : s.NoDuplicates → t.NoDuplicates
  ports : s.PortsOk → t.PortsOk
  lanes : s.PortsOk → s.LanesOk → t.LanesOk
  ranges : s.PortsOk → s.SettingsOk → s.RangesOk → t.RangesOk
  pending : t.pending = s.pending

theorem State.Sound.refl (s : State) : s.Sound s := ⟨id, id, id, id, id, id, id, id, id, fun _ => id, fun _ _ => id, rfl⟩

theorem State.Sound.trans {s t u : State} (h1 : s.Sound t) (h2 : t.Sound u) : s.Sound u where
  queue := h2.queue ∘ h1.queue
  histories := h2.histories ∘ h1.histories
  line := h2.line ∘ h1.line
  settings := h2.settings ∘ h1.settings
  locate := h2.locate ∘ h1.locate
  event := h2.event ∘ h1.event
  links := h2.links ∘ h1.links
  apart := h2.apart ∘ h1.apart
  ports := h2.ports ∘ h1.ports
  lanes := fun hp hl => h2.lanes (h1.ports hp) (h1.lanes hp hl)
  ranges := fun hp hs hr => h2.ranges (h1.ports hp) (h1.settings hs) (h1.ranges hp hs hr)
  pending := h2.pending.trans h1.pending

/-! ### The records outside the ports -/

/-- What the invariants of the line, the settings, the locate selection and the event read. -/
structure State.RestKept (s t : State) : Prop where
  line : s.LineOk → t.LineOk
  settings : s.SettingsOk → t.SettingsOk
  locate : s.LocateOk → t.LocateOk
  event : s.eventLoss = none → t.eventLoss = none
  pending : t.pending = s.pending

theorem State.restKept_of_rest {s t : State} (h : t.rest = s.rest) : s.RestKept t := by
  refine ⟨fun c => ?_, fun c => ?_, fun c => ?_, fun c => ?_,
    show t.rest.pending = s.rest.pending from congrArg State.pending h⟩
  · have : t.rest.LineOk := by rw [h]; exact c
    exact this
  · have : t.rest.SettingsOk := by rw [h]; exact c
    exact this
  · have : t.rest.LocateOk := by rw [h]; exact c
    exact this
  · have : t.rest.eventLoss = none := by rw [h]; exact c
    exact this

theorem State.rest_of_bare {s t : State} (h : t.bare = s.bare) : t.rest = s.rest :=
  congrArg (fun u : State => { u with ports := Vector.replicate 16 {} }) h

theorem State.RestKept.trans {s t u : State} (h1 : s.RestKept t) (h2 : t.RestKept u) : s.RestKept u :=
  ⟨h2.line ∘ h1.line, h2.settings ∘ h1.settings, h2.locate ∘ h1.locate, h2.event ∘ h1.event,
    h2.pending.trans h1.pending⟩

theorem State.mode_of_bare {s t : State} (h : t.bare = s.bare) : t.mode = s.mode :=
  show t.bare.mode = s.bare.mode from congrArg State.mode h

/-! ### A command of one link -/

theorem Position.Kept.isSome {now : Uptime} {x y : Position} (hk : x.Kept now y) : y.link.isSome = x.link.isSome := by
  rcases hk with rfl | ⟨l, hl, -, -, rfl⟩
  · rfl
  · rw [hl]; rfl

theorem Position.Kept.ok {now : Uptime} {x y : Position} (hk : x.Kept now y) (ho : linkOk x.link = true) :
    linkOk y.link = true := by
  rcases hk with rfl | ⟨l, hl, -, -, rfl⟩
  · exact ho
  · rw [hl] at ho; exact Link.toChecking_ok ho now

theorem Position.Kept.inRange {now : Uptime} {x y : Position} (hk : x.Kept now y) {q : PortUnit} {h : Half} {max : Nat}
    (hr : x.inRange q h max = true) : y.inRange q h max = true := by
  rcases hk with rfl | ⟨l, hl, hs, hd, rfl⟩
  · exact hr
  · obtain ⟨h1, h2⟩ := (Position.inRange_iff ..).mp hr
    refine (Position.inRange_iff ..).mpr ⟨fun k hk => ?_, h2⟩
    obtain rfl : l.toChecking now = k := Option.some.inj hk
    obtain ⟨hm, -, hsc, -⟩ := l.leave_measures now
    exact (h1 l hl).move ⟨hm.attempts, hm.active, hm.proposal, hm.skew, hm.spread⟩ hsc (by simp [Link.toChecking])
      (by simp [hd])

theorem Position.inRange_congr {q r : PortUnit} (hd : q.desc = r.desc) (x : Position) (h : Half) (max : Nat) :
    x.inRange q h max = x.inRange r h max := by
  rw [Bool.eq_iff_iff, Position.inRange_iff, Position.inRange_iff]
  simp only [Link.inRange_congr hd]

section
variable {s t : State} {p : Port} {h : Half}

theorem State.claims_eq_of_others (ho : s.OthersKept t p h) {p' : Port} {h' : Half} (hn : ¬ (p' = p ∧ h' = h)) :
    t.claims p' h' = s.claims p' h' := by
  rcases ho.positions p' h' hn with e | ⟨l, hl, hs, -, e⟩
  · simp only [State.claims, State.link, e]
  · simp [State.claims, State.link, hl, e, hs, Link.toChecking, LinkState.holding]

theorem State.claims_of_duplicate_false {f : FarId} (hd : s.duplicate p h f = false) {p' : Port} {h' : Half}
    (hc : s.claims p' h' = some f) : p' = p ∧ h' = h := by
  by_contra hn
  have hmem := List.any_eq_false.mp hd (p', h') (mem_allPositions p' h')
  unfold State.claims at hc
  cases hl : s.link p' h' with
  | none => simp [hl] at hc
  | some l =>
    rw [hl] at hc
    dsimp only at hc
    split at hc
    · next hh =>
      refine hmem ?_
      have : ((p', h') != (p, h)) = true := by
        simp only [bne_iff_ne, ne_eq, Prod.mk.injEq]
        exact hn
      simp [this, hl, hh, hc]
    · cases hc

/-- R71: after what takes no far identity that another link holds, none is held twice. -/
theorem State.Moves.apart (m : s.Moves t p h) (hs : s.NoDuplicates) : t.NoDuplicates := by
  have key : ∀ a b f, ¬ (a = p ∧ b = h) → t.claims p h = some f → t.claims a b = some f → False := by
    intro a b f hn hc hc'
    rw [State.claims_eq_of_others m.others hn] at hc'
    rcases m.claim with e | e
    · rw [e] at hc
      obtain ⟨h1, h2⟩ := hs a b p h f hc' hc
      exact hn ⟨h1, h2⟩
    · exact hn (State.claims_of_duplicate_false (e f hc) hc')
  intro a b a' b' f hc hc'
  by_cases h1 : a = p ∧ b = h <;> by_cases h2 : a' = p ∧ b' = h
  · exact ⟨h1.1.trans h2.1.symm, h1.2.trans h2.2.symm⟩
  · obtain ⟨rfl, rfl⟩ := h1; exact (key a' b' f h2 hc hc').elim
  · obtain ⟨rfl, rfl⟩ := h2; exact (key a b f h1 hc' hc).elim
  · rw [State.claims_eq_of_others m.others h1] at hc
    rw [State.claims_eq_of_others m.others h2] at hc'
    exact hs a b a' b' f hc hc'

theorem State.linksOk_iff (s : State) : s.LinksOk ↔ ∀ p h, linkOk (s.link p h) = true :=
  ⟨fun k p => fun | .A => (k p).1 | .B => (k p).2, fun k p => ⟨k p .A, k p .B⟩⟩

theorem State.Keeps.linksOk (k : s.Keeps t p h) (hs : s.LinksOk) : t.LinksOk := by
  rw [State.linksOk_iff] at hs ⊢
  intro p' h'
  by_cases hn : p' = p ∧ h' = h
  · obtain ⟨rfl, rfl⟩ := hn; exact k.ok (hs p' h')
  · exact (k.others.positions p' h' hn).ok (hs p' h')

/-- R140: the ranges of the whole part after what keeps those of one position. -/
theorem State.Moves.rangesOk (m : s.Moves t p h) (h1 : 1 ≤ s.timing.maxAttempts)
    (hd : (s.port p).desc.all Descriptor.Ok = true) (hs : s.RangesOk) : t.RangesOk := by
  rw [State.rangesOk_iff] at hs ⊢
  have hfit := m.range h1 hd ⟨(hs p).pos h, fun i _ => (hs p).delay i⟩
  have hb := m.others.bare
  rw [State.timing_of_bare hb]
  intro p'
  refine ⟨fun h' => ?_, fun i => ?_⟩
  · rw [Position.inRange_congr (State.desc_of_bare hb p')]
    by_cases hn : p' = p ∧ h' = h
    · obtain ⟨rfl, rfl⟩ := hn
      have := hfit.1
      rwa [State.timing_of_bare hb, Position.inRange_congr (State.desc_of_bare hb p')] at this
    · exact (m.others.positions p' h' hn).inRange ((hs p').pos h')
  · by_cases hn : p' = p ∧ (s.port p).ofHalf h i = true
    · obtain ⟨rfl, hi⟩ := hn
      exact hfit.2 i (by rw [PortUnit.ofHalf_of_bare (State.bare_port hb p')]; exact hi)
    · rw [m.others.lanes p' i hn]; exact (hs p').delay i

/-- The presence of links after a command of one link that finds one or does nothing. -/
theorem State.Moves.presence (m : s.Moves t p h) (hn : s.link p h = none → t.link p h = none) (p' : Port) (h' : Half) :
    (t.link p' h').isSome = (s.link p' h').isSome := by
  by_cases hc : p' = p ∧ h' = h
  · obtain ⟨rfl, rfl⟩ := hc
    cases hl : s.link p' h' with
    | none => rw [hn hl]
    | some l => exact m.stays (by rw [hl]; rfl)
  · exact (m.others.positions p' h' hc).isSome

/-- What keeps the position of a link, where there is one, carries every invariant over. -/
theorem State.Keeps.sound (k : s.Keeps t p h) (hn : s.link p h = none → t.link p h = none) : s.Sound t := by
  have hb := k.others.bare
  have hrest := State.restKept_of_rest (State.rest_of_bare hb)
  refine ⟨k.queue, k.histories, hrest.line, hrest.settings, hrest.locate, hrest.event, k.linksOk, k.apart,
    fun hp => ?_, fun _ hl => ?_, fun hp hset hr => ?_, hrest.pending⟩
  · rw [State.portsOk_iff] at hp ⊢
    intro p'
    rw [State.mode_of_bare hb]
    exact (hp p').of_bare (State.bare_port hb p') fun h' => k.presence hn p' h'
  · rw [State.lanesOk_iff] at hl ⊢
    intro p'
    rw [State.mode_of_bare hb]
    exact (hl p').of_bare (State.bare_port hb p')
  · exact k.rangesOk hset.2.2.2.2.2.2.2.1 ((hp.1 p).1.2.2.2.2.2.1) hr

/-- A command that acts on a link if there is one. -/
theorem State.sound_withLink {f : Link → State} (hf : ∀ l, s.link p h = some l → s.Keeps (f l) p h) :
    s.Sound (s.withLink p h f) :=
  (State.keeps_withLink hf).sound fun hn => by rw [State.withLink_of_none hn]; exact hn
end

end Sys2Proof.Machine

/-! SUPPORT and PROOF. Commands of a port: `State.PortActs` says that only the port is acted on, that its links end or
stay, and that links elsewhere are at most released by R72; with what the port becomes it carries every invariant
over. -/

namespace Sys2Proof.Machine

open Sys2Proof

/-- What a command of a port does to a link of the part: nothing, the release of R72, or its end. -/
def Lapses (now : Uptime) (x y : Option Link) : Prop :=
  y = x ∨ (∃ l, x = some l ∧ l.state = .blocked ∧ y = some (l.toChecking now)) ∨ y = none

theorem Lapses.trans {now : Uptime} {x y z : Option Link} (h1 : Lapses now x y) (h2 : Lapses now y z) : Lapses now x z := by
  rcases h2 with rfl | ⟨l, hl, hs, rfl⟩ | rfl
  · exact h1
  · rcases h1 with rfl | ⟨k, -, -, rfl⟩ | rfl
    · exact .inr (.inl ⟨l, hl, hs, rfl⟩)
    · obtain rfl : k.toChecking now = l := Option.some.inj hl
      simp [Link.toChecking] at hs
    · cases hl
  · exact .inr (.inr rfl)

theorem Position.Kept.lapses {now : Uptime} {x y : Position} (hk : x.Kept now y) : Lapses now x.link y.link := by
  rcases hk with rfl | ⟨l, hl, hs, -, rfl⟩
  · exact .inl rfl
  · exact .inr (.inl ⟨l, hl, hs, rfl⟩)

/-- From `s` to `t` only port `p` is acted on. -/
structure State.PortActs (s t : State) (p : Port) : Prop where
  rest : t.rest = s.rest
  queue : s.QueueOk → t.QueueOk
  histories : s.HistoriesOk → t.HistoriesOk
  ports : ∀ p', p' ≠ p → (t.port p').bare = (s.port p').bare
  positions : ∀ p' h, p' ≠ p → (s.pos p' h).Kept s.uptime (t.pos p' h)
  lanes : ∀ p' i, p' ≠ p → (t.port p').lane i = (s.port p').lane i
  links : ∀ h, Lapses s.uptime (s.link p h) (t.link p h)

theorem State.uptime_of_rest {s t : State} (h : t.rest = s.rest) : t.uptime = s.uptime :=
  show t.rest.uptime = s.rest.uptime from congrArg State.uptime h

theorem State.mode_of_rest {s t : State} (h : t.rest = s.rest) : t.mode = s.mode :=
  show t.rest.mode = s.rest.mode from congrArg State.mode h

theorem State.timing_of_rest {s t : State} (h : t.rest = s.rest) : t.timing = s.timing :=
  show t.rest.timing = s.rest.timing from congrArg State.timing h

section
variable {s t u : State} {p : Port}

theorem State.PortActs.refl (s : State) (p : Port) : s.PortActs s p :=
  ⟨rfl, id, id, fun _ _ => rfl, fun _ _ _ => .refl _ _, fun _ _ _ => rfl, fun _ => .inl rfl⟩

theorem State.PortActs.trans (h1 : s.PortActs t p) (h2 : t.PortActs u p) : s.PortActs u p where
  rest := h2.rest.trans h1.rest
  queue := h2.queue ∘ h1.queue
  histories := h2.histories ∘ h1.histories
  ports := fun p' hn => (h2.ports p' hn).trans (h1.ports p' hn)
  positions := fun p' h hn => (h1.positions p' h hn).trans (State.uptime_of_rest h1.rest ▸ h2.positions p' h hn)
  lanes := fun p' i hn => (h2.lanes p' i hn).trans (h1.lanes p' i hn)
  links := fun h => (h1.links h).trans (State.uptime_of_rest h1.rest ▸ h2.links h)

/-- R71: links that lapse take no far identity. -/
theorem State.claims_of_lapses {p' : Port} {h : Half} (hl : Lapses s.uptime (s.link p' h) (t.link p' h)) {f : FarId}
    (hc : t.claims p' h = some f) : s.claims p' h = some f := by
  unfold State.claims at hc ⊢
  rcases hl with e | ⟨l, hl, hs, e⟩ | e
  · rw [e] at hc; exact hc
  · rw [e] at hc; simp [Link.toChecking, LinkState.holding] at hc
  · rw [e] at hc; simp at hc

theorem State.linkOk_of_lapses {p' : Port} {h : Half} (hl : Lapses s.uptime (s.link p' h) (t.link p' h))
    (ho : linkOk (s.link p' h) = true) : linkOk (t.link p' h) = true := by
  rcases hl with e | ⟨l, hl, hs, e⟩ | e
  · rw [e]; exact ho
  · rw [e]; rw [hl] at ho; exact Link.toChecking_ok ho _
  · rw [e]; rfl

theorem State.PortActs.lapses (k : s.PortActs t p) (p' : Port) (h : Half) :
    Lapses s.uptime (s.link p' h) (t.link p' h) := by
  by_cases hp : p' = p
  · subst hp; exact k.links h
  · exact (k.positions p' h hp).lapses

theorem State.PortActs.linksOk (k : s.PortActs t p) (hs : s.LinksOk) : t.LinksOk := by
  rw [State.linksOk_iff] at hs ⊢
  exact fun p' h => State.linkOk_of_lapses (k.lapses p' h) (hs p' h)

theorem State.PortActs.apart (k : s.PortActs t p) (hs : s.NoDuplicates) : t.NoDuplicates :=
  fun a b a' b' f hc hc' => hs a b a' b' f (State.claims_of_lapses (k.lapses a b) hc) (State.claims_of_lapses (k.lapses a' b') hc')

theorem State.PortActs.good (k : s.PortActs t p) (hs : ∀ p', (s.port p').Good s.mode) {p' : Port} (hn : p' ≠ p) :
    (t.port p').Good s.mode :=
  (hs p').of_bare (k.ports p' hn) fun h => (k.positions p' h hn).isSome

theorem State.PortActs.clean (k : s.PortActs t p) (hs : ∀ p', (s.port p').Clean s.mode) {p' : Port} (hn : p' ≠ p) :
    (t.port p').Clean s.mode := (hs p').of_bare (k.ports p' hn)

theorem State.PortActs.fit (k : s.PortActs t p) {max : Nat} (hs : ∀ p', (s.port p').Fit max) {p' : Port} (hn : p' ≠ p) :
    (t.port p').Fit max := by
  refine ⟨fun h => ?_, fun i => ?_⟩
  · rw [Position.inRange_congr (PortUnit.desc_of_bare (k.ports p' hn))]
    exact (k.positions p' h hn).inRange ((hs p').pos h)
  · rw [k.lanes p' i hn]; exact (hs p').delay i

/-- With what its port becomes, a command of a port carries every invariant over. -/
theorem State.PortActs.sound (k : s.PortActs t p) (hg : (s.port p).Good s.mode → (t.port p).Good s.mode)
    (hc : (s.port p).Good s.mode → (s.port p).Clean s.mode → (t.port p).Clean s.mode)
    (hf : (s.port p).Good s.mode → (s.port p).Fit s.timing.maxAttempts → (t.port p).Fit s.timing.maxAttempts) :
    s.Sound t := by
  have hrest := State.restKept_of_rest k.rest
  refine ⟨k.queue, k.histories, hrest.line, hrest.settings, hrest.locate, hrest.event, k.linksOk, k.apart,
    fun hp => ?_, fun hp hl => ?_, fun hp _ hr => ?_, hrest.pending⟩
  · rw [State.portsOk_iff] at hp ⊢
    rw [State.mode_of_rest k.rest]
    intro p'
    by_cases hn : p' = p
    · subst hn; exact hg (hp p')
    · exact k.good hp hn
  · rw [State.lanesOk_iff] at hl ⊢
    rw [State.mode_of_rest k.rest]
    intro p'
    by_cases hn : p' = p
    · subst hn; exact hc ((State.portsOk_iff s).mp hp p') (hl p')
    · exact k.clean hl hn
  · rw [State.rangesOk_iff] at hr ⊢
    rw [State.timing_of_rest k.rest]
    intro p'
    by_cases hn : p' = p
    · subst hn; exact hf ((State.portsOk_iff s).mp hp p') (hr p')
    · exact k.fit hr hn

/-! ### What acts on a port -/

theorem State.rest_modPort (s : State) (p : Port) (f : PortUnit → PortUnit) : (s.modPort p f).rest = s.rest := rfl

/-- A change of one port that keeps its links. -/
theorem State.portActs_modPort (s : State) (p : Port) {f : PortUnit → PortUnit}
    (hl : ∀ h, ((f (s.port p)).pos h).link = ((s.port p).pos h).link)
    (hh : (s.port p).HistoryOk → (f (s.port p)).HistoryOk) : s.PortActs (s.modPort p f) p := by
  have hne : ∀ p', p' ≠ p → (s.modPort p f).port p' = s.port p' := fun p' hn => State.port_modPort_of_ne s f (Ne.symm hn)
  refine ⟨rfl, id, fun hs p' => ?_, fun p' hn => by rw [hne p' hn], fun p' h hn => ?_, fun p' i hn => by rw [hne p' hn],
    fun h => .inl ?_⟩
  · by_cases hn : p' = p
    · subst hn; rw [State.port_modPort_self]; exact hh (hs p')
    · rw [hne p' hn]; exact hs p'
  · rw [State.pos, State.pos, hne p' hn]; exact .refl _ _
  · rw [State.link, State.pos, State.port_modPort_self]; exact hl h

theorem State.portActs_log (s : State) (p : Port) (c : Change) (r : Reason) : s.PortActs (s.log p c r) p :=
  s.portActs_modPort p (fun h => by rw [PortUnit.pos_append]) fun hh => PortUnit.append_bounds _ hh

theorem State.portActs_portTo (s : State) (p : Port) (x : PortState) (r : Reason) : s.PortActs (s.portTo p x r) p :=
  (s.portActs_modPort p (f := fun q => { q with state := x }) (fun h => by cases h <;> rfl) id).trans
    (State.portActs_log _ p _ _)

theorem State.portActs_post (s : State) (p : Port) (a : Option Port) (b : Option Half) (d : Detail) :
    s.PortActs (s.post a b d) p where
  rest := State.rest_of_bare (s.bare_post a b d)
  queue := fun hq => State.post_bounds a b d hq
  histories := fun hh p' => by simpa using hh p'
  ports := fun p' _ => by simp
  positions := fun p' h _ => by rw [State.pos, State.pos, State.port_post]; exact .refl _ _
  lanes := fun p' i _ => by simp
  links := fun h => .inl (by simp)

/-- The port after a change of its state. -/
theorem State.port_portTo (s : State) (p : Port) (x : PortState) (r : Reason) : ∃ H W,
    (s.portTo p x r).port p = { s.port p with state := x, history := H, wrapped := W } := by
  have h1 : (s.portTo p x r).port p =
      ({ s.port p with state := x } : PortUnit).append ⟨s.uptime, .port (s.port p).state x, r⟩ := by
    rw [State.portTo, State.log, State.port_modPort_self, State.port_modPort_self]; rfl
  exact ⟨_, _, h1.trans (PortUnit.append_eq _ _)⟩

/-- What acts on one link of a port, and perhaps ends it. -/
theorem State.portActs_of_others {h : Half} (ho : s.OthersKept t p h) (hq : s.QueueOk → t.QueueOk)
    (hh : s.HistoriesOk → t.HistoriesOk) (hl : Lapses s.uptime (s.link p h) (t.link p h)) : s.PortActs t p where
  rest := State.rest_of_bare ho.bare
  queue := hq
  histories := hh
  ports := fun p' _ => State.bare_port ho.bare p'
  positions := fun p' h' hn => ho.positions p' h' fun c => hn c.1
  lanes := fun p' i hn => ho.lanes p' i fun c => hn c.1
  links := fun h' => by
    by_cases hc : h' = h
    · subst hc; exact hl
    · exact (ho.positions p h' fun c => hc c.2).lapses

/-! ### Removal (R9, R11, R13, R49, R158, R161) -/

theorem State.link_removeLink (s : State) (p : Port) (h : Half) (reason : Reason) : (s.removeLink p h reason).link p h = none := by
  unfold State.removeLink
  cases hl : s.link p h with
  | none => rw [State.withLink_of_none hl]; exact hl
  | some l =>
    rw [State.withLink_of_link hl]
    dsimp only
    split <;> simp [State.link_moveLink]

theorem State.portActs_removeLink (s : State) (p : Port) (h : Half) (reason : Reason) :
    s.PortActs (s.removeLink p h reason) p := by
  have hk : (s.QueueOk → (s.removeLink p h reason).QueueOk) ∧ (s.HistoriesOk → (s.removeLink p h reason).HistoriesOk) := by
    unfold State.removeLink
    cases hl : s.link p h with
    | none => rw [State.withLink_of_none hl]; exact ⟨id, id⟩
    | some l =>
      rw [State.withLink_of_link hl]
      have h1 : s.QueueOk → (s.moveLink p h (some l) none reason reason).QueueOk := fun hq => by
        obtain ⟨e1, e2⟩ := s.queue_moveLink p h (some l) none reason reason
        rwa [State.QueueOk, e1, e2]
      have h2 : s.HistoriesOk → (s.moveLink p h (some l) none reason reason).HistoriesOk :=
        fun hh => hh.of_appended fun p' => s.appended_moveLink p h (some l) none reason reason p'
      dsimp only
      split
      · exact ⟨fun hq => State.post_bounds _ _ _ (h1 hq), fun hh p' => by simpa using h2 hh p'⟩
      · exact ⟨h1, h2⟩
  exact State.portActs_of_others (s.others_removeLink p h reason) hk.1 hk.2
    (.inr (.inr (s.link_removeLink p h reason)))

theorem State.portActs_inEvent {f : State → State} (hf : s.event.PortActs (f s.event) p) : s.PortActs (s.inEvent f) p where
  rest := congrArg (fun u : State => { u with eventLoss := s.eventLoss }) hf.rest
  queue := hf.queue
  histories := hf.histories
  ports := hf.ports
  positions := hf.positions
  lanes := hf.lanes
  links := hf.links

theorem State.portActs_removeLinks (s : State) (p : Port) (reason : Reason) : s.PortActs (s.removeLinks p reason) p :=
  State.portActs_inEvent ((State.portActs_removeLink _ p .A reason).trans (State.portActs_removeLink _ p .B reason))

theorem Lapses.none {now : Uptime} {y : Option Link} (h : Lapses now none y) : y = none := by
  rcases h with rfl | ⟨l, hl, -⟩ | rfl
  · rfl
  · cases hl
  · rfl

theorem State.link_removeLinks (s : State) (p : Port) (reason : Reason) (h : Half) :
    (s.removeLinks p reason).link p h = none := by
  show ((s.event.removeLink p .A reason).removeLink p .B reason).link p h = none
  cases h with
  | A =>
    have := (State.portActs_removeLink (s.event.removeLink p .A reason) p .B reason).links .A
    rw [State.link_removeLink] at this
    exact this.none
  | B => exact State.link_removeLink _ p .B reason
end

end Sys2Proof.Machine

/-! SUPPORT and PROOF. Presence, the descriptor read, the entry to SURVEY and PORT_OFF carry the invariants over (R2 to
R13). -/

namespace Sys2Proof.Machine

open Sys2Proof

/-! ### Ports without links and processed lanes -/

section
variable {m : Mode} {q r : PortUnit} {max : Nat}

theorem PortUnit.processedIn_of_state (h1 : q.state ≠ .survey) (h2 : q.state ≠ .assigned) (i : Lane) :
    q.processedIn m i = false := by
  simp [PortUnit.processedIn, h1, h2]

/-- R61: a port that is not ASSIGNED has no link. -/
theorem PortUnit.Good.no_link (hq : q.Good m) (hs : q.state ≠ .assigned) (h : Half) : (q.pos h).link = none := by
  obtain ⟨hA, hB⟩ := hq.links
  cases h with
  | A => exact Option.not_isSome_iff_eq_none.mp fun c => hs (hA.mp c)
  | B => exact Option.not_isSome_iff_eq_none.mp fun c => hs (hB.mp c).1

/-- R20: a port that neither surveys nor is ASSIGNED sends nothing. -/
theorem PortUnit.Plain.silent (hq : q.Plain m) (h1 : q.state ≠ .survey) (h2 : q.state ≠ .assigned) (i : Lane) :
    (q.lane i).txMark = none :=
  Option.not_isSome_iff_eq_none.mp fun c => by
    have := hq.silence i c
    rw [PortUnit.processedIn_of_state h1 h2] at this
    cases this

/-- R31: its receive records are cleared. -/
theorem PortUnit.Clean.cleared (hq : q.Clean m) (h1 : q.state ≠ .survey) (h2 : q.state ≠ .assigned) (i : Lane) :
    (q.lane i).rx = {} ∧ (q.lane i).correction = false := by
  obtain ⟨-, hp, hr⟩ := hq i
  have := hr (PortUnit.processedIn_of_state h1 h2 i)
  rw [this] at hp
  exact ⟨this, hp.symm⟩

theorem RxRecord.ok_cleared : ({} : RxRecord).Ok := by decide

theorem PortUnit.good_of_idle (hr : q.RecordOk) (h1 : q.state ≠ .survey) (h2 : q.state ≠ .assigned)
    (hl : ∀ h, (q.pos h).link = none) (ht : ∀ i, (q.lane i).txMark = none) : q.Good m := by
  have hA : q.posA.link = none := hl .A
  have hB : q.posB.link = none := hl .B
  exact ⟨⟨hr, fun _ => ⟨h1, h2⟩, fun i c => by simp [ht i] at c⟩, by simp [hA, h2], by simp [hB, h2]⟩

theorem PortUnit.clean_of_cleared (h : ∀ i, (q.lane i).rx = {} ∧ (q.lane i).correction = false) : q.Clean m := fun i => by
  obtain ⟨h1, h2⟩ := h i
  rw [h1, h2]
  exact ⟨RxRecord.ok_cleared, rfl, fun _ => rfl⟩

/-- A port without links is within its ranges where its residues and delays are. -/
theorem PortUnit.fit_of_no_link (hl : ∀ h, (r.pos h).link = none) (hq : q.Fit max)
    (hres : ∀ h x, (r.pos h).residue = some x → (q.pos h).residue = some x)
    (hd : ∀ i, (r.lane i).delay ≤ (q.lane i).delay) : r.Fit max :=
  ⟨fun h => (Position.inRange_iff ..).mpr ⟨fun l c => absurd ((hl h).symm.trans c) (by simp),
      fun x c => ((Position.inRange_iff ..).mp (hq.pos h)).2 x (hres h x c)⟩, fun i => (hd i).trans (hq.delay i)⟩

theorem PortUnit.Fit.of_same (hq : q.Fit max) (hd : r.desc = q.desc) (hp : ∀ h, r.pos h = q.pos h)
    (hl : ∀ i, (r.lane i).delay ≤ (q.lane i).delay) : r.Fit max :=
  ⟨fun h => by rw [hp h, Position.inRange_congr hd]; exact hq.pos h, fun i => (hl i).trans (hq.delay i)⟩
end

/-! ### The lanes of a port that stops -/

theorem PortUnit.lane_silence (q : PortUnit) (i : Lane) : q.silence.lane i = { q.lane i with txMark := none } :=
  q.lane_mapLanes _ i

theorem PortUnit.lane_clearLanes (q : PortUnit) (i : Lane) : q.clearLanes.lane i = q.clearLane .quiet (q.lane i) :=
  q.lane_mapLanes _ i

/-- R9, R11: a lane of a port that is abandoned. -/
theorem PortUnit.lane_stopped (q : PortUnit) (i : Lane) : (q.silence.clearLanes.lane i).txMark = none ∧
    (q.silence.clearLanes.lane i).rx = {} ∧ (q.silence.clearLanes.lane i).correction = false ∧
    (q.silence.clearLanes.lane i).active = false ∧ (q.silence.clearLanes.lane i).delay = 0 := by
  rw [PortUnit.lane_clearLanes, PortUnit.lane_silence]
  exact ⟨rfl, rfl, rfl, rfl, rfl⟩

/-- The fields of a port that its bare record holds. -/
theorem PortUnit.fields_of_bare {q r : PortUnit} (h : r.bare = q.bare) :
    r.state = q.state ∧ r.enabled = q.enabled ∧ r.accepted = q.accepted ∧ r.debounceCount = q.debounceCount ∧
      r.desc = q.desc ∧ r.fault = q.fault ∧ r.readAttempt = q.readAttempt ∧ r.windowTimer = q.windowTimer ∧
      r.settleTimer = q.settleTimer ∧ r.plan = q.plan ∧ r.presN = q.presN := by
  have key : ∀ {α : Type} (f : PortUnit → α), (∀ x : PortUnit, f x.bare = f x) → f r = f q := fun f hf => by
    rw [← hf r, ← hf q, h]
  exact ⟨key (·.state) fun _ => rfl, key (·.enabled) fun _ => rfl, key (·.accepted) fun _ => rfl, key (·.debounceCount) fun _ => rfl, key (·.desc) fun _ => rfl, key (·.fault) fun _ => rfl, key (·.readAttempt) fun _ => rfl, key (·.windowTimer) fun _ => rfl, key (·.settleTimer) fun _ => rfl, key (·.plan) fun _ => rfl, key (·.presN) fun _ => rfl⟩

/-! ### A change of a port that stays idle -/

section
variable {s : State} {p : Port}

/-- A change of a port's record that keeps its lanes, positions and history, from a state in which nothing is linked
or processed to another such. -/
theorem State.sound_idle {t : State} (k : s.PortActs t p) (h1 : (s.port p).state ≠ .survey) (h2 : (s.port p).state ≠ .assigned)
    (h3 : (t.port p).state ≠ .survey) (h4 : (t.port p).state ≠ .assigned) (hp : ∀ h, (t.port p).pos h = (s.port p).pos h)
    (hl : ∀ i, (t.port p).lane i = (s.port p).lane i) (hr : (s.port p).RecordOk → (t.port p).RecordOk) : s.Sound t :=
  k.sound (fun hg => PortUnit.good_of_idle (hr hg.record) h3 h4 (fun h => by rw [hp]; exact hg.no_link h2 h) fun i => by
      rw [hl]; exact hg.silent h1 h2 i)
    (fun _ hc => PortUnit.clean_of_cleared fun i => by rw [hl]; exact hc.cleared h1 h2 i)
    fun hg hf => PortUnit.fit_of_no_link (fun h => by rw [hp]; exact hg.no_link h2 h) hf (fun h x c => by rw [← hp]; exact c)
      fun i => by rw [hl]

/-- A change of the port's record that no lane and no link reads. -/
theorem State.sound_record {f : PortUnit → PortUnit} (hl : (f (s.port p)).lanes = (s.port p).lanes)
    (hp : ∀ h, (f (s.port p)).pos h = (s.port p).pos h) (hd : (f (s.port p)).desc = (s.port p).desc)
    (hst : (f (s.port p)).state = (s.port p).state) (hh : (s.port p).HistoryOk → (f (s.port p)).HistoryOk)
    (hr : (s.port p).RecordOk → (f (s.port p)).RecordOk) : s.Sound (s.modPort p f) := by
  have hlane : ∀ i, (f (s.port p)).lane i = (s.port p).lane i := fun i => by simp only [PortUnit.lane, hl]
  have hproc : ∀ i, (f (s.port p)).processedIn s.mode i = (s.port p).processedIn s.mode i :=
    PortUnit.processedIn_congr hst hd
  have hA : (f (s.port p)).posA = (s.port p).posA := hp .A
  have hB : (f (s.port p)).posB = (s.port p).posB := hp .B
  have hsplit : (f (s.port p)).isSplit = (s.port p).isSplit := by unfold PortUnit.isSplit; rw [hd]
  refine (s.portActs_modPort p (fun h => by rw [hp]) hh).sound (fun hg => ?_) (fun _ hc => ?_) fun _ hf => ?_
  all_goals rw [State.port_modPort_self]
  · refine ⟨⟨hr hg.record, fun c => by rw [hst]; exact hg.mode c, fun i c => ?_⟩, ?_⟩
    · rw [hproc]; rw [hlane] at c; exact hg.silence i c
    · rw [PortUnit.LinksOk, hA, hB, hst, hsplit]; exact hg.links
  · intro i; rw [hlane, hproc]; exact hc i
  · exact hf.of_same hd hp fun i => by rw [hlane]

theorem State.sound_post (s : State) (a : Option Port) (b : Option Half) (d : Detail) : s.Sound (s.post a b d) :=
  (s.keeps_post 0 .A a b d).sound fun hn => by simpa using hn

theorem State.sound_debounce (s : State) (p : Port) {n : Nat} (hn : n ≤ 1) (hs : n = 0 ∨ (s.port p).state ≠ .off) (g : Uptime) :
    s.Sound (s.modPort p fun q => { q with debounceCount := n, gridStart := g }) :=
  State.sound_record rfl (fun h => by cases h <;> rfl) rfl rfl id fun hr => by
    obtain ⟨h1, h2, -, -, h5⟩ := hr
    exact ⟨h1, h2, hn, fun c => hs.resolve_right fun d => d c, h5⟩

/-- R4: a cable is accepted. -/
theorem State.sound_cableIn (hs : (s.port p).state = .empty) : s.Sound (s.cableIn p) := by
  unfold State.cableIn
  refine State.Sound.trans ?_ (State.sound_post _ _ _ _)
  generalize hu : (s.modPort p fun q => { q with accepted := true, readAttempt := 1 }) = u
  have k1 : s.PortActs u p := hu ▸ s.portActs_modPort p (fun h => by cases h <;> rfl) id
  have hup : u.port p = { s.port p with accepted := true, readAttempt := 1 } := by rw [← hu, State.port_modPort_self]
  obtain ⟨H, W, he⟩ := u.port_portTo p .seating .cableIn
  rw [hup] at he
  refine State.sound_idle (k1.trans (u.portActs_portTo p _ _)) (by simp [hs]) (by simp [hs]) (by simp [he]) (by simp [he])
    (fun h => by rw [he]; cases h <;> rfl) (fun i => by rw [he]; rfl) fun hr => ?_
  obtain ⟨h1, h2, h3, h4, h5, h6, h7, h8, h9, h10, h11⟩ := hr
  rw [he]
  simp_all [PortUnit.RecordOk, PortState.reads]

/-! ### Removal -/

/-- A change of the lanes of a port changes nothing else. -/
theorem PortUnit.mapLanes_eq (q : PortUnit) (f : Lane → LaneUnit → LaneUnit) :
    q.mapLanes f = { q with lanes := (q.mapLanes f).lanes } := rfl

theorem PortUnit.abandon_eq (q : PortUnit) : q.abandon =
    { q with lanes := q.silence.clearLanes.lanes, windowTimer := none, settleTimer := none, readAttempt := 0 } := rfl

theorem State.portActs_dropResidues (s : State) (p : Port) : s.PortActs (s.dropResidues p) p :=
  s.portActs_modPort p (fun h => by cases h <;> rfl) id

theorem State.portActs_dropContexts (s : State) (p : Port) : s.PortActs (s.dropContexts p) p :=
  s.portActs_modPort p (fun h => by cases h <;> rfl) id

/-- The port after its links, and perhaps its residues and contexts, are gone. -/
structure PortUnit.Vacated (q r : PortUnit) : Prop where
  bare : r.bare = q.bare
  link : ∀ h, (r.pos h).link = none
  residue : ∀ h x, (r.pos h).residue = some x → (q.pos h).residue = some x
  delay : ∀ i, (r.lane i).delay ≤ (q.lane i).delay

theorem State.pos_removeLink_residue (s : State) (p : Port) (h h' : Half) (reason : Reason) (p' : Port) :
    ((s.removeLink p h reason).pos p' h').residue = (s.pos p' h').residue := by
  by_cases hc : p' = p ∧ h' = h
  · obtain ⟨rfl, rfl⟩ := hc
    unfold State.removeLink
    cases hl : s.link p' h' with
    | none => rw [State.withLink_of_none hl]
    | some l =>
      rw [State.withLink_of_link hl]
      dsimp only
      split
      · simp only [State.postLink, State.pos, State.port_post]
        have e := congrArg Position.residue (s.pos_moveLink p' h' (some l) none reason reason)
        exact e
      · rw [State.pos_moveLink]
  · rcases (s.others_removeLink p h reason).positions p' h' hc with e | ⟨l, -, -, -, e⟩ <;> rw [e]

theorem State.delay_removeLink (s : State) (p : Port) (h : Half) (reason : Reason) (p' : Port) (i : Lane) :
    (((s.removeLink p h reason).port p').lane i).delay ≤ ((s.port p').lane i).delay := by
  unfold State.removeLink
  cases hl : s.link p h with
  | none => rw [State.withLink_of_none hl]
  | some l =>
    rw [State.withLink_of_link hl]
    have hm : (((s.moveLink p h (some l) none reason reason).port p').lane i).delay ≤ ((s.port p').lane i).delay := by
      rw [State.lane_moveLink]
      split
      · exact Nat.zero_le _
      · exact le_rfl
    dsimp only
    split
    · simpa using hm
    · exact hm

theorem State.vacated_removeLinks (s : State) (p : Port) (reason : Reason) :
    (s.port p).Vacated ((s.removeLinks p reason).port p) where
  bare := State.bare_port (s.bare_removeLinks p reason) p
  link := fun h => s.link_removeLinks p reason h
  residue := fun h x c => by
    have e : ((s.removeLinks p reason).pos p h).residue = (s.pos p h).residue :=
      ((s.event.removeLink p .A reason).pos_removeLink_residue p .B h reason p).trans
        (s.event.pos_removeLink_residue p .A h reason p)
    exact e ▸ c
  delay := fun i => ((s.event.removeLink p .A reason).delay_removeLink p .B reason p i).trans
    (s.event.delay_removeLink p .A reason p i)

theorem PortUnit.Vacated.dropResidues {q r : PortUnit} (v : q.Vacated r) : q.Vacated
    { r with posA := { r.posA with residue := none }, posB := { r.posB with residue := none } } where
  bare := v.bare
  link := fun | .A => v.link .A | .B => v.link .B
  residue := fun h x c => by cases h <;> cases c
  delay := v.delay

theorem PortUnit.Vacated.dropContexts {q r : PortUnit} (v : q.Vacated r) : q.Vacated
    { r with posA := { r.posA with context := none }, posB := { r.posB with context := none } } where
  bare := v.bare
  link := fun | .A => v.link .A | .B => v.link .B
  residue := fun | .A => v.residue .A | .B => v.residue .B
  delay := v.delay

/-- R9, R11, R19: a port that is vacated and stopped in a state without descriptor. -/
theorem State.sound_stopped {t : State} (k : s.PortActs t p) {r : PortUnit} (hv : (s.port p).Vacated r)
    (hl : (t.port p).lanes = r.silence.clearLanes.lanes) (hp : ∀ h, (t.port p).pos h = r.pos h)
    (h3 : (t.port p).state ≠ .survey) (h4 : (t.port p).state ≠ .assigned)
    (hr : (s.port p).RecordOk → (t.port p).RecordOk) : s.Sound t := by
  have hlane : ∀ i, (t.port p).lane i = r.silence.clearLanes.lane i := fun i => by simp only [PortUnit.lane, hl]
  refine k.sound (fun hg => ?_) (fun _ _ => ?_) fun _ hf => ?_
  · exact PortUnit.good_of_idle (hr hg.record) h3 h4 (fun h => by rw [hp]; exact hv.link h) fun i => by
      rw [hlane]; exact (r.lane_stopped i).1
  · exact PortUnit.clean_of_cleared fun i => by
      rw [hlane]; obtain ⟨-, e1, e2, -⟩ := r.lane_stopped i; exact ⟨e1, e2⟩
  · exact PortUnit.fit_of_no_link (fun h => by rw [hp]; exact hv.link h) hf (fun h x c => hv.residue h x (hp h ▸ c)) fun i => by
      rw [hlane, (r.lane_stopped i).2.2.2.2]; exact Nat.zero_le _

/-- R9: a removal. -/
theorem State.sound_cableOut (h1 : (s.port p).state ≠ .off) : s.Sound (s.cableOut p) := by
  unfold State.cableOut
  dsimp only
  refine State.Sound.trans ?_ (State.sound_post _ _ _ _)
  generalize hu : ((s.removeLinks p .cableOut).dropResidues p).dropContexts p = u
  have k1 : s.PortActs u p := hu ▸ ((s.portActs_removeLinks p _).trans (State.portActs_dropResidues _ p)).trans
    (State.portActs_dropContexts _ p)
  have hv : (s.port p).Vacated (u.port p) := by
    rw [← hu]
    simp only [State.dropContexts, State.dropResidues, State.port_modPort_self]
    exact (s.vacated_removeLinks p .cableOut).dropResidues.dropContexts
  rw [State.modPort_modPort]
  generalize ht : (u.modPort p fun q => { q.abandon with desc := none, fault := none, accepted := false }) = t
  have k2 : u.PortActs t p := ht ▸ u.portActs_modPort p
    (fun h => by simp only [PortUnit.abandon_eq]; cases h <;> rfl) (by simp only [PortUnit.abandon_eq]; exact id)
  have htp : t.port p = { (u.port p).abandon with desc := none, fault := none, accepted := false } := by
    rw [← ht, State.port_modPort_self]
  obtain ⟨H, W, he⟩ := t.port_portTo p .empty .cableOut
  rw [htp, PortUnit.abandon_eq] at he
  refine State.sound_stopped ((k1.trans k2).trans (t.portActs_portTo p _ _)) hv (by rw [he])
    (fun h => by rw [he]; cases h <;> rfl) (by simp [he]) (by simp [he]) fun hr => ?_
  obtain ⟨-, f2, -, f4, -⟩ := PortUnit.fields_of_bare hv.bare
  obtain ⟨g1, -, g3, -⟩ := hr
  rw [he]
  simp_all [PortUnit.RecordOk, PortState.reads]

theorem State.sound_acceptPresence (s : State) (p : Port) (b : Bool) : s.Sound (s.acceptPresence p b) := by
  unfold State.acceptPresence
  dsimp only
  split
  · exact .refl s
  · split
    · split
      · next hs => exact State.sound_cableIn hs
      · exact .refl s
    · split
      · exact .refl s
      · next hs => exact State.sound_cableOut fun c => hs (.inl c)

theorem State.sound_sample (hs : (s.port p).state ≠ .off) : s.Sound (s.sample p) := by
  have hc : ∀ n, n ≤ 1 → s.Sound (s.modPort p fun q => { q with debounceCount := n }) := fun n hn =>
    State.sound_record rfl (fun h => by cases h <;> rfl) rfl rfl id fun hr => by
      obtain ⟨h1, h2, -, -, h5⟩ := hr
      exact ⟨h1, h2, hn, fun c => absurd c hs, h5⟩
  unfold State.sample
  dsimp only
  split
  · exact hc 0 (by decide)
  · split
    · exact hc 1 le_rfl
    · exact (hc 0 (by decide)).trans (State.sound_acceptPresence _ p _)

theorem State.sound_newDebounce (s : State) (p : Port) : s.Sound (s.newDebounce p) := by
  unfold State.newDebounce
  dsimp only
  have h1 := s.sound_debounce p (n := 0) (by decide) (.inl rfl) s.uptime
  split
  · exact h1.trans (State.sound_acceptPresence _ p _)
  · exact h1
end

end Sys2Proof.Machine

/-! SUPPORT and PROOF. The descriptor read, the entry to SURVEY, its end, and the commands of a port carry the
invariants over (R5 to R7, R11 to R13, R49, R57 to R61). -/

namespace Sys2Proof.Machine

open Sys2Proof

set_option Elab.async false

section
variable {s t u : State} {p : Port} {h : Half}

/-! ### The descriptor read -/

theorem State.sound_readFailed (hs : (s.port p).state = .seating) (reason : Reason) : s.Sound (s.readFailed p reason) := by
  unfold State.readFailed
  refine State.Sound.trans ?_ (State.sound_post _ _ _ _)
  generalize hu : (s.modPort p fun q => { q with fault := some reason, readAttempt := 0 }) = u
  have k1 : s.PortActs u p := hu ▸ s.portActs_modPort p (fun h => by cases h <;> rfl) id
  have hup : u.port p = { s.port p with fault := some reason, readAttempt := 0 } := by rw [← hu, State.port_modPort_self]
  obtain ⟨H, W, he⟩ := u.port_portTo p .cableFault reason
  rw [hup] at he
  refine State.sound_idle (k1.trans (u.portActs_portTo p _ _)) (by simp [hs]) (by simp [hs]) (by simp [he]) (by simp [he])
    (fun h => by rw [he]; cases h <;> rfl) (fun i => by rw [he]; rfl) fun hr => ?_
  obtain ⟨h1, h2, h3, h4, h5, h6, h7, h8, h9, h10, h11⟩ := hr
  rw [he]
  simp_all [PortUnit.RecordOk, PortState.reads]

theorem State.sound_attemptFailed (hs : (s.port p).state = .seating) (reason : Reason) :
    s.Sound (s.attemptFailed p reason) := by
  unfold State.attemptFailed
  split
  · next hlt =>
    refine State.sound_record rfl (fun h => by cases h <;> rfl) rfl rfl id fun hr => ?_
    obtain ⟨h1, h2, h3, h4, h5, h6, h7, h8, h9, h10, h11⟩ := hr
    exact ⟨h1, h2, h3, h4, h5, h6, h7, hlt, ⟨fun _ => hs, fun _ => Nat.le_add_left ..⟩, h10, h11⟩
  · exact State.sound_readFailed hs reason

/-! ### The entry to SURVEY -/

/-- What a port is when it enters SURVEY. -/
structure PortUnit.MaySurvey (q : PortUnit) : Prop where
  enabled : q.enabled = true
  accepted : q.accepted = true
  debounce : q.debounceCount ≤ 1
  desc : q.desc.isSome = true
  descOk : q.desc.all Descriptor.Ok = true
  fault : q.fault = none
  read : q.readAttempt = 0
  link : ∀ h, (q.pos h).link = none
  sends : ∀ i, (q.lane i).txMark.isSome = true → q.inSpan i = true

/-- The port after its entry to SURVEY. -/
theorem State.port_enterSurvey (s : State) (p : Port) (cause : Reason) : ∃ H W,
    (s.enterSurvey p cause).port p =
      { ({ s.port p with state := .survey, history := H, wrapped := W } : PortUnit).clearForSurvey with
        windowTimer := s.timer s.timing.window, settleTimer := s.timer 20 } := by
  obtain ⟨H, W, he⟩ := s.port_portTo p .survey cause
  refine ⟨H, W, ?_⟩
  rw [State.enterSurvey, State.startSurveyTimers, State.port_modPort_self, State.port_modPort_self, he]
  rfl

theorem PortUnit.clearForSurvey_eq (q : PortUnit) : q.clearForSurvey = { q with lanes := q.clearForSurvey.lanes } := rfl

theorem PortUnit.lane_clearForSurvey (q : PortUnit) (i : Lane) : q.clearForSurvey.lane i =
    q.clearLane (if q.inSpan i && (q.lane i).signal then .signal else .quiet) (q.lane i) := q.lane_mapLanes _ i

theorem State.portActs_startSurveyTimers (s : State) (p : Port) : s.PortActs (s.startSurveyTimers p) p :=
  s.portActs_modPort p (fun h => by cases h <;> rfl) id

theorem State.portActs_enterSurvey (s : State) (p : Port) (cause : Reason) : s.PortActs (s.enterSurvey p cause) p :=
  ((s.portActs_portTo p .survey cause).trans (State.portActs_modPort _ p
    (fun h => congrArg Position.link (PortUnit.pos_mapLanes _ _ h)) id)).trans (State.portActs_startSurveyTimers _ p)

theorem RxRecord.ok_signal : ({ status := .signal } : RxRecord).Ok := by decide

/-- R57: a port that may survey surveys in order. -/
theorem State.sound_enterSurvey (k : s.PortActs u p) (cause : Reason)
    (hm : (s.port p).Good s.mode → s.mode = .active ∧ (u.port p).MaySurvey)
    (hf : (s.port p).Good s.mode → (s.port p).Fit s.timing.maxAttempts → ∀ h x, ((u.port p).pos h).residue = some x →
      1 ≤ x ∧ x ≤ 127) : s.Sound (u.enterSurvey p cause) := by
  obtain ⟨H, W, he⟩ := u.port_enterSurvey p cause
  have hpos : ∀ h, ((u.enterSurvey p cause).port p).pos h = (u.port p).pos h := fun h => by
    rw [he, PortUnit.clearForSurvey_eq]; cases h <;> rfl
  have hlane : ∀ i, ((u.enterSurvey p cause).port p).lane i = (u.port p).clearLane
      (if (u.port p).inSpan i && ((u.port p).lane i).signal then .signal else .quiet) ((u.port p).lane i) := fun i => by
    rw [he]; exact PortUnit.lane_clearForSurvey _ i
  have hproc : s.mode = .active → ∀ i, ((u.enterSurvey p cause).port p).processedIn s.mode i = (u.port p).inSpan i := by
    intro hmode i
    rw [he, hmode, PortUnit.clearForSurvey_eq]
    simp [PortUnit.processedIn, PortUnit.inSpan]
  refine (k.trans (u.portActs_enterSurvey p cause)).sound (fun hg => ?_) (fun hg _ i => ?_) fun hg hfit => ⟨fun h => ?_, fun i => ?_⟩
  · obtain ⟨hmode, m⟩ := hm hg
    refine ⟨⟨?_, fun c => (by rw [hmode] at c; cases c), fun i c => ?_⟩, ?_⟩
    · obtain ⟨m1, m2, m3, m4, m5, m6, m7, -⟩ := m
      rw [he, PortUnit.clearForSurvey_eq]
      simp [PortUnit.RecordOk, PortState.reads, State.timer, m1, m2, m3, m4, m5, m6, m7]
    · rw [hproc hmode]
      rw [hlane] at c
      exact m.sends i c
    · have hA : ((u.enterSurvey p cause).port p).posA.link = none := (congrArg Position.link (hpos .A)).trans (m.link .A)
      have hB : ((u.enterSurvey p cause).port p).posB.link = none := (congrArg Position.link (hpos .B)).trans (m.link .B)
      have hst : ((u.enterSurvey p cause).port p).state = .survey := by rw [he, PortUnit.clearForSurvey_eq]
      simp [PortUnit.LinksOk, hA, hB, hst]
  · rw [hlane, hproc (hm hg).1]
    refine ⟨?_, rfl, fun c => ?_⟩
    · dsimp only [PortUnit.clearLane, PortUnit.clearLinkPart]
      split
      · exact RxRecord.ok_signal
      · exact RxRecord.ok_cleared
    · simp [PortUnit.clearLane, PortUnit.clearLinkPart, c]
  · obtain ⟨-, m⟩ := hm hg
    refine (Position.inRange_iff ..).mpr ⟨fun l c => ?_, fun x c => hf hg hfit h x (hpos h ▸ c)⟩
    rw [hpos h, m.link h] at c; cases c
  · rw [hlane]; exact Nat.zero_le _

/-- The residues of a port without links are those of its positions. -/
theorem PortUnit.Fit.residue {q : PortUnit} {max : Nat} (hf : q.Fit max) {h : Half} {x : Nat} (hx : (q.pos h).residue = some x) :
    1 ≤ x ∧ x ≤ 127 := ((Position.inRange_iff ..).mp (hf.pos h)).2 x hx

/-- R6: contents that read as a descriptor give one in order. -/
theorem Descriptor.ok_of_descriptorOf {b0 b1 b2 b3 : Byte} {d : Descriptor} (hd : descriptorOf b0 b1 b2 b3 = some d) :
    d.Ok = true := by
  obtain ⟨-, hl, -, hs, -⟩ := (descriptorOf_eq_some b0 b1 b2 b3 d).mp hd
  obtain ⟨hmem, -⟩ := (storedLanes_eq_some _ _).mp hl
  cases hf : d.form <;> simp_all [Descriptor.Ok]

theorem State.sound_readGood (hs : (s.port p).state = .seating) {d : Descriptor} (hd : d.Ok = true) : s.Sound (s.readGood p d) := by
  unfold State.readGood
  dsimp only
  generalize hu : (s.modPort p fun q => { q with desc := some d, readAttempt := 0 }) = u
  have k1 : s.PortActs u p := hu ▸ s.portActs_modPort p (fun h => by cases h <;> rfl) id
  have hup : u.port p = { s.port p with desc := some d, readAttempt := 0 } := by rw [← hu, State.port_modPort_self]
  split
  · obtain ⟨H, W, he⟩ := u.port_portTo p .seated .readGood
    rw [hup] at he
    refine State.sound_idle (k1.trans (u.portActs_portTo p _ _)) (by simp [hs]) (by simp [hs]) (by simp [he]) (by simp [he])
      (fun h => by rw [he]; cases h <;> rfl) (fun i => by rw [he]; rfl) fun hr => ?_
    obtain ⟨h1, h2, h3, h4, h5, h6, h7, h8, h9, h10, h11⟩ := hr
    rw [he]
    simp_all [PortUnit.RecordOk, PortState.reads]
  · next hmode =>
    refine State.sound_enterSurvey k1 _ (fun hg => ⟨hmode, ?_⟩) fun _ hf h x c => hf.residue (h := h) ?_
    · obtain ⟨h1, h2, h3, h4, h5, h6, h7, h8, h9, h10, h11⟩ := hg.record
      rw [hup]
      refine ⟨by simpa [hs] using h1, by simpa [hs] using h2, h3, rfl, hd, by simpa [hs] using h7, rfl, fun h => ?_, fun i c => ?_⟩
      · rw [show ∀ h, PortUnit.pos _ h = (s.port p).pos h from fun h => by cases h <;> rfl]
        exact hg.no_link (by simp [hs]) h
      · have := hg.silent (by simp [hs]) (by simp [hs]) i
        simp [PortUnit.lane] at this c
        simp [this] at c
    · rw [hup] at c; cases h <;> exact c

/-! ### PORT_ON, PORT_OFF and RESURVEY -/

theorem State.sound_portOn (s : State) (p : Port) : s.Sound (s.portOn p) := by
  unfold State.portOn
  split
  · next hs =>
    generalize hu : (s.modPort p fun q => { q with enabled := true, accepted := false, debounceCount := 0 }) = u
    have k1 : s.PortActs u p := hu ▸ s.portActs_modPort p (fun h => by cases h <;> rfl) id
    have hup : u.port p = { s.port p with enabled := true, accepted := false, debounceCount := 0 } := by
      rw [← hu, State.port_modPort_self]
    obtain ⟨H, W, he⟩ := u.port_portTo p .empty .portOn
    rw [hup] at he
    refine State.sound_idle (k1.trans (u.portActs_portTo p _ _)) (by simp [hs]) (by simp [hs]) (by simp [he]) (by simp [he])
      (fun h => by rw [he]; cases h <;> rfl) (fun i => by rw [he]; rfl) fun hr => ?_
    obtain ⟨h1, h2, h3, h4, h5, h6, h7, h8, h9, h10, h11⟩ := hr
    rw [he]
    simp_all [PortUnit.RecordOk, PortState.reads]
  · exact .refl s

/-- A change of records outside the ports, the queue and the histories. -/
theorem State.sound_of_ports (hp : t.ports = s.ports) (hm : t.mode = s.mode) (ht : t.timing = s.timing)
    (hq : s.QueueOk → t.QueueOk) (hr : s.RestKept t) : s.Sound t := by
  have hport : ∀ p, t.port p = s.port p := fun p => by unfold State.port; rw [hp]
  have hlink : ∀ p h, t.link p h = s.link p h := fun p h => by simp only [State.link, State.pos, hport]
  refine ⟨hq, fun hh p => by rw [hport]; exact hh p, hr.line, hr.settings, hr.locate, hr.event, fun hl p => ?_,
    fun hd a b a' b' f hc hc' => ?_, fun hs => ?_, fun _ hs => ?_, fun _ _ hs => ?_, hr.pending⟩
  · rw [hport]; exact hl p
  · simp only [State.claims, hlink] at hc hc'
    exact hd a b a' b' f hc hc'
  · rw [State.portsOk_iff] at hs ⊢; rw [hm]; intro p; rw [hport]; exact hs p
  · rw [State.lanesOk_iff] at hs ⊢; rw [hm]; intro p; rw [hport]; exact hs p
  · rw [State.rangesOk_iff] at hs ⊢; rw [ht]; intro p; rw [hport]; exact hs p

theorem State.sound_unname (s : State) (p : Port) : s.Sound (s.unname p) :=
  State.sound_of_ports rfl rfl rfl id ⟨id, id, fun hl c => by
    unfold State.unname at c ⊢
    dsimp only at c ⊢
    split at c
    · cases c
    · next hn => rw [if_neg hn]; exact hl c, id, rfl⟩

theorem State.sound_portOff (s : State) (p : Port) : s.Sound (s.portOff p) := by
  unfold State.portOff
  split
  · exact s.sound_unname p
  · next hs =>
    refine State.Sound.trans ?_ (State.sound_unname _ p)
    generalize hu : (s.removeLinks p .portOff).dropResidues p = u
    have k1 : s.PortActs u p := hu ▸ (s.portActs_removeLinks p _).trans (State.portActs_dropResidues _ p)
    have hv : (s.port p).Vacated (u.port p) := by
      rw [← hu]
      simp only [State.dropResidues, State.port_modPort_self]
      exact (s.vacated_removeLinks p .portOff).dropResidues
    rw [State.modPort_modPort]
    generalize ht : (u.modPort p fun q =>
      { q.abandon with desc := none, fault := none, accepted := false, debounceCount := 0, enabled := false }) = t
    have k2 : u.PortActs t p := ht ▸ u.portActs_modPort p
      (fun h => by simp only [PortUnit.abandon_eq]; cases h <;> rfl) (by simp only [PortUnit.abandon_eq]; exact id)
    have htp : t.port p =
        { (u.port p).abandon with desc := none, fault := none, accepted := false, debounceCount := 0, enabled := false } := by
      rw [← ht, State.port_modPort_self]
    obtain ⟨H, W, he⟩ := t.port_portTo p .off .portOff
    rw [htp, PortUnit.abandon_eq] at he
    refine State.sound_stopped ((k1.trans k2).trans (t.portActs_portTo p _ _)) hv (by rw [he])
      (fun h => by rw [he]; cases h <;> rfl) (by simp [he]) (by simp [he]) fun _ => ?_
    rw [he]
    simp [PortUnit.RecordOk, PortState.reads]

/-- A port that was ASSIGNED may survey again once its links are gone. -/
theorem PortUnit.Vacated.maySurvey {q r : PortUnit} {m : Mode} (v : q.Vacated r) (hg : q.Good m) (hs : q.state = .assigned) :
    m = .active ∧ r.MaySurvey := by
  obtain ⟨f1, f2, f3, f4, f5, f6, f7, -⟩ := PortUnit.fields_of_bare v.bare
  obtain ⟨h1, h2, h3, h4, h5, h6, h7, h8, h9, h10, h11⟩ := hg.record
  refine ⟨?_, by simp_all, by simp_all, f4 ▸ h3, by simp_all [PortState.reads], f5 ▸ h6, by simp_all, by simp_all,
    v.link, fun i c => ?_⟩
  · cases m
    · exact absurd hs (hg.mode rfl).2
    · rfl
  · have h3 : (r.lane i).txMark = (q.lane i).txMark :=
      show (r.lane i).bare.txMark = (q.lane i).bare.txMark from congrArg LaneUnit.txMark (PortUnit.bare_lane v.bare i)
    rw [h3] at c
    have := hg.silence i c
    unfold PortUnit.processedIn at this
    unfold PortUnit.inSpan at this ⊢
    rw [f5]
    simp only [Bool.and_eq_true] at this
    exact this.2

theorem State.sound_resurvey (s : State) (p : Port) : s.Sound (s.resurvey p) := by
  unfold State.resurvey
  split
  · next hs =>
    refine State.sound_record rfl (fun h => by cases h <;> rfl) rfl rfl id fun hr => ?_
    obtain ⟨h1, h2, h3, h4, h5, h6, h7, h8, h9, h10, h11⟩ := hr
    exact ⟨h1, h2, h3, h4, h5, h6, h7, h8, h9, iff_of_true rfl hs, fun _ => hs⟩
  · next hs =>
    have hv : (s.port p).Vacated (((s.removeLinks p .resurvey).dropContexts p).port p) := by
      rw [State.dropContexts, State.port_modPort_self]
      exact (s.vacated_removeLinks p .resurvey).dropContexts
    exact State.sound_enterSurvey ((s.portActs_removeLinks p _).trans (State.portActs_dropContexts _ p)) _
      (fun hg => hv.maySurvey hg hs) fun _ hf h x c => hf.residue (hv.residue h x c)
  · next hs =>
    generalize hu : (s.modPort p fun q => { q with fault := none, readAttempt := 1 }) = u
    have k1 : s.PortActs u p := hu ▸ s.portActs_modPort p (fun h => by cases h <;> rfl) id
    have hup : u.port p = { s.port p with fault := none, readAttempt := 1 } := by rw [← hu, State.port_modPort_self]
    obtain ⟨H, W, he⟩ := u.port_portTo p .seating .resurvey
    rw [hup] at he
    refine State.sound_idle (k1.trans (u.portActs_portTo p _ _)) (by simp [hs]) (by simp [hs]) (by simp [he]) (by simp [he])
      (fun h => by rw [he]; cases h <;> rfl) (fun i => by rw [he]; rfl) fun hr => ?_
    obtain ⟨h1, h2, h3, h4, h5, h6, h7, h8, h9, h10, h11⟩ := hr
    rw [he]
    simp_all [PortUnit.RecordOk, PortState.reads]
  all_goals exact .refl s

/-! ### The effect of a plan edit -/

theorem State.sound_inEvent {f : State → State} (hf : s.event.Sound (f s.event)) : s.Sound (s.inEvent f) where
  queue := hf.queue
  histories := hf.histories
  line := hf.line
  settings := hf.settings
  locate := hf.locate
  event := id
  links := hf.links
  apart := hf.apart
  ports := hf.ports
  lanes := hf.lanes
  ranges := hf.ranges
  pending := hf.pending

theorem State.sound_edit (s : State) (p : Port) (entry : Option PlanEntry) :
    s.Sound ((s.dropContexts p).modPort p fun q => { q with plan := entry }) := by
  rw [State.dropContexts, State.modPort_modPort]
  refine (s.portActs_modPort p (fun h => by cases h <;> rfl) id).sound (fun hg => ?_) (fun _ hc => ?_) fun _ hf => ?_
  all_goals rw [State.port_modPort_self]
  · exact ⟨⟨hg.record, hg.mode, hg.silence⟩, hg.links⟩
  · exact hc
  · exact ⟨fun | .A => hf.pos .A | .B => hf.pos .B, hf.delay⟩

theorem State.sound_reevaluate (s : State) (p : Port) (h : Half) : s.Sound (s.reevaluate p h) :=
  (s.keeps_reevaluate p h).sound fun hn => by rw [State.reevaluate, State.withLink_of_none hn]; exact hn

theorem State.sound_editPlan (s : State) (p : Port) (entry : Option PlanEntry) : s.Sound (s.editPlan p entry) := by
  unfold State.editPlan
  dsimp only
  have h1 := s.sound_edit p entry
  split
  · exact h1
  · next hs =>
    have hst : (((s.dropContexts p).modPort p fun q => { q with plan := entry }).port p).state = .assigned := by
      rw [State.dropContexts, State.modPort_modPort, State.port_modPort_self]; exact not_not.mp hs
    generalize ((s.dropContexts p).modPort p fun q => { q with plan := entry }) = t at h1 hst ⊢
    split
    · refine h1.trans ?_
      have hv := t.vacated_removeLinks p .planChange
      exact State.sound_enterSurvey (t.portActs_removeLinks p _) _ (fun hg => hv.maySurvey hg hst)
        fun _ hf h x c => hf.residue (hv.residue h x c)
    · exact h1.trans (State.sound_inEvent ((State.sound_reevaluate _ p .A).trans (State.sound_reevaluate _ p .B)))

/-! ### The end of the survey -/

theorem State.isSome_startTest (hl : (s.link p h).isSome = true) : ((s.startTest p h).link p h).isSome = true :=
  (s.keeps_startTest p h).stays hl

/-- R61: a created link is there. -/
theorem State.isSome_createLink (s : State) (p : Port) (h : Half) : ((s.createLink p h).link p h).isSome = true := by
  unfold State.createLink State.giveVerdict
  dsimp only
  split
  · rw [State.link_postLink, State.link_moveLink]; rfl
  · split
    · split
      · rw [State.link_postLink, State.link_moveLink]; rfl
      · refine State.isSome_startTest ?_
        rw [State.link_postLink, State.link_moveLink]; rfl
    · rw [State.enterIsolated, State.link_postLink, State.link_postLink, State.link_moveLink]; rfl

/-- A port whose record is in order but for its links, which then are created. -/
theorem State.sound_assign {b c : State} (k : s.PortActs t p) (kA : t.Keeps b p .A) (kB : b.Keeps c p .B)
    (hg : (s.port p).Good s.mode → (t.port p).Plain s.mode ∧ (c.port p).LinksOk)
    (hc : (s.port p).Good s.mode → (s.port p).Clean s.mode → (t.port p).Clean s.mode)
    (hf : (s.port p).Good s.mode → (s.port p).Fit s.timing.maxAttempts → (t.port p).Fit s.timing.maxAttempts) : s.Sound c := by
  have hrest := (State.restKept_of_rest k.rest).trans
    ((State.restKept_of_rest (State.rest_of_bare kA.others.bare)).trans
      (State.restKept_of_rest (State.rest_of_bare kB.others.bare)))
  have hmode : c.mode = s.mode := (State.mode_of_bare kB.others.bare).trans
    ((State.mode_of_bare kA.others.bare).trans (State.mode_of_rest k.rest))
  have hbare : ∀ p', (c.port p').bare = (t.port p').bare := fun p' =>
    (State.bare_port kB.others.bare p').trans (State.bare_port kA.others.bare p')
  refine ⟨kB.queue ∘ kA.queue ∘ k.queue, kB.histories ∘ kA.histories ∘ k.histories, hrest.line, hrest.settings,
    hrest.locate, hrest.event, kB.linksOk ∘ kA.linksOk ∘ k.linksOk, kB.apart ∘ kA.apart ∘ k.apart, fun hp => ?_,
    fun hp hl => ?_, fun hp hs hr => ?_, hrest.pending⟩
  · rw [State.portsOk_iff] at hp ⊢
    rw [hmode]
    intro p'
    by_cases hn : p' = p
    · subst hn
      obtain ⟨h1, h2⟩ := hg (hp p')
      exact ⟨h1.of_bare (hbare p'), h2⟩
    · refine (k.good hp hn).of_bare (hbare p') fun h => ?_
      exact (kB.others.positions p' h fun e => hn e.1).isSome.trans (kA.others.positions p' h fun e => hn e.1).isSome
  · rw [State.lanesOk_iff] at hl ⊢
    rw [hmode]
    intro p'
    refine PortUnit.Clean.of_bare ?_ (hbare p')
    by_cases hn : p' = p
    · subst hn; exact hc ((State.portsOk_iff s).mp hp p') (hl p')
    · exact k.clean hl hn
  · have ht : t.RangesOk := by
      rw [State.rangesOk_iff] at hr ⊢
      rw [State.timing_of_rest k.rest]
      intro p'
      by_cases hn : p' = p
      · subst hn; exact hf ((State.portsOk_iff s).mp hp p') (hr p')
      · exact k.fit hr hn
    have h1 : 1 ≤ t.timing.maxAttempts := by rw [State.timing_of_rest k.rest]; exact hs.2.2.2.2.2.2.2.1
    have hd : (t.port p).desc.all Descriptor.Ok = true := (hg ((State.portsOk_iff s).mp hp p)).1.record.2.2.2.2.2.1
    refine kB.rangesOk ?_ ?_ (kA.rangesOk h1 hd ht)
    · rw [State.timing_of_bare kA.others.bare]; exact h1
    · rw [State.desc_of_bare kA.others.bare]; exact hd

theorem State.Keeps.withEvent {b c : State} (k : b.Keeps c p h) (e : Option Bool) :
    State.Keeps { b with eventLoss := e } { c with eventLoss := e } p h where
  others := ⟨congrArg (fun x : State => { x with eventLoss := e }) k.others.bare, k.others.positions, k.others.lanes,
    k.others.histories⟩
  queue := k.queue
  histories := k.histories
  stays := k.stays
  claim := k.claim
  range := k.range
  ok := k.ok

/-- The port as its survey ends, before it has links. -/
def PortUnit.assigned (q : PortUnit) : PortUnit := q.stopSurvey.mapLanes fun _ x => q.clearLinkPart x

theorem PortUnit.assigned_eq (q : PortUnit) :
    q.assigned = { q with windowTimer := none, settleTimer := none, lanes := q.assigned.lanes } := rfl

theorem PortUnit.lane_assigned (q : PortUnit) (i : Lane) : q.assigned.lane i = q.clearLinkPart (q.lane i) :=
  q.stopSurvey.lane_mapLanes _ i

theorem PortUnit.pos_assigned (q : PortUnit) (h : Half) : q.assigned.pos h = q.pos h :=
  (PortUnit.pos_mapLanes _ _ h).trans (by cases h <;> rfl)

theorem State.endSurvey_eq (s : State) (p : Port) : s.endSurvey p =
    (((s.portTo p .assigned .surveyEnd).modPort p PortUnit.assigned).inEvent fun u =>
      if (s.port p).isSplit then (u.createLink p .A).createLink p .B else u.createLink p .A) := rfl

theorem State.sound_endSurvey (hs : (s.port p).state = .survey) : s.Sound (s.endSurvey p) := by
  rw [State.endSurvey_eq]
  generalize ht : (s.portTo p .assigned .surveyEnd).modPort p PortUnit.assigned = t
  have k : s.PortActs t p := ht ▸ (s.portActs_portTo p .assigned .surveyEnd).trans (State.portActs_modPort _ p
    (fun h => congrArg Position.link (PortUnit.pos_assigned _ h)) id)
  obtain ⟨H, W, he⟩ := s.port_portTo p .assigned .surveyEnd
  have hport : t.port p = ({ s.port p with state := .assigned, history := H, wrapped := W } : PortUnit).assigned := by
    rw [← ht, State.port_modPort_self, he]
  have hpos : ∀ h, (t.port p).pos h = (s.port p).pos h := fun h => by
    rw [hport, PortUnit.pos_assigned]; cases h <;> rfl
  have hlane : ∀ i, (t.port p).lane i = (s.port p).clearLinkPart ((s.port p).lane i) := fun i => by
    rw [hport, PortUnit.lane_assigned]; rfl
  have hproc : ∀ i, (t.port p).processedIn s.mode i = (s.port p).processedIn s.mode i := fun i => by
    rw [hport, PortUnit.assigned_eq]
    simp [PortUnit.processedIn, PortUnit.inSpan, hs]
  have hplain : (s.port p).Good s.mode → (t.port p).Plain s.mode := fun hg => by
    refine ⟨?_, fun c => absurd hs (hg.mode c).1, fun i c => ?_⟩
    · obtain ⟨h1, h2, h3, h4, h5, h6, h7, h8, h9, h10, h11⟩ := hg.record
      rw [hport, PortUnit.assigned_eq]
      simp_all [PortUnit.RecordOk, PortState.reads]
    · rw [hproc]
      rw [hlane] at c
      exact hg.silence i c
  have hclean : (s.port p).Good s.mode → (s.port p).Clean s.mode → (t.port p).Clean s.mode := fun _ hc i => by
    rw [hproc, hlane]; exact hc i
  have hfit : (s.port p).Good s.mode → (s.port p).Fit s.timing.maxAttempts → (t.port p).Fit s.timing.maxAttempts :=
    fun hg hf => PortUnit.fit_of_no_link (fun h => by rw [hpos]; exact hg.no_link (by simp [hs]) h) hf
      (fun h x c => by rw [← hpos h]; exact c) fun i => by rw [hlane]; exact Nat.zero_le _
  have hst : (t.port p).state = .assigned := by rw [hport, PortUnit.assigned_eq]
  have hsplit : (t.port p).isSplit = (s.port p).isSplit := by rw [hport, PortUnit.assigned_eq]; rfl
  have kA := (State.keeps_createLink t.event p .A).withEvent t.eventLoss
  have hA := State.isSome_createLink t.event p .A
  have hB : ((t.event.createLink p .A).link p .B).isSome = ((s.port p).pos .B).link.isSome := by
    rw [← hpos .B]; exact (kA.others.positions p .B (by simp)).isSome
  have hlinks : ∀ {c : State}, (c.port p).bare = (t.port p).bare → (c.link p .A).isSome = true →
      ((c.link p .B).isSome = true ↔ (s.port p).isSplit = true) → (c.port p).LinksOk := fun {c} hb h1 h2 => by
    have e1 : (c.port p).state = .assigned := (PortUnit.state_of_bare hb).trans hst
    have e2 : (c.port p).isSplit = (s.port p).isSplit := by
      rw [← hsplit]; unfold PortUnit.isSplit; rw [PortUnit.desc_of_bare hb]
    exact ⟨iff_of_true h1 e1, by rw [e2]; exact h2.trans (iff_and_self.mpr fun _ => e1 |> fun h => h)⟩
  by_cases hd : (s.port p).isSplit = true
  · have kB := (State.keeps_createLink (t.event.createLink p .A) p .B).withEvent t.eventLoss
    have hA' : (((t.event.createLink p .A).createLink p .B).link p .A).isSome = true :=
      (kB.others.positions p .A (by simp)).isSome.trans hA
    simp only [hd, if_true]
    refine State.sound_assign k kA kB (fun hg => ⟨hplain hg, hlinks ?_ hA' ?_⟩) hclean hfit
    · exact (State.bare_port kB.others.bare p).trans (State.bare_port kA.others.bare p)
    · exact iff_of_true (State.isSome_createLink _ p .B) hd
  · simp only [hd]
    refine State.sound_assign k kA (.refl _ p .B) (fun hg => ⟨hplain hg, hlinks ?_ hA ?_⟩) hclean hfit
    · exact State.bare_port kA.others.bare p
    · refine iff_of_false (fun c => ?_) hd
      have := hB.symm.trans c
      rw [hg.no_link (by simp [hs]) .B] at this
      cases this

end

end Sys2Proof.Machine

/-! SUPPORT and PROOF. Folds over the ports, and the commands that act on every port carry the invariants over: MODE,
TIMING, TAG, RESTART and full reset (R54, R157 to R162). -/

namespace Sys2Proof.Machine

open Sys2Proof

/-! ### Folds over the ports -/

/-- A fold over the ports, with the ports already passed. -/
theorem State.forPorts_progress {P : List Port → State → Prop} {s : State} {f : State → Port → State} (hs : P [] s)
    (hf : ∀ t p done, p ∉ done → P done t → P (p :: done) (f t p)) :
    ∃ done, (∀ p, p ∈ done) ∧ P done (s.forPorts f) := by
  suffices h : ∀ (todo done : List Port) (t : State), todo.Nodup → (∀ p ∈ todo, p ∉ done) → P done t →
      ∃ d, (∀ p, p ∈ done ∨ p ∈ todo → p ∈ d) ∧ P d (todo.foldl f t) by
    obtain ⟨d, hd, hp⟩ := h allPorts [] s nodup_allPorts (fun _ _ => List.not_mem_nil) hs
    exact ⟨d, fun p => hd p (.inr (mem_allPorts p)), hp⟩
  intro todo
  induction todo with
  | nil => exact fun done t _ _ h => ⟨done, fun p hp => hp.resolve_right List.not_mem_nil, h⟩
  | cons p todo ih =>
    intro done t hn hd h
    obtain ⟨hn1, hn2⟩ := List.nodup_cons.mp hn
    obtain ⟨d, h1, h2⟩ := ih (p :: done) (f t p) hn2 (fun x hx c => by
      rcases List.mem_cons.mp c with rfl | c
      · exact hn1 hx
      · exact hd x (List.mem_cons_of_mem _ hx) c) (hf t p done (hd p List.mem_cons_self) h)
    refine ⟨d, fun x hx => h1 x ?_, h2⟩
    rcases hx with hx | hx
    · exact .inl (List.mem_cons_of_mem _ hx)
    · rcases List.mem_cons.mp hx with rfl | hx
      · exact .inl List.mem_cons_self
      · exact .inr hx

/-- A fold of changes that each touch their own port. -/
theorem State.port_forPorts {E : State → Prop} {g : Port → PortUnit → PortUnit} {s : State} {f : State → Port → State}
    (hs : E s) (hf : ∀ t p, E t → E (f t p) ∧ (f t p).port p = g p (t.port p) ∧ ∀ q, q ≠ p → (f t p).port q = t.port q) :
    E (s.forPorts f) ∧ ∀ p, (s.forPorts f).port p = g p (s.port p) := by
  obtain ⟨d, hd, hE, hp⟩ := State.forPorts_progress (s := s) (f := f)
    (P := fun done t => E t ∧ ∀ p, t.port p = if p ∈ done then g p (s.port p) else s.port p) ⟨hs, fun p => by simp⟩
    fun t p done hn ⟨hE, hp⟩ => by
      obtain ⟨h1, h2, h3⟩ := hf t p hE
      refine ⟨h1, fun q => ?_⟩
      by_cases hq : q = p
      · subst hq; rw [h2, hp, if_neg hn, if_pos List.mem_cons_self]
      · rw [h3 q hq, hp]; simp [hq]
  exact ⟨hE, fun p => by rw [hp, if_pos (hd p)]⟩

theorem State.sound_forPorts {s : State} {f : State → Port → State} (hf : ∀ t p, State.Sound t (f t p)) : s.Sound (s.forPorts f) :=
  State.forPorts_induction (P := fun t => s.Sound t) (.refl s) fun t p h => h.trans (hf t p)

theorem State.sound_forPositions {s : State} {f : State → Port → Half → State} (hf : ∀ t p h, State.Sound t (f t p h)) :
    s.Sound (s.forPositions f) :=
  State.forPositions_induction (P := fun t => s.Sound t) (.refl s) fun t p h hs => hs.trans (hf t p h)

/-! ### TAG and TIMING -/

/-- R54: TAG re-evaluates links. -/
theorem State.sound_retagAll (s : State) (v : Byte) :
    s.Sound (({ s with planTag := v } : State).inEvent fun t => t.forPositions fun u p h => u.retag p h) := by
  have h1 : s.Sound { s with planTag := v } := State.sound_of_ports rfl rfl rfl id ⟨id, id, id, id, rfl⟩
  exact h1.trans (State.sound_inEvent (State.sound_forPositions fun t p h =>
    (t.keeps_retag p h).sound fun hn => by rw [State.retag, State.withLink_of_none hn]; exact hn))

/-- R159: timing values in range. -/
def Timing.Ok (t : Timing) : Prop :=
  100 ≤ t.window ∧ t.window ≤ 5000 ∧ t.window % 10 = 0 ∧ 20 ≤ t.timeout ∧ t.timeout ≤ 2000 ∧
    1 ≤ t.maxAttempts ∧ t.maxAttempts ≤ 7 ∧ 1 ≤ t.warning ∧ t.warning ≤ 127

theorem clamp_bounds {lo hi : Nat} (h : lo ≤ hi) (v : Nat) : lo ≤ clamp lo hi v ∧ clamp lo hi v ≤ hi := by
  unfold clamp
  split_ifs <;> omega

theorem Timing.ok_of_timingOf {v : RawTiming} {t : Timing} (h : timingOf v = some t) : t.Ok := by
  unfold timingOf at h
  split at h
  · obtain rfl := Option.some.inj h
    have hwindow := clamp_bounds (lo := 100) (hi := 5000) (by decide) v.window.toNat
    have htimeout := clamp_bounds (lo := 20) (hi := 2000) (by decide) v.timeout.toNat
    have hattempts := clamp_bounds (lo := 1) (hi := 7) (by decide) v.attempts.toNat
    have hwarning := clamp_bounds (lo := 1) (hi := 127) (by decide) v.warning.toNat
    refine ⟨?_, ?_, Nat.mul_mod_left .., htimeout.1, htimeout.2, hattempts.1, hattempts.2, hwarning.1, hwarning.2⟩
    · show 100 ≤ clamp 100 5000 v.window.toNat / 10 * 10
      omega
    · exact (Nat.div_mul_le_self ..).trans hwindow.2
  · cases h

/-- A change of the part that ends links and moves records outside the ports. -/
theorem State.sound_of_part {s t : State} (hr : s.RestKept t) (hq : s.QueueOk → t.QueueOk) (hh : s.HistoriesOk → t.HistoriesOk)
    (hl : ∀ p h, Lapses s.uptime (s.link p h) (t.link p h)) (hg : ∀ p, (s.port p).Good s.mode → (t.port p).Good t.mode)
    (hc : ∀ p, (s.port p).Good s.mode → (s.port p).Clean s.mode → (t.port p).Clean t.mode)
    (hf : ∀ p, (s.port p).Good s.mode → (s.port p).Fit s.timing.maxAttempts → (t.port p).Fit t.timing.maxAttempts) :
    s.Sound t := by
  refine ⟨hq, hh, hr.line, hr.settings, hr.locate, hr.event, fun hs => ?_, fun hs a b a' b' f c c' =>
    hs a b a' b' f (State.claims_of_lapses (hl a b) c) (State.claims_of_lapses (hl a' b') c'), fun hs => ?_,
    fun hp hs => ?_, fun hp _ hs => ?_, hr.pending⟩
  · rw [State.linksOk_iff] at hs ⊢
    exact fun p h => State.linkOk_of_lapses (hl p h) (hs p h)
  · rw [State.portsOk_iff] at hs ⊢; exact fun p => hg p (hs p)
  · rw [State.portsOk_iff] at hp; rw [State.lanesOk_iff] at hs ⊢; exact fun p => hc p (hp p) (hs p)
  · rw [State.portsOk_iff] at hp; rw [State.rangesOk_iff] at hs ⊢; exact fun p => hf p (hp p) (hs p)

/-- R156: a port in SETUP mode has no link. -/
theorem PortUnit.Good.no_link_setup {q : PortUnit} (hq : q.Good .setup) (h : Half) : (q.pos h).link = none :=
  hq.no_link (hq.mode rfl).2 h

theorem State.sound_timing {s : State} (hm : s.mode = .setup) {t : Timing} (ht : t.Ok) : s.Sound { s with timing := t } := by
  refine State.sound_of_part ⟨id, fun hs => ?_, id, id, rfl⟩ id id (fun p h => .inl rfl) (fun p hg => hg) (fun p _ hc => hc)
    fun p hg hf => ?_
  · obtain ⟨h1, h2, -, -, -, -, -, -, -, -, -, h3⟩ := hs
    obtain ⟨t1, t2, t3, t4, t5, t6, t7, t8, t9⟩ := ht
    exact ⟨h1, h2, t1, t2, t3, t4, t5, t6, t7, t8, t9, h3⟩
  · rw [hm] at hg
    refine ⟨fun h => (Position.inRange_iff ..).mpr ⟨fun l c => ?_, fun x c => hf.residue c⟩, hf.delay⟩
    have : ((s.port p).pos h).link = some l := c
    rw [hg.no_link_setup h] at this
    cases this

theorem State.sound_setTiming {s : State} (hm : s.mode = .setup) {t : Timing} (ht : t.Ok) : s.Sound (s.setTiming t) := by
  unfold State.setTiming
  dsimp only
  have h1 := State.sound_timing hm ht
  split
  · exact h1
  · exact h1.trans (State.sound_inEvent (State.sound_forPorts fun w p => w.sound_newDebounce p))

/-! ### MODE ACTIVE -/

theorem State.sound_modeActive {s : State} (hm : s.mode = .setup) (hc : s.chassis ≠ 0) : s.Sound { s with mode := .active } := by
  have hproc : ∀ p, (s.port p).Good s.mode → ∀ i, (s.port p).processedIn .active i = (s.port p).processedIn s.mode i := by
    intro p hg i
    rw [hm] at hg ⊢
    obtain ⟨h1, h2⟩ := hg.mode rfl
    rw [PortUnit.processedIn_of_state h1 h2, PortUnit.processedIn_of_state h1 h2]
  refine State.sound_of_part ⟨id, fun hs => ⟨hs.1, fun _ => hc, hs.2.2⟩, id, id, rfl⟩ id id (fun p h => .inl rfl) (fun p hg => ?_)
    (fun p hg hcl i => ?_) fun p _ hf => hf
  · exact ⟨⟨hg.record, fun c => (nomatch c), fun i c => (hproc p hg i).trans (hg.silence i c)⟩, hg.links⟩
  · refine ⟨(hcl i).1, (hcl i).2.1, fun c => (hcl i).2.2 ?_⟩
    rw [← hproc p hg]; exact c

theorem State.sound_activatePort {s : State} (hm : s.mode = .active) (p : Port) : s.Sound (s.activatePort p) := by
  unfold State.activatePort
  split
  · next hs =>
    refine State.sound_enterSurvey (.refl s p) _ (fun hg => ⟨hm, ?_⟩) fun _ hf h x c => hf.residue c
    obtain ⟨h1, h2, h3, h4, h5, h6, h7, h8, h9, h10, h11⟩ := hg.record
    refine ⟨by simp_all, by simp_all, h3, by simp_all [PortState.reads], h6, by simp_all, by simp_all,
      hg.no_link (by simp [hs]), fun i c => ?_⟩
    rw [hg.silent (by simp [hs]) (by simp [hs]) i] at c
    cases c
  · exact .refl s

theorem State.mode_activatePort (s : State) (p : Port) : (s.activatePort p).mode = s.mode := by
  unfold State.activatePort
  split
  · exact State.mode_of_rest (s.portActs_enterSurvey p _).rest
  · rfl

theorem State.sound_activate {s : State} (hm : s.mode = .setup) (hc : s.chassis ≠ 0) : s.Sound s.activate := by
  have h1 := State.sound_modeActive hm hc
  have h2 := State.forPorts_induction (s := { s with mode := .active }) (f := fun t p => t.activatePort p)
    (P := fun t => s.Sound t ∧ t.mode = .active) ⟨h1, rfl⟩
    fun t p ⟨h, hmode⟩ => ⟨h.trans (State.sound_activatePort hmode p), (t.mode_activatePort p).trans hmode⟩
  exact h2.1.trans (State.sound_post _ _ _ _)

/-! ### Removal at every port -/

/-- Links of the part lapse, and scores of ISOLATED ones may stay as residues (R140). -/
structure State.Lapsed (s t : State) : Prop where
  rest : t.rest = s.rest
  queue : s.QueueOk → t.QueueOk
  histories : s.HistoriesOk → t.HistoriesOk
  ports : ∀ p, (t.port p).bare = (s.port p).bare
  links : ∀ p h, Lapses s.uptime (s.link p h) (t.link p h)
  residues : ∀ p h x, (t.pos p h).residue = some x →
    (s.pos p h).residue = some x ∨ ∃ l, s.link p h = some l ∧ l.state = .isolated ∧ l.sup.score = x
  delays : ∀ p i, ((t.port p).lane i).delay ≤ ((s.port p).lane i).delay

theorem State.Lapsed.refl (s : State) : s.Lapsed s :=
  ⟨rfl, id, id, fun _ => rfl, fun _ _ => .inl rfl, fun _ _ _ => .inl, fun _ _ => le_rfl⟩

theorem State.Lapsed.trans {s t u : State} (h1 : s.Lapsed t) (h2 : t.Lapsed u) : s.Lapsed u where
  rest := h2.rest.trans h1.rest
  queue := h2.queue ∘ h1.queue
  histories := h2.histories ∘ h1.histories
  ports := fun p => (h2.ports p).trans (h1.ports p)
  links := fun p h => (h1.links p h).trans (State.uptime_of_rest h1.rest ▸ h2.links p h)
  residues := fun p h x c => by
    rcases h2.residues p h x c with c | ⟨l, hl, hs, hx⟩
    · exact h1.residues p h x c
    · rcases h1.links p h with e | ⟨k, -, -, e⟩ | e
      · exact .inr ⟨l, e ▸ hl, hs, hx⟩
      · rw [e] at hl
        obtain rfl := Option.some.inj hl
        cases hs
      · rw [e] at hl; cases hl
  delays := fun p i => (h2.delays p i).trans (h1.delays p i)

theorem State.lapsed_keepResidue (s : State) (p : Port) (h : Half) : s.Lapsed (s.keepResidue p h) := by
  unfold State.keepResidue
  cases hl : s.link p h with
  | none => rw [State.withLink_of_none hl]; exact .refl s
  | some l =>
    rw [State.withLink_of_link hl]
    split
    · next hs =>
      have hpos := fun p' h' => s.pos_modPos p p' h h' fun x => { x with residue := some l.sup.score }
      refine ⟨rfl, id, fun hh => hh.of_appended fun p' => ⟨[], s.appended_modPos p p' h _⟩,
        State.bare_port (s.others_setResidue p h (some l.sup.score)).bare, fun p' h' => .inl ?_, fun p' h' x c => ?_,
        fun p' i => le_of_eq (congrArg LaneUnit.delay (s.lane_modPos p p' h _ i))⟩
      · refine (congrArg Position.link (hpos p' h')).trans ?_
        split
        · next e => obtain ⟨rfl, rfl⟩ := e; rfl
        · rfl
      · replace c := (congrArg Position.residue (hpos p' h')).symm.trans c
        split at c
        · next e => obtain ⟨rfl, rfl⟩ := e; exact .inr ⟨l, hl, hs, Option.some.inj c⟩
        · exact .inl c
    · exact .refl s

theorem State.lapsed_removeLinks (s : State) (p : Port) (reason : Reason) : s.Lapsed (s.removeLinks p reason) := by
  have k := s.portActs_removeLinks p reason
  have v := s.vacated_removeLinks p reason
  refine ⟨k.rest, k.queue, k.histories, fun p' => ?_, k.lapses, fun p' h x c => .inl ?_, fun p' i => ?_⟩
  · by_cases hn : p' = p
    · subst hn; exact v.bare
    · exact k.ports p' hn
  · by_cases hn : p' = p
    · subst hn; exact v.residue h x c
    · rcases k.positions p' h hn with e | ⟨l, -, -, -, e⟩ <;> rw [e] at c <;> exact c
  · by_cases hn : p' = p
    · subst hn; exact v.delay i
    · rw [k.lanes p' i hn]

theorem State.lapsed_inEvent (s : State) {f : State → State} (hf : ∀ t, State.Lapsed t (f t) ∧ ∀ p h, (f t).link p h = none) :
    s.Lapsed (s.inEvent f) ∧ ∀ p h, (s.inEvent f).link p h = none := by
  obtain ⟨k, hn⟩ := hf s.event
  exact ⟨⟨congrArg (fun u : State => { u with eventLoss := s.eventLoss }) k.rest, k.queue, k.histories, k.ports, k.links,
    k.residues, k.delays⟩, hn⟩

/-- The removal of the links of every port. -/
theorem State.lapsed_removeAll (s : State) (reason : Reason) : s.Lapsed (s.forPorts fun t p => t.removeLinks p reason) ∧
    ∀ p h, (s.forPorts fun t p => t.removeLinks p reason).link p h = none := by
  obtain ⟨d, hd, k, hn⟩ := State.forPorts_progress (s := s) (f := fun t p => t.removeLinks p reason)
    (P := fun done t => s.Lapsed t ∧ ∀ p, p ∈ done → ∀ h, t.link p h = none) ⟨.refl s, by simp⟩
    fun t p done _ ⟨k, hn⟩ => by
      refine ⟨k.trans (t.lapsed_removeLinks p reason), fun q hq h => ?_⟩
      rcases List.mem_cons.mp hq with rfl | hq
      · exact t.link_removeLinks q reason h
      · have := (t.lapsed_removeLinks p reason).links q h
        rw [hn q hq h] at this
        exact this.none
  exact ⟨k, fun p h => hn p (hd p) h⟩

/-- What the removal at every port leaves of one: its bare record, no link, and residues and delays within range. -/
structure PortUnit.Emptied (max : Nat) (q r : PortUnit) : Prop where
  bare : r.bare = q.bare
  link : ∀ h, (r.pos h).link = none
  residue : q.Fit max → ∀ h x, (r.pos h).residue = some x → 1 ≤ x ∧ x ≤ 127
  delay : ∀ i, (r.lane i).delay ≤ (q.lane i).delay

theorem State.Lapsed.emptied {s t : State} (k : s.Lapsed t) (hn : ∀ p h, t.link p h = none) (p : Port) (max : Nat) :
    (s.port p).Emptied max (t.port p) where
  bare := k.ports p
  link := hn p
  residue := fun hf h x c => by
    rcases k.residues p h x c with c | ⟨l, hl, hs, rfl⟩
    · exact hf.residue c
    · exact (((Position.inRange_iff ..).mp (hf.pos h)).1 l hl).1 hs
  delay := k.delays p

section
variable {q r x : PortUnit} {max : Nat} {m m' : Mode}

/-- A port emptied and stopped is in order where its record is. -/
theorem PortUnit.Emptied.good (e : q.Emptied max r) (hl : x.lanes = r.silence.clearLanes.lanes)
    (hp : ∀ h, (x.pos h).link = (r.pos h).link) (h3 : x.state ≠ .survey) (h4 : x.state ≠ .assigned) (hr : x.RecordOk) :
    x.Good m' := by
  have hlane : ∀ i, x.lane i = r.silence.clearLanes.lane i := fun i => by simp only [PortUnit.lane, hl]
  exact PortUnit.good_of_idle hr h3 h4 (fun h => (hp h).trans (e.link h)) fun i => by rw [hlane]; exact (r.lane_stopped i).1

theorem PortUnit.clean_of_stopped (hl : x.lanes = r.silence.clearLanes.lanes) : x.Clean m' :=
  PortUnit.clean_of_cleared fun i => by
    rw [PortUnit.lane, hl]
    obtain ⟨-, e1, e2, -⟩ := r.lane_stopped i
    exact ⟨e1, e2⟩

/-- Its ranges, whatever becomes of its lanes. -/
theorem PortUnit.Emptied.fit (e : q.Emptied max r) (hf : q.Fit max) (hp : ∀ h, (x.pos h).link = (r.pos h).link)
    (hres : ∀ h y, (x.pos h).residue = some y → (r.pos h).residue = some y)
    (hd : ∀ i, (x.lane i).delay ≤ (r.lane i).delay) : x.Fit max := by
  refine ⟨fun h => (Position.inRange_iff ..).mpr ⟨fun l c => ?_, fun y c => e.residue hf h y (hres h y c)⟩,
    fun i => ((hd i).trans (e.delay i)).trans (hf.delay i)⟩
  rw [hp, e.link] at c; cases c

/-- A port that was idle stays in order where only its links and residues are gone. -/
theorem PortUnit.Emptied.good_idle (e : q.Emptied max r) (hg : q.Good m) (h1 : q.state ≠ .survey) (h2 : q.state ≠ .assigned)
    (hl : x.lanes = r.lanes) (hp : ∀ h, (x.pos h).link = (r.pos h).link) (hst : x.state = r.state) (hr : r.RecordOk → x.RecordOk) :
    x.Good m' := by
  have hplain := hg.toPlain.of_bare e.bare
  have hs := PortUnit.state_of_bare e.bare
  exact PortUnit.good_of_idle (hr hplain.record) (by rw [hst, hs]; exact h1) (by rw [hst, hs]; exact h2)
    (fun h => (hp h).trans (e.link h)) fun i => by
      rw [PortUnit.lane, hl]; exact hplain.silent (by rw [hs]; exact h1) (by rw [hs]; exact h2) i

theorem PortUnit.Emptied.clean_idle (e : q.Emptied max r) (hc : q.Clean m) (h1 : q.state ≠ .survey) (h2 : q.state ≠ .assigned)
    (hl : x.lanes = r.lanes) : x.Clean m' :=
  PortUnit.clean_of_cleared fun i => by
    have hs := PortUnit.state_of_bare e.bare
    rw [PortUnit.lane, hl]
    exact (hc.of_bare e.bare).cleared (by rw [hs]; exact h1) (by rw [hs]; exact h2) i
end

/-! ### MODE SETUP -/

/-- R158 step 3: a port seated. -/
theorem State.port_seatPort (s : State) (p : Port) : ((s.seatPort p).port p = s.port p ∧ (s.port p).state ≠ .survey ∧
      (s.port p).state ≠ .assigned) ∨
    (((s.port p).state = .survey ∨ (s.port p).state = .assigned) ∧ ∃ H W, (s.seatPort p).port p =
      { s.port p with lanes := (s.port p).silence.clearLanes.lanes, windowTimer := none, settleTimer := none, state := .seated,
                      history := H, wrapped := W }) := by
  unfold State.seatPort
  split
  · next hs =>
    obtain ⟨H, W, he⟩ := (s.modPort p fun q => q.silence.clearLanes.stopSurvey).port_portTo p .seated .modeSetup
    refine .inr ⟨hs, H, W, he.trans ?_⟩
    rw [State.port_modPort_self, PortUnit.stopSurvey, PortUnit.clearLanes, PortUnit.mapLanes_eq, PortUnit.silence,
      PortUnit.mapLanes_eq (s.port p)]
  · next hs => exact .inl ⟨rfl, fun c => hs (.inl c), fun c => hs (.inr c)⟩

/-- From `s` to `t` nothing but the record of port `p` changes, whose history stays in order. -/
structure State.OnlyPort (s t : State) (p : Port) : Prop where
  same : t = { s with ports := t.ports }
  ports : ∀ p', p' ≠ p → t.port p' = s.port p'
  history : (s.port p).HistoryOk → (t.port p).HistoryOk

theorem State.OnlyPort.refl (s : State) (p : Port) : s.OnlyPort s p := ⟨rfl, fun _ _ => rfl, id⟩

theorem State.OnlyPort.trans {s t u : State} {p : Port} (h1 : s.OnlyPort t p) (h2 : t.OnlyPort u p) : s.OnlyPort u p :=
  ⟨by rw [h2.same, h1.same], fun p' hn => (h2.ports p' hn).trans (h1.ports p' hn), h2.history ∘ h1.history⟩

theorem State.onlyPort_modPort (s : State) (p : Port) {f : PortUnit → PortUnit}
    (hh : (s.port p).HistoryOk → (f (s.port p)).HistoryOk) : s.OnlyPort (s.modPort p f) p :=
  ⟨rfl, fun p' hn => State.port_modPort_of_ne s f (Ne.symm hn), by rw [State.port_modPort_self]; exact hh⟩

theorem State.onlyPort_log (s : State) (p : Port) (c : Change) (r : Reason) : s.OnlyPort (s.log p c r) p :=
  s.onlyPort_modPort p fun hh => PortUnit.append_bounds _ hh

theorem State.onlyPort_portTo (s : State) (p : Port) (x : PortState) (r : Reason) : s.OnlyPort (s.portTo p x r) p :=
  (s.onlyPort_modPort p (f := fun q => { q with state := x }) id).trans
    (State.onlyPort_log _ p _ _)

/-- A fold of changes of one port each. -/
theorem State.forPorts_each {R : Port → PortUnit → PortUnit → Prop} {s : State} {f : State → Port → State}
    (hf : ∀ t p, t = { s with ports := t.ports } → State.OnlyPort t (f t p) p ∧ R p (t.port p) ((f t p).port p)) :
    s.forPorts f = { s with ports := (s.forPorts f).ports } ∧ (s.HistoriesOk → (s.forPorts f).HistoriesOk) ∧
      ∀ p, R p (s.port p) ((s.forPorts f).port p) := by
  obtain ⟨d, hd, h1, h2, hp⟩ := State.forPorts_progress (s := s) (f := f)
    (P := fun done t => t = { s with ports := t.ports } ∧ (s.HistoriesOk → t.HistoriesOk) ∧
      ∀ p, if p ∈ done then R p (s.port p) (t.port p) else t.port p = s.port p) ⟨rfl, id, fun p => by simp⟩
    fun t p done hn ⟨h1, h2, hp⟩ => by
      obtain ⟨k, hr⟩ := hf t p h1
      refine ⟨by rw [k.same, h1], fun hh q => ?_, fun q => ?_⟩
      · by_cases hq : q = p
        · subst hq; exact k.history (h2 hh q)
        · rw [k.ports q hq]; exact h2 hh q
      · have := hp q
        by_cases hq : q = p
        · subst hq
          rw [if_neg hn] at this
          rw [if_pos List.mem_cons_self, ← this]
          exact hr
        · rw [k.ports q hq]
          simpa [hq] using this
  exact ⟨h1, h2, fun p => by simpa [hd p] using hp p⟩

/-- What a port is after it is seated, or left as it was. -/
def PortUnit.Seats (q r : PortUnit) : Prop :=
  (r = q ∧ q.state ≠ .survey ∧ q.state ≠ .assigned) ∨
    ((q.state = .survey ∨ q.state = .assigned) ∧ ∃ H W, r =
      { q with lanes := q.silence.clearLanes.lanes, windowTimer := none, settleTimer := none, state := .seated, history := H,
               wrapped := W })

section
variable {q r x : PortUnit} {max : Nat} {m m' : Mode}

theorem PortUnit.Seats.pos (hs : r.Seats x) (h : Half) : x.pos h = r.pos h := by
  rcases hs with ⟨e, -⟩ | ⟨-, H, W, e⟩ <;> rw [e]
  cases h <;> rfl

theorem PortUnit.Seats.delay (hs : r.Seats x) (i : Lane) : (x.lane i).delay ≤ (r.lane i).delay := by
  rcases hs with ⟨e, -⟩ | ⟨-, H, W, e⟩
  · rw [e]
  · rw [e]
    exact le_of_eq_of_le (r.lane_stopped i).2.2.2.2 (Nat.zero_le _)

theorem PortUnit.Seats.good (hs : r.Seats x) (e : q.Emptied max r) (hg : q.Good m) : x.Good m' := by
  have hlink : ∀ h, (x.pos h).link = (r.pos h).link := fun h => by rw [hs.pos]
  rcases hs with ⟨hx, h3, h4⟩ | ⟨h3, H, W, hx⟩
  · have hst := PortUnit.state_of_bare e.bare
    exact e.good_idle hg (hst ▸ h3) (hst ▸ h4) (congrArg PortUnit.lanes hx) hlink (congrArg PortUnit.state hx)
      fun hr => by rw [hx]; exact hr
  · have hplain := hg.toPlain.of_bare e.bare
    obtain ⟨r1, r2, r3, r4, r5, r6, r7, r8, r9, r10, r11⟩ := hplain.record
    refine e.good (by rw [hx]) hlink (by rw [hx]; simp) (by rw [hx]; simp) ?_
    rw [hx]
    rcases h3 with h3 | h3 <;> simp_all [PortUnit.RecordOk, PortState.reads]

theorem PortUnit.Seats.clean (hs : r.Seats x) (e : q.Emptied max r) (hc : q.Clean m) : x.Clean m' := by
  rcases hs with ⟨hx, h3, h4⟩ | ⟨h3, H, W, hx⟩
  · have hst := PortUnit.state_of_bare e.bare
    exact e.clean_idle hc (hst ▸ h3) (hst ▸ h4) (congrArg PortUnit.lanes hx)
  · exact PortUnit.clean_of_stopped (r := r) (by rw [hx])
end

theorem State.onlyPort_seatPort (s : State) (p : Port) : s.OnlyPort (s.seatPort p) p := by
  unfold State.seatPort
  split
  · exact (s.onlyPort_modPort p id).trans (State.onlyPort_portTo _ p _ _)
  · exact .refl s p

theorem State.restKept_setup (s : State) : s.RestKept { s with mode := .setup } :=
  ⟨id, fun hs => ⟨hs.1, fun c => Mode.noConfusion c, hs.2.2⟩, id, id, rfl⟩

theorem State.restKept_of_same {s t : State} (h : t = { s with ports := t.ports }) : s.RestKept t := by
  rw [h]; exact ⟨id, id, id, id, rfl⟩

/-- Once no link is left, the ports are seated and the mode changes. -/
theorem State.sound_seatAll {s b : State} (k : s.Lapsed b) (hn : ∀ p h, b.link p h = none) :
    s.Sound { b.forPorts (fun t p => t.seatPort p) with mode := .setup } := by
  obtain ⟨h1, h2, hR⟩ := State.forPorts_each (R := fun _ => PortUnit.Seats) (s := b) (f := fun t p => t.seatPort p)
    fun t p _ => ⟨t.onlyPort_seatPort p, t.port_seatPort p⟩
  generalize b.forPorts (fun t p => t.seatPort p) = c at h1 h2 hR
  have he := fun p => k.emptied hn p s.timing.maxAttempts
  have hrest := ((State.restKept_of_rest k.rest).trans (State.restKept_of_same h1)).trans c.restKept_setup
  have hpos : ∀ p h, (c.port p).pos h = (b.port p).pos h := fun p h => (hR p).pos h
  have htiming : c.timing = s.timing := by rw [h1]; exact State.timing_of_rest k.rest
  refine State.sound_of_part hrest (fun hq => ?_) (fun hh => h2 (k.histories hh)) (fun p h => .inr (.inr ?_))
    (fun p hg => (hR p).good (he p) hg) (fun p _ hc => (hR p).clean (he p) hc) fun p _ hf => ?_
  · rw [h1]; exact k.queue hq
  · exact (congrArg Position.link (hpos p h)).trans (hn p h)
  · show PortUnit.Fit c.timing.maxAttempts (c.port p)
    rw [htiming]
    exact (he p).fit hf (fun h => by rw [hpos]) (fun h y hy => by rw [← hpos]; exact hy) fun i => (hR p).delay i

/-- R140, R158: the residues stored and every link removed. -/
theorem State.lapsed_keepResidues (s : State) : s.Lapsed (s.forPositions fun t p h => t.keepResidue p h) :=
  State.forPositions_induction (P := fun t => s.Lapsed t) (.refl s) fun t p h k => k.trans (t.lapsed_keepResidue p h)

theorem State.sound_deactivate (s : State) : s.Sound s.deactivate := by
  obtain ⟨k, hn⟩ := (s.forPositions fun t p h => t.keepResidue p h).lapsed_inEvent
    (f := fun t => t.forPorts fun u p => u.removeLinks p .modeSetup) fun t => t.lapsed_removeAll .modeSetup
  have h := State.sound_seatAll (s.lapsed_keepResidues.trans k) hn
  unfold State.deactivate
  exact h.trans (State.sound_post _ _ _ _)

/-! ### RESTART -/

/-- What a port is after R19: left as it was in OFF, else EMPTY. -/
def PortUnit.Restarts (q r : PortUnit) : Prop :=
  (r = q ∧ q.state = .off) ∨
    (q.state ≠ .off ∧ ∃ H W, r =
      { q with lanes := q.silence.clearLanes.lanes, windowTimer := none, settleTimer := none, readAttempt := 0, desc := none,
               fault := none, accepted := false, debounceCount := 0, state := .empty, history := H, wrapped := W })

theorem State.onlyPort_restartPort (s : State) (p : Port) : s.OnlyPort (s.restartPort p) p := by
  unfold State.restartPort
  have h1 : s.OnlyPort (s.modPort p fun q =>
      { q.abandon with desc := none, fault := none, accepted := false, debounceCount := 0 }) p :=
    s.onlyPort_modPort p (by rw [PortUnit.abandon_eq]; exact id)
  dsimp only
  split
  · exact .refl s p
  · split
    · exact h1
    · exact h1.trans (State.onlyPort_portTo _ p _ _)

theorem State.port_restartPort (s : State) (p : Port) : (s.port p).Restarts ((s.restartPort p).port p) := by
  unfold State.restartPort
  dsimp only
  split
  · next hs => exact .inl ⟨rfl, hs⟩
  · next hs =>
    refine .inr ⟨hs, ?_⟩
    split
    · next he =>
      refine ⟨(s.port p).history, (s.port p).wrapped, ?_⟩
      rw [State.port_modPort_self, PortUnit.abandon_eq, ← he]
    · obtain ⟨H, W, he⟩ := (s.modPort p fun q =>
        { q.abandon with desc := none, fault := none, accepted := false, debounceCount := 0 }).port_portTo p .empty .restart
      refine ⟨H, W, he.trans ?_⟩
      rw [State.port_modPort_self, PortUnit.abandon_eq]

/-- A port without residues and contexts. -/
def PortUnit.bared (q : PortUnit) : PortUnit :=
  { q with posA := { q.posA with residue := none, context := none }, posB := { q.posB with residue := none, context := none } }

theorem State.dropAll_eq (s : State) (p : Port) : (s.dropResidues p).dropContexts p = s.modPort p PortUnit.bared := by
  rw [State.dropResidues, State.dropContexts, State.modPort_modPort]
  rfl

section
variable {q r x : PortUnit} {max : Nat} {m m' : Mode}

theorem PortUnit.bared_pos (q : PortUnit) (h : Half) : (q.bared.pos h).link = (q.pos h).link ∧ (q.bared.pos h).residue = none := by
  cases h <;> exact ⟨rfl, rfl⟩

theorem PortUnit.Restarts.pos (hs : r.Restarts x) (h : Half) : x.pos h = r.pos h := by
  rcases hs with ⟨e, -⟩ | ⟨-, H, W, e⟩ <;> rw [e]
  cases h <;> rfl

theorem PortUnit.Restarts.delay (hs : r.Restarts x) (i : Lane) : (x.lane i).delay ≤ (r.lane i).delay := by
  rcases hs with ⟨e, -⟩ | ⟨-, H, W, e⟩
  · rw [e]
  · rw [e]
    exact le_of_eq_of_le (r.lane_stopped i).2.2.2.2 (Nat.zero_le _)

theorem PortUnit.Restarts.good (hs : r.Restarts x) (e : q.Emptied max r) (hg : q.Good m) : x.bared.Good m' := by
  have hlink : ∀ h, (x.bared.pos h).link = (r.pos h).link := fun h => (x.bared_pos h).1.trans (by rw [hs.pos])
  rcases hs with ⟨hx, hst⟩ | ⟨hst, H, W, hx⟩
  · have hq := (PortUnit.state_of_bare e.bare).symm.trans hst
    have hlanes : x.bared.lanes = r.lanes := by rw [hx]; rfl
    have hstate : x.bared.state = r.state := by rw [hx]; rfl
    exact e.good_idle hg (by simp [hq]) (by simp [hq]) hlanes hlink hstate fun hr => by rw [hx]; exact hr
  · have hplain := hg.toPlain.of_bare e.bare
    obtain ⟨r1, r2, r3, r4, r5, r6, r7, r8, r9, r10, r11⟩ := hplain.record
    refine e.good (by rw [hx]; rfl) hlink (by rw [hx]; simp [PortUnit.bared]) (by rw [hx]; simp [PortUnit.bared]) ?_
    rw [hx]
    simp_all [PortUnit.RecordOk, PortState.reads, PortUnit.bared]

theorem PortUnit.Restarts.clean (hs : r.Restarts x) (e : q.Emptied max r) (hc : q.Clean m) : x.bared.Clean m' := by
  rcases hs with ⟨hx, hst⟩ | ⟨-, H, W, hx⟩
  · have hq := (PortUnit.state_of_bare e.bare).symm.trans hst
    exact e.clean_idle hc (by simp [hq]) (by simp [hq]) (by rw [hx]; rfl)
  · exact PortUnit.clean_of_stopped (r := r) (by rw [hx]; rfl)
end

/-- R161: RESTART once no link is left. -/
theorem State.sound_restartAll {s b : State} (k : ({ s with mode := .setup } : State).Lapsed b) (hn : ∀ p h, b.link p h = none) :
    s.Sound { (b.forPorts fun t p => t.restartPort p).forPorts fun t p => (t.dropResidues p).dropContexts p with
      queue := [], overrun := 0, focus := none, framingErrors := 0, checkErrors := 0, dropped := 0,
      locate := none, blinkOn := false } := by
  obtain ⟨h1, h2, hR⟩ := State.forPorts_each (R := fun _ => PortUnit.Restarts) (s := b) (f := fun t p => t.restartPort p)
    fun t p _ => ⟨t.onlyPort_restartPort p, t.port_restartPort p⟩
  generalize b.forPorts (fun t p => t.restartPort p) = c at h1 h2 hR
  obtain ⟨d1, d2, hD⟩ := State.forPorts_each (R := fun _ q r => r = q.bared) (s := c)
    (f := fun t p => (t.dropResidues p).dropContexts p) fun t p _ => by
      rw [State.dropAll_eq]
      exact ⟨t.onlyPort_modPort p id, t.port_modPort_self _ _⟩
  generalize c.forPorts (fun t p => (t.dropResidues p).dropContexts p) = d at d1 d2 hD
  have he := fun p => k.emptied hn p s.timing.maxAttempts
  have hr := (State.restKept_setup s).trans ((State.restKept_of_rest k.rest).trans ((State.restKept_of_same h1).trans
    (State.restKept_of_same d1)))
  have hport : ∀ p, d.port p = (c.port p).bared := hD
  refine State.sound_of_part ⟨fun hl => ?_, hr.settings, fun _ c => Bool.noConfusion c, hr.event, hr.pending⟩
    (fun _ => ⟨Nat.zero_le _, Nat.zero_le _⟩) (fun hh => d2 (h2 (k.histories hh))) (fun p h => .inr (.inr ?_)) (fun p hg => ?_)
    (fun p _ hc => ?_) fun p _ hf => ?_
  · obtain ⟨l1, l2, -⟩ := hr.line hl
    exact ⟨l1, l2, Nat.zero_le _, Nat.zero_le _, Nat.zero_le _⟩
  · show ((d.port p).pos h).link = none
    rw [hport, ((c.port p).bared_pos h).1, (hR p).pos]
    exact hn p h
  · show PortUnit.Good d.mode (d.port p)
    rw [hport]; exact (hR p).good (he p) hg
  · show PortUnit.Clean d.mode (d.port p)
    rw [hport]; exact (hR p).clean (he p) hc
  · show PortUnit.Fit d.timing.maxAttempts (d.port p)
    have ht : d.timing = s.timing := by
      rw [show d.timing = b.timing by rw [d1, h1]]; exact (State.timing_of_rest k.rest).trans rfl
    rw [hport, ht]
    refine (he p).fit hf (fun h => ((c.port p).bared_pos h).1.trans (by rw [(hR p).pos])) (fun h y hy => ?_)
      fun i => (hR p).delay i
    rw [((c.port p).bared_pos h).2] at hy; cases hy

theorem State.sound_restart (s : State) : s.Sound s.restart := by
  obtain ⟨k, hn⟩ := ({ s with mode := .setup } : State).lapsed_removeAll .restart
  have h := State.sound_restartAll k hn
  unfold State.restart
  exact h

end Sys2Proof.Machine

/-! SUPPORT and PROOF. The events of the lane front ends carry the invariants over (Chapter 2, R126, R128). -/

namespace Sys2Proof.Machine

open Sys2Proof

/-! ### The receive record (R28 to R36) -/

theorem widthOfCode_mem (c : BitVec 2) : [1, 2, 4, 8].contains (widthOfCode c) = true := by
  revert c; decide

/-- R28: a mark that passes the tests has an identity in order. -/
theorem HeardId.ok_of_readMark {b : MarkBits} {m : Mark} (h : readMark b = .ok m) : m.id.Ok = true := by
  unfold readMark at h
  dsimp only at h
  split at h
  · cases h
  · split at h
    · cases h
    · split at h
      · cases h
      · split at h
        · cases h
        · next hc =>
          split at h
          · cases h
          · next hl =>
            split at h
            · cases h
            · next hs =>
              injection h with h
              subst h
              simp only [HeardId.Ok, Bool.and_eq_true, decide_eq_true_eq]
              push Not at hc
              simp only [Bool.not_eq_true, Bool.not_eq_false'] at hl hs
              refine ⟨⟨⟨⟨?_, hc.2⟩, hl⟩, hs⟩, widthOfCode_mem _⟩
              exact Nat.one_le_iff_ne_zero.mpr fun c => hc.1 (BitVec.eq_of_toNat_eq c)

section
variable {x : RxRecord}

theorem satAdd_le (n k lim : Nat) : satAdd lim n k ≤ lim := by unfold satAdd; omega

theorem RxRecord.ok_countGood (hx : x.Ok) : x.countGood.Ok := by
  obtain ⟨h1, h2, h3, h4, h5, h6, h7, h8, h9⟩ := hx
  exact ⟨h1, h2, h3, h4, h5, satAdd_le .., h7, Nat.zero_le _, fun _ => Nat.succ_pos 7⟩

theorem Mark.status_ne_quiet (m : Mark) (own : LaneId) : (m.status own == .marked || m.status own == .confirmed) = true := by
  unfold Mark.status; split <;> rfl

theorem RxRecord.ok_accept (hx : x.Ok) (hc : x.consecBad < 8) {m : Mark} (hm : m.id.Ok = true) (own : LaneId) (now : Uptime)
    (stamp : BitVec 10) : (x.accept m own now stamp).Ok := by
  obtain ⟨h1, h2, h3, h4, h5, h6, h7, h8, h9⟩ := hx
  refine ⟨(m.status_ne_quiet own).symm, ?_, rfl, rfl, fun _ => rfl, h6, h7, h8, fun _ => hc⟩
  have : m.grade.toNat ≤ 15 := by omega
  simp [RxRecord.accept, hm, Mark.heard, this]

theorem RxRecord.ok_propose (hx : x.Ok) (hq : x.status ≠ .quiet) {m : Mark} (hm : m.id.Ok = true) : (x.propose m).Ok := by
  obtain ⟨h1, h2, h3, h4, h5, h6, h7, h8, h9⟩ := hx
  exact ⟨h1, h2, hm, rfl, fun c => absurd c hq, h6, h7, h8, h9⟩

theorem RxRecord.ok_hear (hx : x.Ok) (hq : x.status ≠ .quiet) (hc : x.consecBad < 8) {m : Mark} (hm : m.id.Ok = true)
    (own : LaneId) (now : Uptime) (stamp : BitVec 10) : (x.hear m own now stamp).Ok := by
  unfold RxRecord.hear
  split
  · split
    · exact RxRecord.ok_accept hx hc hm own now stamp
    · exact RxRecord.ok_propose hx hq hm
  · next k hk =>
    split
    · next hid =>
      obtain ⟨h1, h2, h3, h4, h5, h6, h7, h8, h9⟩ := hx
      refine ⟨(m.status_ne_quiet own).symm, ?_, rfl, rfl, fun _ => rfl, h6, h7, h8, fun _ => hc⟩
      have : m.grade.toNat ≤ 15 := by omega
      simp [hid, hm, Mark.heard, this]
    · split
      · exact RxRecord.ok_accept hx hc hm own now stamp
      · exact RxRecord.ok_propose hx hq hm

theorem RxRecord.ok_valid (hx : x.Ok) {m : Mark} (hm : m.id.Ok = true) (own : LaneId) (now : Uptime) (stamp : BitVec 10) :
    (x.valid m own now stamp).Ok := by
  unfold RxRecord.valid
  split
  · exact RxRecord.ok_countGood hx
  · next hq => exact RxRecord.ok_hear (RxRecord.ok_countGood hx) hq (by decide : (0 : Nat) < 8) hm own now stamp

theorem RxRecord.ok_invalid (hx : x.Ok) (f : MarkFailure) : (x.invalid f).Ok := by
  obtain ⟨h1, h2, h3, h4, h5, h6, h7, h8, h9⟩ := hx
  have hb := satAdd_le x.bad 1 255
  have hc := satAdd_le x.consecBad 1 8
  unfold RxRecord.invalid
  split
  · next hq =>
    have hn : x.held.isSome = false := by rw [h1, hq]; rfl
    exact ⟨h1, h2, h3, h4, h5, h6, hb, hc, fun c => by rw [show (x.countBad f).held = x.held from rfl, hn] at c; cases c⟩
  · unfold RxRecord.fallBack
    split
    · exact ⟨rfl, rfl, rfl, rfl, fun _ => rfl, h6, hb, hc, fun c => by cases c⟩
    · next hn =>
      exact ⟨h1, h2, rfl, rfl, fun _ => rfl, h6, hb, hc, fun c => lt_of_le_of_ne hc fun e => hn ⟨e, c⟩⟩

theorem RxRecord.ok_lose (hx : x.Ok) : x.lose.Ok := by
  obtain ⟨h1, h2, h3, h4, h5, h6, h7, h8, h9⟩ := hx
  unfold RxRecord.lose
  split
  · exact ⟨h1, h2, h3, h4, h5, h6, h7, h8, h9⟩
  · exact ⟨rfl, rfl, rfl, rfl, fun _ => rfl, h6, h7, Nat.zero_le _, fun _ => Nat.succ_pos 7⟩

theorem RxRecord.ok_gain (hx : x.Ok) : x.gain.Ok := by
  obtain ⟨h1, h2, h3, h4, h5, h6, h7, h8, h9⟩ := hx
  unfold RxRecord.gain
  split
  · next hq =>
    refine ⟨?_, h2, h3, h4, fun c => LaneStatus.noConfusion c, h6, h7, h8, h9⟩
    rw [h1, hq]; rfl
  · exact ⟨h1, h2, h3, h4, h5, h6, h7, h8, h9⟩

/-- The polarity field is moved by the correction alone. -/
theorem RxRecord.pol_valid (m : Mark) (own : LaneId) (now : Uptime) (stamp : BitVec 10) :
    (x.valid m own now stamp).polInverted = x.polInverted := by
  unfold RxRecord.valid RxRecord.hear RxRecord.accept RxRecord.propose RxRecord.countGood
  split
  · rfl
  · split
    · split <;> rfl
    · split
      · rfl
      · split <;> rfl

theorem RxRecord.pol_invalid (f : MarkFailure) : (x.invalid f).polInverted = x.polInverted := by
  unfold RxRecord.invalid RxRecord.fallBack RxRecord.countBad
  split
  · rfl
  · split <;> rfl

theorem RxRecord.pol_lose : x.lose.polInverted = x.polInverted := by unfold RxRecord.lose; split <;> rfl

theorem RxRecord.pol_gain : x.gain.polInverted = x.polInverted := by unfold RxRecord.gain; split <;> rfl
end

/-! ### A change of a lane's receive record -/

section
variable {s : State} {p : Port} {i : Lane}

theorem State.sound_modLane {f : LaneUnit → LaneUnit} (ht : (f ((s.port p).lane i)).txMark = ((s.port p).lane i).txMark)
    (hd : (f ((s.port p).lane i)).delay = ((s.port p).lane i).delay)
    (hr : ((s.port p).lane i).rx.Ok → ((s.port p).lane i).rx.polInverted = ((s.port p).lane i).correction →
      (f ((s.port p).lane i)).rx.Ok ∧ (f ((s.port p).lane i)).rx.polInverted = (f ((s.port p).lane i)).correction)
    (hp : s.processed p i = false → (f ((s.port p).lane i)).rx = ((s.port p).lane i).rx) : s.Sound (s.modLane p i f) := by
  have hlane : ∀ j, ((s.port p).modLane i f).lane j = if i = j then f ((s.port p).lane i) else (s.port p).lane j :=
    fun j => (s.port p).lane_modLane i j f
  refine (s.portActs_modPort p (fun h => by cases h <;> rfl) id).sound (fun hg => ?_) (fun _ hc => ?_) fun _ hf => ?_
  all_goals rw [State.port_modPort_self]
  · refine ⟨⟨hg.record, hg.mode, fun j c => ?_⟩, hg.links⟩
    rw [hlane] at c
    refine hg.silence j ?_
    split at c
    · next e => subst e; rwa [ht] at c
    · exact c
  · intro j
    rw [hlane]
    split
    · next e =>
      subst e
      obtain ⟨c1, c2, c3⟩ := hc i
      exact ⟨(hr c1 c2).1, (hr c1 c2).2, fun c => (hp c).trans (c3 c)⟩
    · exact hc j
  · refine ⟨fun | .A => hf.pos .A | .B => hf.pos .B, fun j => ?_⟩
    rw [hlane]
    split
    · next e => subst e; rw [hd]; exact hf.delay i
    · exact hf.delay j

/-- A processed lane's receive record replaced. -/
theorem State.sound_setRx {b : RxRecord} (hp : s.processed p i = true) (hb : ((s.port p).lane i).rx.Ok → b.Ok)
    (hpol : b.polInverted = ((s.port p).lane i).rx.polInverted) : s.Sound (s.setRx p i b) :=
  State.sound_modLane rfl rfl (fun h1 h2 => ⟨hb h1, hpol.trans h2⟩) fun c => by rw [hp] at c; cases c

/-! ### Hand-off and arrivals (R26 to R38) -/

theorem State.sound_restartSettle (hs : (s.port p).state = .survey) : s.Sound (s.restartSettle p) :=
  State.sound_record rfl (fun h => by cases h <;> rfl) rfl rfl id fun hr => by
    obtain ⟨h1, h2, h3, h4, h5, h6, h7, h8, h9, h10, h11⟩ := hr
    exact ⟨h1, h2, h3, h4, h5, h6, h7, h8, h9, h10, fun _ => hs⟩

theorem State.sound_linkEvent (s : State) (p : Port) (h : Half) (r : Nat) (items : LaneItems) (newId : Option LaneId) :
    s.Sound (s.linkEvent p h r items newId) :=
  (s.keeps_linkEvent p h r items newId).sound fun hn => by rw [State.linkEvent, State.withLink_of_none hn]; exact hn

theorem State.sound_stampEvent (s : State) (p : Port) (h : Half) (r stamp : Nat) : s.Sound (s.stampEvent p h r stamp) :=
  (s.keeps_stampEvent p h r stamp).sound fun hn => by rw [State.stampEvent, State.withLink_of_none hn]; exact hn

theorem State.link_modLink_none {h : Half} (hn : s.link p h = none) (f : Link → Link) : (s.modLink p h f).link p h = none := by
  rw [State.link_modLink_self, hn]; rfl

theorem State.sound_badMarkEvent (s : State) (p : Port) (h : Half) (r : Nat) : s.Sound (s.badMarkEvent p h r) :=
  (s.keeps_badMarkEvent p h r).sound fun hn => State.link_modLink_none hn _

theorem State.sound_laneChange (s : State) (p : Port) (i : Lane) (a b : RxRecord) : s.Sound (s.laneChange p i a b) := by
  unfold State.laneChange
  dsimp only
  split
  · exact .refl s
  · split
    · next hs => exact State.sound_restartSettle hs
    · split
      · exact s.sound_linkEvent ..
      · exact .refl s

theorem State.sound_stampReport (s : State) (p : Port) (i : Lane) (b : RxRecord) (m : Mark) (stamp : BitVec 10) :
    s.Sound (s.stampReport p i b m stamp) := by
  unfold State.stampReport
  dsimp only
  split
  · exact s.sound_stampEvent ..
  · exact .refl s

theorem State.sound_validArrival (hp : s.processed p i = true) (inverted : Bool) {m : Mark} (hm : m.id.Ok = true)
    (stamp : BitVec 10) : s.Sound (s.validArrival p i inverted m stamp) := by
  unfold State.validArrival
  dsimp only
  refine State.Sound.trans (State.sound_modLane ?_ ?_ (fun h1 h2 => ?_) fun c => by rw [hp] at c; cases c)
    (State.sound_inEvent ((State.sound_laneChange ..).trans (State.sound_stampReport ..)))
  · split <;> rfl
  · split <;> rfl
  · have hok := RxRecord.ok_valid h1 hm (s.ownId p i) s.uptime stamp
    split
    · exact ⟨hok, rfl⟩
    · exact ⟨hok, (RxRecord.pol_valid ..).trans h2⟩

theorem State.sound_invalidArrival (hp : s.processed p i = true) (f : MarkFailure) : s.Sound (s.invalidArrival p i f) := by
  unfold State.invalidArrival
  dsimp only
  have h1 := (State.sound_setRx hp (fun hx => RxRecord.ok_invalid hx f) (RxRecord.pol_invalid f)).trans
    (State.sound_laneChange _ p i ((s.port p).lane i).rx (((s.port p).lane i).rx.invalid f))
  split
  · exact h1
  · exact h1.trans (State.sound_badMarkEvent ..)

theorem State.sound_arrival (hp : s.processed p i = true) (block : MarkBits) (stamp : BitVec 10) :
    s.Sound (s.arrival p i block stamp) := by
  unfold State.arrival
  split
  · exact .refl s
  · split
    · next h => exact State.sound_validArrival hp _ (HeardId.ok_of_readMark h) stamp
    · exact State.sound_invalidArrival hp _

/-- What the front end tracks of a port or a lane is no part of the invariants. -/
theorem State.sound_stampCounter (s : State) (p : Port) (x : BitVec 10) :
    s.Sound (s.modPort p fun q => { q with stampCounter := x }) :=
  State.sound_record rfl (fun h => by cases h <;> rfl) rfl rfl id id

theorem State.sound_signal (s : State) (p : Port) (i : Lane) (b : Bool) :
    s.Sound (s.modLane p i fun k => { k with signal := b }) :=
  State.sound_modLane rfl rfl (fun h1 h2 => ⟨h1, h2⟩) fun _ => rfl

theorem State.sound_markTransmit (s : State) (p : Port) (v : Vector (BitVec 4) 8) :
    s.Sound (s.modPort p fun q =>
      { q.mapLanes fun i x =>
          { x with txMark := if s.processed p i then some (s.formMark p i v[i]).encode else none } with
        stampCounter := 0 }) := by
  generalize hF : (fun (i : Lane) (x : LaneUnit) =>
    { x with txMark := if s.processed p i then some (s.formMark p i v[i]).encode else none }) = F
  have hlane : ∀ i, ((s.port p).mapLanes F).lane i = F i ((s.port p).lane i) := (s.port p).lane_mapLanes F
  have hpos : ∀ h, (({ (s.port p).mapLanes F with stampCounter := 0 } : PortUnit)).pos h = (s.port p).pos h := fun h => by
    rw [PortUnit.mapLanes_eq]; cases h <;> rfl
  refine (s.portActs_modPort p (fun h => by rw [hpos]) (by rw [PortUnit.mapLanes_eq]; exact id)).sound (fun hg => ?_)
    (fun _ hc i => ?_) fun _ hf => ?_
  all_goals rw [State.port_modPort_self]
  · refine ⟨⟨hg.record, hg.mode, fun i c => ?_⟩, hg.links⟩
    replace c : (((s.port p).mapLanes F).lane i).txMark.isSome = true := c
    rw [hlane, ← hF] at c
    by_cases hp : s.processed p i = true
    · exact hp
    · simp [hp] at c
  · show (((s.port p).mapLanes F).lane i).rx.Ok ∧ (((s.port p).mapLanes F).lane i).rx.polInverted =
      (((s.port p).mapLanes F).lane i).correction ∧ ((s.port p).processedIn s.mode i = false →
        (((s.port p).mapLanes F).lane i).rx = {})
    rw [hlane, ← hF]; exact hc i
  · refine hf.of_same rfl hpos fun i => ?_
    show (((s.port p).mapLanes F).lane i).delay ≤ _
    rw [hlane, ← hF]
end

end Sys2Proof.Machine

/-! SUPPORT and PROOF. The requests and the management line carry the invariants over (R45 to R56, R108, R134, R139,
R146 to R173). -/

namespace Sys2Proof.Machine

open Sys2Proof

set_option Elab.async false

section
variable {s : State}

/-! ### Answers -/

theorem Answer.state_ok (s : State) (d : Data) : (Answer.ok s d).state = s := rfl

theorem State.restKept_refl (s : State) : s.RestKept s := ⟨id, id, id, id, rfl⟩

/-- A change of records that the invariants read neither in the ports nor in the queue. -/
theorem State.sound_rest {t : State} (hp : t.ports = s.ports) (hm : t.mode = s.mode) (ht : t.timing = s.timing)
    (hq : t.queue = s.queue ∧ t.overrun = s.overrun) (hr : s.RestKept t) : s.Sound t :=
  State.sound_of_ports hp hm ht (fun h => by rw [State.QueueOk, hq.1, hq.2]; exact h) hr

theorem State.sound_reply {a : Answer} (ha : s.Sound a.state) (body : List Byte) : s.Sound (a.reply body) :=
  ha.trans (State.sound_rest rfl rfl rfl ⟨rfl, rfl⟩
    ⟨fun ⟨h1, _, h3⟩ => ⟨h1, fun _ => rfl, h3⟩, id, id, id, rfl⟩)

theorem State.sound_withPort {b : Byte} {f : Port → Answer} (hf : ∀ p, s.Sound (f p).state) : s.Sound (withPort s b f).state := by
  unfold withPort
  split
  · exact hf _
  · exact .refl s

theorem State.sound_withHalf {b : Byte} {f : Half → Answer} (hf : ∀ h, s.Sound (f h).state) : s.Sound (withHalf s b f).state := by
  unfold withHalf
  split
  · exact hf _
  · exact .refl s

theorem State.sound_withLinkAt {p : Port} {h : Half} {f : Link → Answer} (hf : ∀ l, s.link p h = some l → s.Sound (f l).state) :
    s.Sound (withLinkAt s p h f).state := by
  unfold withLinkAt
  split
  · exact .refl s
  · split
    · next hl => exact hf _ hl
    · exact .refl s

/-- What keeps the position of a link that stands carries every invariant over. -/
theorem State.Keeps.sound_of_link {t : State} {p : Port} {h : Half} {l : Link} (k : s.Keeps t p h) (hl : s.link p h = some l) :
    s.Sound t := k.sound fun hn => by rw [hn] at hl; cases hl

/-! ### Part-wide requests -/

theorem State.sound_reqStatus (clear : Byte) : s.Sound (reqStatus clear s).state := by
  unfold reqStatus
  split
  · exact .refl s
  · exact State.sound_rest rfl rfl rfl ⟨rfl, rfl⟩
      ⟨fun ⟨h1, h2, _⟩ => ⟨h1, h2, Nat.zero_le _, Nat.zero_le _, Nat.zero_le _⟩, id, id, id, rfl⟩
  · exact .refl s

theorem Mode.eq_setup {m : Mode} (h : m ≠ .active) : m = .setup := by cases m <;> simp_all

theorem State.sound_reqModeActive : s.Sound (reqModeActive s).state := by
  unfold reqModeActive
  split
  · exact .refl s
  · next hm =>
    split
    · exact .refl s
    · next hc => rw [Answer.state_ok]; exact State.sound_activate (Mode.eq_setup hm) hc

theorem State.sound_reqModeSetup : s.Sound (reqModeSetup s).state := by
  unfold reqModeSetup
  split
  · exact .refl s
  · rw [Answer.state_ok]; exact s.sound_deactivate

theorem State.sound_reqNode (chassis : Byte) : s.Sound (reqNode chassis s).state := by
  unfold reqNode
  split
  · exact .refl s
  · next hm =>
    split
    · next hc =>
      exact State.sound_rest rfl rfl rfl ⟨rfl, rfl⟩ ⟨id, fun hs => ⟨hc.2, fun c => absurd c hm, hs.2.2⟩, id, id, rfl⟩
    · exact .refl s

theorem State.sound_reqTiming (v : RawTiming) : s.Sound (reqTiming v s).state := by
  unfold reqTiming
  split
  · exact .refl s
  · next hm =>
    split
    · exact .refl s
    · next ht => exact State.sound_setTiming (Mode.eq_setup hm) (Timing.ok_of_timingOf ht)

theorem State.sound_reqPreset (number amplitude emphasis : Byte) : s.Sound (reqPreset number amplitude emphasis s).state := by
  unfold reqPreset
  split
  · exact .refl s
  · split
    · next hr =>
      refine State.sound_rest rfl rfl rfl ⟨rfl, rfl⟩ ⟨id, fun hs => ?_, id, id, rfl⟩
      obtain ⟨h1, h2, h3, h4, h5, h6, h7, h8, h9, h10, h11, h12⟩ := hs
      refine ⟨h1, h2, h3, h4, h5, h6, h7, h8, h9, h10, h11, fun k => ?_⟩
      simp only [presetInRange, Bool.and_eq_true, decide_eq_true_eq] at hr
      obtain ⟨⟨-, ha⟩, he⟩ := hr
      simp only [Answer.state_ok, Fin.getElem_fin, Vector.getElem_set]
      split
      · exact ⟨he, List.contains_iff_mem.mp ha⟩
      · exact h12 k
    · exact .refl s

theorem State.sound_reqPlanTag (value : Byte) : s.Sound (reqPlanTag value s).state := by
  unfold reqPlanTag
  split
  · exact .refl s
  · exact s.sound_retagAll value

theorem State.sound_reqFilter (number enable : Byte) (kinds ports : BitVec 16) : s.Sound (reqFilter number enable kinds ports s).state := by
  unfold reqFilter
  split
  · exact .refl s
  · split
    · exact .refl s
    · dsimp only
      split
      · exact State.sound_rest rfl rfl rfl ⟨rfl, rfl⟩ ⟨id, id, id, id, rfl⟩
      · exact State.sound_rest rfl rfl rfl ⟨rfl, rfl⟩ ⟨id, id, id, id, rfl⟩
      · exact .refl s

theorem State.sound_reqFetch (count : Byte) : s.Sound (reqFetch count s).state :=
  State.sound_of_ports rfl rfl rfl
    (fun hq => ⟨(List.length_drop ▸ Nat.sub_le _ _ : (s.queue.drop _).length ≤ s.queue.length).trans hq.1, Nat.zero_le _⟩)
    ⟨id, id, id, id, rfl⟩

theorem State.sound_focus (s : State) (x : Option Port) : s.Sound { s with focus := x } :=
  State.sound_rest rfl rfl rfl ⟨rfl, rfl⟩ ⟨id, id, id, id, rfl⟩

theorem State.sound_reqFocusSet (target : Byte) : s.Sound (reqFocusSet target s).state := by
  unfold reqFocusSet
  split
  · exact s.sound_focus _
  · exact .refl s

/-! ### Plan and port requests -/

theorem State.sound_reqPlanSet (port form : Byte) (a : RawExpectation) (b : Option RawExpectation) :
    s.Sound (reqPlanSet port form a b s).state := by
  unfold reqPlanSet
  split
  · exact .refl s
  · refine State.sound_withPort fun p => ?_
    split
    · exact .refl s
    · show s.Sound (if _ then _ else _)
      split
      · exact .refl s
      · exact s.sound_editPlan p _

theorem State.sound_reqPlanClear (port : Byte) : s.Sound (reqPlanClear port s).state :=
  State.sound_withPort fun p => by
    show s.Sound (if _ then _ else _)
    split
    · exact .refl s
    · exact s.sound_editPlan p _

theorem State.sound_portStateAnswer {o : Except Result PortOperand} {f : State → Port → State}
    (hf : ∀ t p, State.Sound t (f t p)) : s.Sound (portStateAnswer s o f).state := by
  unfold portStateAnswer
  split
  · exact hf s _
  · exact State.sound_inEvent (f := fun u => u.forPorts f) (State.sound_forPorts hf)
  · exact .refl s
  · exact .refl s

theorem State.sound_reqPortGet (port sect : Byte) : s.Sound (reqPortGet port sect s).state :=
  State.sound_withPort fun p => by split <;> exact .refl s

theorem State.sound_reqLaneGet (port lane : Byte) : s.Sound (reqLaneGet port lane s).state :=
  State.sound_withPort fun p => by split <;> exact .refl s

theorem State.sound_reqHistoryGet (port : Byte) : s.Sound (reqHistoryGet port s).state :=
  State.sound_withPort fun p => State.sound_record (s := s) (f := fun q => { q with wrapped := false }) rfl
    (fun h => by cases h <;> rfl) rfl rfl (fun hh => ⟨hh.1, fun c => Bool.noConfusion c⟩) id

theorem State.sound_setIndicator (s : State) (p : Port) (x : IndSource) (v : Bool) (d : IndDirect) :
    s.Sound (s.setIndicator p x v d) :=
  State.sound_record rfl (fun h => by cases h <;> rfl) rfl rfl id id

theorem State.sound_reqIndicate (port source invert direct : Byte) : s.Sound (reqIndicate port source invert direct s).state := by
  unfold reqIndicate
  split
  · exact .refl s
  · split
    · dsimp only
      split
      · exact s.sound_setIndicator ..
      · rw [Answer.state_ok]; exact State.sound_forPorts fun t p => t.sound_setIndicator ..
      · exact .refl s
    · exact .refl s

theorem State.sound_locateAt (s : State) (p : Port) : s.Sound (s.locateAt p) := by
  unfold State.locateAt
  split
  · exact .refl s
  · exact State.sound_rest rfl rfl rfl ⟨rfl, rfl⟩ ⟨id, id, fun _ _ => rfl, id, rfl⟩

theorem State.sound_reqLocate (port : Byte) : s.Sound (reqLocate port s).state := by
  unfold reqLocate
  split
  · exact .refl s
  · exact s.sound_locateAt _
  · exact State.sound_rest rfl rfl rfl ⟨rfl, rfl⟩ ⟨id, id, fun _ c => Bool.noConfusion c, id, rfl⟩
  · exact .refl s

/-! ### Link requests -/

theorem State.sound_reqTrain (port half : Byte) : s.Sound (reqTrain port half s).state :=
  State.sound_withPort fun p => State.sound_withHalf fun h => State.sound_withLinkAt fun l hl => by
    split
    · next ht => exact (State.keeps_train hl ht).sound_of_link hl
    · exact .refl s

theorem State.sound_reqIsolate (port half : Byte) : s.Sound (reqIsolate port half s).state :=
  State.sound_withPort fun p => State.sound_withHalf fun h => State.sound_withLinkAt fun l hl => by
    split
    · exact .refl s
    · exact (State.keeps_isolateByHost hl).sound_of_link hl

theorem State.link_setResidue (s : State) (p : Port) (h : Half) (r : Option Nat) : (s.setResidue p h r).link p h = s.link p h := by
  rw [State.setResidue, State.link, State.pos_modPos, if_pos ⟨rfl, rfl⟩]; rfl

theorem State.sound_reqRecover (port half : Byte) : s.Sound (reqRecover port half s).state :=
  State.sound_withPort fun p => State.sound_withHalf fun h => by
    split
    · refine State.sound_withLinkAt fun l hl => ?_
      split
      · next hs => exact (State.keeps_recover hl hs).sound_of_link hl
      · exact .refl s
    · unfold recoverSetup
      split
      · exact (s.keeps_setResidue_none p h).sound fun hn => (s.link_setResidue p h none).trans hn
      · exact .refl s

theorem State.sound_reqSnapArm (port half mode : Byte) : s.Sound (reqSnapArm port half mode s).state :=
  State.sound_withPort fun p => State.sound_withHalf fun h => by
    split
    · rw [Answer.state_ok]
      exact (State.keeps_position (h := h) rfl (.inl rfl)).sound fun hn => by
        rw [State.link, State.pos_modPos, if_pos ⟨rfl, rfl⟩]; exact hn
    · exact .refl s

theorem State.sound_reqSnapGet (port half : Byte) : s.Sound (reqSnapGet port half s).state :=
  State.sound_withPort fun _ => State.sound_withHalf fun _ => .refl s

/-- Every request carries every invariant over. -/
theorem State.sound_answer (i : Instr) (s : State) : s.Sound (answer i s).state := by
  cases i
  case status => exact State.sound_reqStatus _
  case modeActive => exact State.sound_reqModeActive
  case modeSetup => exact State.sound_reqModeSetup
  case node => exact State.sound_reqNode _
  case timing => exact State.sound_reqTiming _
  case preset => exact State.sound_reqPreset ..
  case planTag => exact State.sound_reqPlanTag _
  case planSet => exact State.sound_reqPlanSet ..
  case planClear => exact State.sound_reqPlanClear _
  case portOn => exact State.sound_portStateAnswer fun t p => t.sound_portOn p
  case portOff => exact State.sound_portStateAnswer fun t p => t.sound_portOff p
  case resurvey => exact State.sound_portStateAnswer fun t p => t.sound_resurvey p
  case train => exact State.sound_reqTrain ..
  case isolate => exact State.sound_reqIsolate ..
  case recover => exact State.sound_reqRecover ..
  case planGet => exact State.sound_withPort fun _ => .refl s
  case portGet => exact State.sound_reqPortGet ..
  case laneGet => exact State.sound_reqLaneGet ..
  case historyGet => exact State.sound_reqHistoryGet _
  case snapArm => exact State.sound_reqSnapArm ..
  case snapGet => exact State.sound_reqSnapGet ..
  case indicate => exact State.sound_reqIndicate ..
  case locate => exact State.sound_reqLocate _
  case filter => exact State.sound_reqFilter ..
  case fetch => exact State.sound_reqFetch _
  case focusSet => exact State.sound_reqFocusSet _
  case focusClear => exact s.sound_focus none
  case restart => exact s.sound_restart
  all_goals exact .refl s

theorem State.sound_readAnswer (body : List Byte) (s : State) : s.Sound (readAnswer body s).state := by
  unfold readAnswer
  split
  · exact State.sound_answer _ s
  · exact .refl s
  · exact .refl s

/-! ### The management line -/

theorem State.sound_offered {f : State → Answer} (hf : s.Sound (f s).state) (body : List Byte) : s.Sound (s.offered body f) := by
  unfold State.offered
  split
  · exact State.sound_reply hf body
  · next he _ =>
    exact State.sound_rest rfl rfl rfl ⟨rfl, rfl⟩ ⟨fun hl => ⟨hl.1, fun _ => by rw [he]; rfl, hl.2.2⟩, id, id, id, rfl⟩
  · exact State.sound_rest rfl rfl rfl ⟨rfl, rfl⟩
      ⟨fun hl => ⟨hl.1, hl.2.1, hl.2.2.1, hl.2.2.2.1, satAdd_le ..⟩, id, id, id, rfl⟩

theorem State.sound_nextFrame (s : State) : s.Sound s.nextFrame := by
  unfold State.nextFrame
  split
  · exact .refl s
  · next hw =>
    exact State.sound_rest rfl rfl rfl ⟨rfl, rfl⟩ ⟨fun hl => ⟨hl.1, fun c => by simp [hw] at c, hl.2.2⟩, id, id, id, rfl⟩
  · have h1 : s.Sound { s with executing := none, waiting := none } :=
      State.sound_rest rfl rfl rfl ⟨rfl, rfl⟩ ⟨fun hl => ⟨hl.1, fun c => Bool.noConfusion c, hl.2.2⟩, id, id, id, rfl⟩
    exact h1.trans (State.sound_reply (State.sound_readAnswer _ _) _)

/-- The assembler moved to a state in order, and its error counters within their limits. -/
theorem State.sound_assembler {t : State} (hp : t.ports = s.ports) (hm : t.mode = s.mode) (ht : t.timing = s.timing)
    (hq : t.queue = s.queue ∧ t.overrun = s.overrun) (ha : s.assembler.Ok = true → t.assembler.Ok = true)
    (hw : t.waiting = s.waiting ∧ t.executing = s.executing ∧ t.dropped = s.dropped)
    (hc : s.framingErrors ≤ 65535 ∧ s.checkErrors ≤ 65535 → t.framingErrors ≤ 65535 ∧ t.checkErrors ≤ 65535)
    (hr : t.chassis = s.chassis ∧ t.presets = s.presets ∧ t.blinkOn = s.blinkOn ∧ t.locate = s.locate ∧
      t.eventLoss = s.eventLoss ∧ t.pending = s.pending) : s.Sound t := by
  obtain ⟨r1, r2, r3, r4, r5, r6⟩ := hr
  obtain ⟨w1, w2, w3⟩ := hw
  refine State.sound_rest hp hm ht hq ⟨fun ⟨h1, h2, h3, h4, h5⟩ => ?_, fun hs => ?_, fun hl => ?_, fun he => r5.trans he, r6⟩
  · obtain ⟨c1, c2⟩ := hc ⟨h3, h4⟩
    exact ⟨ha h1, by rw [w1, w2]; exact h2, c1, c2, by rw [w3]; exact h5⟩
  · rw [State.SettingsOk, r1, r2, hm, ht]; exact hs
  · rw [State.LocateOk, r3, r4]; exact hl

theorem State.sound_framingDiscard (s : State) : s.Sound s.framingDiscard :=
  State.sound_assembler rfl rfl rfl ⟨rfl, rfl⟩ (fun _ => rfl) ⟨rfl, rfl, rfl⟩ (fun h => ⟨satAdd_le .., h.2⟩) ⟨rfl, rfl, rfl, rfl, rfl, rfl⟩

theorem State.sound_checkDiscard (s : State) : s.Sound s.checkDiscard :=
  State.sound_assembler rfl rfl rfl ⟨rfl, rfl⟩ (fun _ => rfl) ⟨rfl, rfl, rfl⟩ (fun h => ⟨h.1, satAdd_le ..⟩) ⟨rfl, rfl, rfl, rfl, rfl, rfl⟩

theorem State.sound_assembles {x : Assembler} (hx : s.assembler.Ok = true → x.Ok = true) : s.Sound { s with assembler := x } :=
  State.sound_assembler rfl rfl rfl ⟨rfl, rfl⟩ hx ⟨rfl, rfl, rfl⟩ id ⟨rfl, rfl, rfl, rfl, rfl, rfl⟩

theorem State.sound_offer (s : State) (body : List Byte) : s.Sound (({ s with assembler := .hunt } : State).offer body) :=
  (State.sound_assembles fun _ => rfl).trans (State.sound_offered (State.sound_readAnswer body _) body)

theorem State.sound_takeByte (s : State) (b : Byte) : s.Sound (s.takeByte b) := by
  unfold State.takeByte
  split
  · split
    · exact State.sound_assembles fun _ => rfl
    · exact .refl s
  · split
    · next hb =>
      refine State.sound_assembles fun _ => ?_
      simp [Assembler.Ok, hb.1, hb.2]; omega
    · exact s.sound_framingDiscard
  · next ha =>
    split
    · next he => exact State.sound_assembles fun hok => by rw [ha] at hok; simp_all [Assembler.Ok]
    · next he => exact State.sound_assembles fun hok => by rw [ha] at hok; simp_all [Assembler.Ok]; omega
  · next ha => exact State.sound_assembles fun hok => by rw [ha] at hok; exact hok
  · split
    · exact s.sound_offer _
    · exact s.sound_checkDiscard
end

end Sys2Proof.Machine

/-! PROOF. Every command carries every invariant over: O56 to O60; and full reset meets them all: O55. -/

namespace Sys2Proof.Machine

open Sys2Proof

section
variable {s : State}

/-! ### Full reset (R162) -/

/-- A port after full reset is in order, whatever its pins. -/
theorem PortUnit.afterReset_good (q : PortUnit) (m : Mode) (max : Nat) :
    q.afterReset.Good m ∧ q.afterReset.Clean m ∧ q.afterReset.Fit max ∧ q.afterReset.HistoryOk := by
  have hlane : ∀ i, q.afterReset.lane i = { signal := (q.lane i).signal } := fun i => PortUnit.lane_mapLanes _ _ i
  have heq : q.afterReset = { presN := q.presN, stampCounter := q.stampCounter, lanes := q.afterReset.lanes } := rfl
  have hlink : ∀ h, (q.afterReset.pos h).link = none := fun h => by cases h <;> rfl
  refine ⟨PortUnit.good_of_idle ?_ (by rw [heq]; simp) (by rw [heq]; simp) hlink fun i => by rw [hlane],
    PortUnit.clean_of_cleared fun i => by rw [hlane]; exact ⟨rfl, rfl⟩,
    ⟨fun h => (Position.inRange_iff ..).mpr ⟨fun l c => ?_, fun x c => ?_⟩, fun i => by rw [hlane]; exact Nat.zero_le _⟩,
    Nat.zero_le _, fun c => ?_⟩
  · rw [heq]; simp [PortUnit.RecordOk, PortState.reads]
  · rw [hlink] at c; cases c
  · cases h <;> cases c
  · cases c

theorem State.reset_settingsOk : State.reset.SettingsOk := by decide

theorem State.sound_fullReset (pos : BitVec 2) (mspd : Level) (s : State) :
    s.Sound (({ State.reset with
      pending := s.pending, replies := s.replies, position := pos, lineFast := mspd == .high } : State).forPorts
        fun t p => t.setPort p (s.port p).afterReset) := by
  generalize hr : ({ State.reset with
      pending := s.pending, replies := s.replies, position := pos, lineFast := mspd == .high } : State) = r
  have hgood := fun p => (s.port p).afterReset_good .setup State.reset.timing.maxAttempts
  obtain ⟨h1, hh, hp⟩ := State.forPorts_each (R := fun p _ x => x = (s.port p).afterReset) (s := r)
    (f := fun t p => t.setPort p (s.port p).afterReset) fun t p _ =>
      ⟨t.onlyPort_modPort p (f := fun _ => (s.port p).afterReset) fun _ => (hgood p).2.2.2,
        t.port_modPort_self p fun _ => (s.port p).afterReset⟩
  generalize r.forPorts (fun t p => t.setPort p (s.port p).afterReset) = t at h1 hh hp
  rw [← hr] at h1
  have hmode : t.mode = .setup := by rw [h1]; rfl
  have htiming : t.timing = State.reset.timing := by rw [h1]
  refine State.sound_of_part ⟨fun _ => ?_, fun _ => ?_, fun _ => ?_, fun _ => by rw [h1]; rfl, by rw [h1]⟩ (fun _ => ?_) (fun _ p => ?_)
    (fun p h => .inr (.inr ?_)) (fun p _ => ?_) (fun p _ _ => ?_) fun p _ _ => ?_
  · rw [h1]; exact ⟨rfl, fun c => Bool.noConfusion c, Nat.zero_le _, Nat.zero_le _, Nat.zero_le _⟩
  · rw [h1]; exact State.reset_settingsOk
  · rw [h1]; exact fun c => Bool.noConfusion c
  · rw [h1]; exact ⟨Nat.zero_le _, Nat.zero_le _⟩
  · rw [hp]; exact (hgood p).2.2.2
  · rw [State.link, State.pos, hp]; cases h <;> rfl
  · rw [hp, hmode]; exact (hgood p).1
  · rw [hp, hmode]; exact (hgood p).2.1
  · rw [hp, htiming]; exact (hgood p).2.2.1

/-! ### Every command -/

theorem State.processed_modPort (s : State) (p : Port) (i : Lane) {f : PortUnit → PortUnit}
    (hs : (f (s.port p)).state = (s.port p).state) (hd : (f (s.port p)).desc = (s.port p).desc) :
    (s.modPort p f).processed p i = s.processed p i := by
  simp only [State.processed, State.port_modPort_self, PortUnit.inSpan, hs, hd, State.modPort_mode]

/-- R32: a signal event at a processed lane. -/
theorem State.sound_signalRx {p : Port} {i : Lane} (hp : s.processed p i = true) (v : Bool) {b : RxRecord}
    (hb : ((s.port p).lane i).rx.Ok → b.Ok) (hpol : b.polInverted = ((s.port p).lane i).rx.polInverted) :
    s.Sound ((s.modLane p i fun k => { k with signal := v }).setRx p i b) := by
  have hrx : (((s.modLane p i fun k => { k with signal := v }).port p).lane i).rx = ((s.port p).lane i).rx := by
    rw [State.modLane, State.port_modPort_self, PortUnit.lane_modLane, if_pos rfl]
  refine (s.sound_signal p i v).trans (State.sound_setRx ?_ (by rw [hrx]; exact hb) (by rw [hrx]; exact hpol))
  rw [← hp]
  exact State.processed_modPort s p i rfl rfl

theorem State.sound_lockLostAt (s : State) (p : Port) (h : Half) (r : Nat) : s.Sound (s.lockLostAt p h r) :=
  (s.keeps_lockLostAt p h r).sound fun hn => by
    rw [State.lockLostAt, State.withLink_of_none (State.link_modLink_none hn _)]
    exact State.link_modLink_none hn _

/-- R102: the recheck timer starts again, and where none is in flight a recheck begins. -/
theorem State.keeps_recheckExpiry {p : Port} {h : Half} {l : Link} (hl : s.link p h = some l) (hs : l.state = .up) (n : Nat) :
    s.Keeps (let u := s.modLink p h fun k => { k with align := { k.align with recheckTimer := some ⟨s.uptime, n⟩ } }
      if l.align.recheckState = .idle then u.beginRecheck p h else u) p h := by
  dsimp only
  have h1 : s.Keeps (s.modLink p h fun k => { k with align := { k.align with recheckTimer := some ⟨s.uptime, n⟩ } }) p h :=
    State.keeps_modLink fun l' hl' => by
      obtain rfl : l = l' := Option.some.inj (hl.symm.trans hl')
      exact Link.follows_recheckTimer hs _
  split
  · refine h1.trans (State.keeps_beginRecheck
      (l := { l with align := { l.align with recheckTimer := some ⟨s.uptime, n⟩ } }) ?_ hs)
    rw [State.link_modLink_self, hl]
    rfl
  · exact h1

/-- The code of an unknown request is no message. -/
theorem isMessage_of_wellFormed {code : Byte} {rest : List Byte} (hw : WellFormed (.unknownRequest code rest) = true) :
    isMessage code = false := by
  have h : (!isMessage code && bodyFits (code :: rest)) = true := hw
  rw [Bool.and_eq_true, Bool.not_eq_true'] at h
  exact h.1

/-- A message row offers the body of its request to the input hold. -/
theorem exec_of_request {i : Instr} (hr : isRequest i = true) (hw : WellFormed i = true) (s : State) :
    exec i s = .next (s.offered (requestBody i) (answer i)) := by
  cases i with
  | unknownRequest code rest =>
    show Host.Outcome.next (if isMessage code = true then s else _) = _
    rw [isMessage_of_wellFormed hw]
    rfl
  | ident | status | modeActive | modeSetup | node | timing | timingQuery | preset | presetQuery | planTag | planSet
  | planClear | planGet | portOn | portOff | resurvey | train | isolate | recover | portGet | laneGet | historyGet | snapArm
  | snapGet | indicate | locate | filter | fetch | focusSet | focusClear | focusRead | restart => rfl
  | _ => exact Bool.noConfusion hr

/-- Every request carries every invariant over. -/
theorem State.sound_of_request {c : Instr} {s t : State} (hr : isRequest c = true) (hw : WellFormed c = true)
    (h : exec c s = .next t) : s.Sound t := by
  rw [exec_of_request hr hw] at h
  injection h with h
  exact h ▸ State.sound_offered (State.sound_answer c s) _

/-- Every command carries every invariant over. -/
theorem State.sound_exec {c : Instr} {s t : State} (h : exec c s = .next t) : s.Sound t := by
  have next : ∀ {u : State}, s.Sound u → (Host.Outcome.next u : Outcome) = .next t → s.Sound t := fun hu he => by
    injection he with he; exact he ▸ hu
  cases c with
  | fullReset pos mspd => exact next (State.sound_fullReset ..) h
  | presenceSample p =>
    refine next ?_ h
    split
    · next hc => exact State.sound_sample hc.1
    · exact .refl s
  | presNChange p level =>
    have h1 : s.Sound (s.modPort p fun q => { q with presN := level }) :=
      State.sound_record rfl (fun h => by cases h <;> rfl) rfl rfl id id
    refine next ?_ h
    split
    · exact h1.trans (State.sound_acceptPresence ..)
    · exact h1
  | acceptanceAtOnce p =>
    refine next ?_ h
    split
    · exact State.sound_acceptPresence ..
    · exact .refl s
  | noAnswer p =>
    refine next ?_ h
    split
    · next hc => exact State.sound_attemptFailed hc _
    · exact .refl s
  | descriptorAnswered p b0 b1 b2 b3 b4 =>
    refine next ?_ h
    split
    · exact .refl s
    · next hc =>
      have hs := not_not.mp hc
      split
      · exact State.sound_attemptFailed hs _
      · split
        · next hd => exact State.sound_readGood hs (Descriptor.ok_of_descriptorOf hd)
        · exact State.sound_readFailed hs _
  | markTransmit p v => exact next (State.sound_markTransmit s p v) h
  | signalGained p i =>
    refine next ?_ h
    split
    · next hp =>
      exact (State.sound_signalRx hp true RxRecord.ok_gain RxRecord.pol_gain).trans (State.sound_laneChange ..)
    · exact s.sound_signal p i true
  | signalLost p i =>
    refine next ?_ h
    split
    · next hp =>
      exact (State.sound_signalRx hp false RxRecord.ok_lose RxRecord.pol_lose).trans (State.sound_laneChange ..)
    · exact s.sound_signal p i false
  | markArrived p i block stamp =>
    refine next ?_ h
    have h1 := s.sound_stampCounter p stamp
    split
    · next hp =>
      refine h1.trans (State.sound_arrival ?_ block stamp)
      rw [← hp]
      exact State.processed_modPort s p i rfl rfl
    · exact h1
  | syncMissing p i =>
    refine next ?_ h
    split
    · next hp => exact State.sound_invalidArrival hp _
    · exact .refl s
  | violations p counts =>
    have hj : ∀ (t : State) h, t.Sound (t.judgeInterval p h counts) := fun t h =>
      (t.keeps_judgeInterval p h counts).sound fun hn => by rw [State.judgeInterval, State.withLink_of_none hn]; exact hn
    exact next ((hj s .A).trans (hj _ .B)) h
  | lockLost p i =>
    refine next ?_ h
    split
    · exact State.sound_lockLostAt ..
    · exact .refl s
  | uptimeTick =>
    refine next ?_ h
    exact State.sound_rest rfl rfl rfl ⟨rfl, rfl⟩ ⟨id, id, id, id, rfl⟩
  | locateBlinkToggle =>
    refine next ?_ h
    split
    · next hl => exact State.sound_rest rfl rfl rfl ⟨rfl, rfl⟩ ⟨id, id, fun _ _ => hl, id, rfl⟩
    · exact .refl s
  | surveyWindowExpiry p =>
    refine next ?_ h
    split
    · next hc => exact State.sound_endSurvey hc.1
    · exact .refl s
  | settleExpiry p =>
    refine next ?_ h
    split
    · next hc =>
      split
      · exact State.sound_endSurvey hc.1
      · exact State.sound_record rfl (fun h => by cases h <;> rfl) rfl rfl id fun hr => by
          obtain ⟨h1, h2, h3, h4, h5, h6, h7, h8, h9, h10, h11⟩ := hr
          exact ⟨h1, h2, h3, h4, h5, h6, h7, h8, h9, h10, fun c => Bool.noConfusion c⟩
    · exact .refl s
  | checkQuietExpiry p h' =>
    refine next (State.sound_withLink fun l _ => ?_) h
    split
    · exact s.keeps_endChecking p h'
    · exact .refl s p h'
  | checkBoundExpiry p h' =>
    refine next (State.sound_withLink fun l _ => ?_) h
    split
    · exact s.keeps_endChecking p h'
    · exact .refl s p h'
  | retainedDwellEnd p h' =>
    refine next (State.sound_withLink fun l hl => ?_) h
    split
    · next hc => exact State.keeps_endRetained (fun t => t.keeps_restartByTest p h') hl hc.1 (by rw [hc.2]; rfl)
    · exact .refl s p h'
  | listDwellEnd p h' =>
    refine next (State.sound_withLink fun l hl => ?_) h
    split
    · next hs hd => exact State.keeps_endListDwell (fun t => t.keeps_restartByTest p h') hl hs (by rw [hd]; rfl) _
    · exact .refl s p h'
  | trainingTimerExpiry p h' =>
    refine next (State.sound_withLink fun l hl => ?_) h
    split
    · next hc => exact State.keeps_countFailure (fun t => t.keeps_restartByTest p h') hl hc.1 _
    · exact .refl s p h'
  | regroupTimerExpiry p h' =>
    refine next (State.sound_withLink fun l hl => ?_) h
    split
    · next hc => exact State.keeps_loseLanes hl hc.1 _
    · exact .refl s p h'
  | recheckTimerExpiry p h' =>
    refine next (State.sound_withLink fun l hl => ?_) h
    split
    · next t hs _ => exact State.keeps_recheckExpiry hl hs t.length
    · exact .refl s p h'
  | probeTimerExpiry p h' =>
    refine next (State.sound_withLink fun l hl => ?_) h
    split
    · next hc => exact State.keeps_probe hl hc.1
    · exact .refl s p h'
  | frameGapTimeout =>
    refine next ?_ h
    split
    · exact .refl s
    · exact s.sound_framingDiscard
  | framingError badLength =>
    refine next ?_ h
    split
    · exact .refl s
    · exact s.sound_framingDiscard
    · split
      · exact .refl s
      · exact s.sound_framingDiscard
    · exact .refl s
  | checkError =>
    refine next ?_ h
    split
    · exact s.sound_checkDiscard
    · exact .refl s
  | frameComplete body => exact next (s.sound_offer body) h
  | replySent => exact next s.sound_nextFrame h
  | byteReceived b => exact next (s.sound_takeByte b) h
  | unknownRequest code rest =>
    refine next ?_ h
    split
    · exact .refl s
    · exact State.sound_offered (.refl s) _
  | _ => exact State.sound_of_request rfl rfl h

/-- Every step carries every invariant over, from the state with the rest of the waiting commands. -/
theorem State.sound_step {t : State} (h : step s = .next t) : ∃ rest, State.Sound { s with pending := rest } t := by
  unfold step at h
  split at h
  · injection h with h; subst h; exact ⟨s.pending, .refl s⟩
  · next c rest _ => exact ⟨rest, State.sound_exec h⟩
end

/-! ### The obligations -/

/-- Settles O56. -/
theorem stepKeepsRecordsInOrder : Obligations.StepKeepsRecordsInOrder := fun _ _ h => by
  obtain ⟨_, k⟩ := State.sound_step h
  exact ⟨k.queue, k.histories, k.line, k.settings, k.locate, k.event⟩

/-- Settles O57. -/
theorem stepKeepsPortsInOrder : Obligations.StepKeepsPortsInOrder := fun _ _ hp hl h => by
  obtain ⟨_, k⟩ := State.sound_step h
  exact ⟨k.ports hp, k.lanes hp hl⟩

/-- Settles O58. -/
theorem stepKeepsLinksInOrder : Obligations.StepKeepsLinksInOrder := fun _ _ hl h => by
  obtain ⟨_, k⟩ := State.sound_step h
  exact k.links hl

/-- Settles O59. -/
theorem stepKeepsFarIdentitiesApart : Obligations.StepKeepsFarIdentitiesApart := fun _ _ hd h => by
  obtain ⟨_, k⟩ := State.sound_step h
  exact k.apart hd

/-- Settles O60. -/
theorem stepKeepsLinkRanges : Obligations.StepKeepsLinkRanges := fun _ _ hp hs hr h => by
  obtain ⟨_, k⟩ := State.sound_step h
  exact k.ranges hp hs hr

/-- Every command completes. -/
theorem exec_completes (c : Instr) (s : State) : ∃ t, exec c s = .next t := by
  cases c <;> exact ⟨_, rfl⟩

/-- Settles O2: no command has another outcome, and `State.Sound` keeps the waiting commands. -/
theorem everyCommandCompletes : Obligations.EveryCommandCompletes := fun c s => by
  obtain ⟨t, h⟩ := exec_completes c s
  exact ⟨t, h, (State.sound_exec h).pending⟩

/-- Settles O1. -/
theorem stepRunsFrontCommand : Obligations.StepRunsFrontCommand :=
  ⟨fun _ _ _ => rfl, fun s h => by rw [step, h]⟩

theorem State.port_reset (p : Port) : State.reset.port p = {} := by
  simp [State.port, State.reset]

/-- Settles O55, port by port. -/
theorem resetMeetsInvariants : Obligations.ResetMeetsInvariants := by
  have hlane : ∀ i, ({} : PortUnit).lane i = {} := fun i => by simp [PortUnit.lane]
  have hlink : ∀ p h, State.reset.link p h = none := fun p h => by
    rw [State.link, State.pos, State.port_reset]; cases h <;> rfl
  have hgood : ({} : PortUnit).Good .setup := PortUnit.good_of_idle (by decide) (by decide) (by decide)
    (fun h => by cases h <;> rfl) fun i => by rw [hlane]
  have hclean : ({} : PortUnit).Clean .setup := PortUnit.clean_of_cleared fun i => by rw [hlane]; exact ⟨rfl, rfl⟩
  refine ⟨⟨Nat.zero_le _, Nat.zero_le _⟩, fun p => ?_, by decide, State.reset_settingsOk, by decide,
    (State.portsOk_iff _).mpr fun p => by rw [State.port_reset]; exact hgood,
    (State.lanesOk_iff _).mpr fun p => by rw [State.port_reset]; exact hclean,
    (State.linksOk_iff _).mpr fun p h => by rw [hlink]; rfl, fun p h _ _ f c => ?_, (State.rangesOk_iff _).mpr fun p => ?_,
    rfl, rfl, rfl, fun p => by rw [State.port_reset]⟩
  · rw [State.port_reset]; exact ⟨Nat.zero_le _, fun c => Bool.noConfusion c⟩
  · rw [State.claims, hlink] at c; cases c
  · rw [State.port_reset]
    exact ⟨fun h => by cases h <;> rfl, fun i => by rw [hlane]; exact Nat.zero_le _⟩

end Sys2Proof.Machine

/-! SUPPORT and PROOF. The management line and the reading of requests: O4, O6, O7, O8 and O16 (R45, R55, R164 to
R171). -/

namespace Sys2Proof.Machine

open Sys2Proof

/-! ### Bodies of requests (R168, Chapter 12) -/

theorem word_hi_lo (v : BitVec 16) : word (hiByte v) (loByte v) = v := by
  unfold word hiByte loByte
  refine BitVec.eq_of_getLsbD_eq fun i hi => ?_
  rw [BitVec.getLsbD_append, BitVec.getLsbD_extractLsb', BitVec.getLsbD_extractLsb']
  by_cases h8 : i < 8
  · simp [h8]
  · have e : 8 + (i - 8) = i := by omega
    have hlt : i - 8 < 8 := by omega
    simp [h8, e, hlt]

/-- The codes that are no message. -/
theorem code_cases_of_not_message {code : Byte} (h : isMessage code = false) :
    code.toNat = 0 ∨ code.toNat = 9 ∨ code.toNat = 18 ∨ ∃ n, code.toNat = n + 30 := by
  have h9 (c : code = 9) : code.toNat = 9 := by rw [c]; rfl
  have h18 (c : code = 18) : code.toNat = 18 := by rw [c]; rfl
  simp only [isMessage, Bool.and_eq_false_iff, decide_eq_false_iff_not, bne_eq_false_iff_eq] at h
  have hlarge (c : 30 ≤ code.toNat) : ∃ n, code.toNat = n + 30 := ⟨code.toNat - 30, by omega⟩
  rcases h with (h | h) | h
  · by_cases c : 30 ≤ code.toNat
    · exact .inr (.inr (.inr (hlarge c)))
    · exact .inl (by omega)
  · exact .inr (.inl (h9 h))
  · exact .inr (.inr (.inl (h18 h)))

/-- A code that is no message is read as an UNKNOWN_REQUEST, whatever follows it. -/
theorem readBody_of_not_message {code : Byte} (h : isMessage code = false) (rest : List Byte) :
    readBody (code :: rest) = .request (.unknownRequest code rest) := by
  cases rest with
  | nil => exact if_neg (Bool.eq_false_iff.mp h)
  | cons tag params =>
    show readTagged code tag params = _
    delta readTagged
    rcases code_cases_of_not_message h with h | h | h | ⟨n, h⟩ <;> rw [h] <;> rfl

/-- Settles O4, message by message. -/
theorem requestBodyReadsBack : Obligations.RequestBodyReadsBack := by
  intro i hr hw
  cases i with
  | unknownRequest code rest => exact readBody_of_not_message (isMessage_of_wellFormed hw) rest
  | timing tag v =>
    show Reading.request (.timing tag ⟨v.debounce, _, _, _, _, _⟩) = _
    rw [word_hi_lo, word_hi_lo]
  | filter tag number enable kinds ports =>
    show Reading.request (.filter tag number enable _ _) = _
    rw [word_hi_lo, word_hi_lo]
  | planSet tag port form a b => cases b <;> rfl
  | ident | status | modeActive | modeSetup | node | timingQuery | preset | presetQuery | planTag
  | planClear | planGet | portOn | portOff | resurvey | train | isolate | recover | portGet | laneGet | historyGet | snapArm
  | snapGet | indicate | locate | fetch | focusSet | focusClear | focusRead | restart => rfl
  | _ => exact Bool.noConfusion hr

/-! ### A request and its answer (R166 to R168) -/

/-- With the executing place empty it is answered at once. -/
theorem exec_of_answer {i : Instr} (hr : isRequest i = true) (hw : WellFormed i = true) {s t : State} {r : Result} {d : Data}
    (hidle : s.executing = none) (ha : answer i s = ⟨t, r, d⟩) : exec i s = .next (t.replied i r d) := by
  rw [exec_of_request hr hw, State.offered_of_idle hidle, ha]; rfl

theorem exec_of_ok {i : Instr} (hr : isRequest i = true) (hw : WellFormed i = true) {s t : State} {d : Data}
    (hidle : s.executing = none) (ha : answer i s = .ok t d) : exec i s = .next (t.replied i .ok d) :=
  exec_of_answer hr hw hidle ha

theorem exec_of_refuse {i : Instr} (hr : isRequest i = true) (hw : WellFormed i = true) {s : State} {r : Result}
    (hidle : s.executing = none) (ha : answer i s = .refuse s r) : exec i s = .next (s.refused i r) :=
  exec_of_answer hr hw hidle ha

/-- R167: an answer is OK or ADJUSTED, or it refuses the request. -/
def Answer.Fair (s : State) (a : Answer) : Prop := a.result = .ok ∨ a.result = .adjusted ∨ a = .refuse s a.result

section
variable {s : State}

@[simp] theorem Answer.fair_ok (t : State) (d : Data) : (Answer.ok t d).Fair s := .inl rfl
@[simp] theorem Answer.fair_refuse (r : Result) : (Answer.refuse s r).Fair s := .inr (.inr rfl)

theorem fair_withPort {b : Byte} {f : Port → Answer} (hf : ∀ p, (f p).Fair s) : (withPort s b f).Fair s := by
  unfold withPort; split
  · exact hf _
  · simp

theorem fair_withHalf {b : Byte} {f : Half → Answer} (hf : ∀ h, (f h).Fair s) : (withHalf s b f).Fair s := by
  unfold withHalf; split
  · exact hf _
  · simp

theorem fair_withLinkAt {p : Port} {h : Half} {f : Link → Answer} (hf : ∀ l, (f l).Fair s) : (withLinkAt s p h f).Fair s := by
  unfold withLinkAt; split
  · simp
  · split
    · exact hf _
    · simp

theorem fair_portStateAnswer (o : Except Result PortOperand) (f : State → Port → State) : (portStateAnswer s o f).Fair s := by
  unfold portStateAnswer; split <;> simp

theorem fair_reqTiming (v : RawTiming) : (reqTiming v s).Fair s := by
  unfold reqTiming
  split
  · simp
  · split
    · simp
    · next t _ => unfold Answer.Fair; cases timingExact v t <;> simp

theorem fair_reqFilter (number enable : Byte) (kinds ports : BitVec 16) : (reqFilter number enable kinds ports s).Fair s := by
  unfold reqFilter
  split
  · simp
  · split
    · simp
    · dsimp only; split <;> simp

theorem fair_reqPlanSet (port form : Byte) (a : RawExpectation) (b : Option RawExpectation) : (reqPlanSet port form a b s).Fair s := by
  unfold reqPlanSet
  split
  · simp
  · exact fair_withPort fun p => by split <;> simp

theorem fair_reqIndicate (port source invert direct : Byte) : (reqIndicate port source invert direct s).Fair s := by
  unfold reqIndicate
  split
  · simp
  · split
    · dsimp only; split <;> simp
    · simp

theorem fair_reqRecover (port half : Byte) : (reqRecover port half s).Fair s :=
  fair_withPort fun p => fair_withHalf fun h => by
    split
    · exact fair_withLinkAt fun l => by split <;> simp
    · unfold recoverSetup; split <;> simp

/-- R167: so is every answer of a request. -/
theorem fair_answer (i : Instr) (s : State) : (answer i s).Fair s := by
  cases i
  case status _ x =>
    show (reqStatus x s).Fair s
    unfold reqStatus; split <;> simp
  case modeActive _ =>
    show (reqModeActive s).Fair s
    unfold reqModeActive; split_ifs <;> simp
  case modeSetup _ =>
    show (reqModeSetup s).Fair s
    unfold reqModeSetup; split <;> simp
  case node _ x =>
    show (reqNode x s).Fair s
    unfold reqNode; split_ifs <;> simp
  case timing => exact fair_reqTiming _
  case preset _ n a e =>
    show (reqPreset n a e s).Fair s
    unfold reqPreset; split_ifs <;> simp
  case planTag _ v =>
    show (reqPlanTag v s).Fair s
    unfold reqPlanTag; split <;> simp
  case planSet => exact fair_reqPlanSet ..
  case planClear => exact fair_withPort fun p => by simp
  case planGet => exact fair_withPort fun p => by simp
  case portOn => exact fair_portStateAnswer ..
  case portOff => exact fair_portStateAnswer ..
  case resurvey => exact fair_portStateAnswer ..
  case train => exact fair_withPort fun p => fair_withHalf fun h => fair_withLinkAt fun l => by split <;> simp
  case isolate => exact fair_withPort fun p => fair_withHalf fun h => fair_withLinkAt fun l => by split <;> simp
  case recover => exact fair_reqRecover ..
  case portGet => exact fair_withPort fun p => by split <;> simp
  case laneGet => exact fair_withPort fun p => by split <;> simp
  case historyGet => exact fair_withPort fun p => by simp
  case snapArm => exact fair_withPort fun p => fair_withHalf fun h => by split <;> simp
  case snapGet => exact fair_withPort fun p => fair_withHalf fun h => by simp
  case indicate => exact fair_reqIndicate ..
  case locate _ p =>
    show (reqLocate p s).Fair s
    unfold reqLocate; split <;> simp
  case filter => exact fair_reqFilter ..
  case focusSet _ x =>
    show (reqFocusSet x s).Fair s
    unfold reqFocusSet; split <;> simp
  case ident => exact Answer.fair_ok ..
  case timingQuery => exact Answer.fair_ok ..
  case presetQuery => exact Answer.fair_ok ..
  case fetch => exact Answer.fair_ok ..
  case focusClear => exact Answer.fair_ok ..
  case focusRead => exact Answer.fair_ok ..
  case restart => exact Answer.fair_ok ..
  all_goals exact Answer.fair_refuse _
end

end Sys2Proof.Machine

/-! PROOF. The management line, and the requests that report and set part-wide records: O5, O6, O7, O8 and O16. -/

namespace Sys2Proof.Machine

open Sys2Proof

set_option Elab.async false

/-- R167: the reply code of a request code. -/
theorem replyCode_eq (c : Byte) : replyCode c = if c.toNat < 128 then c + 128 else c := by
  have hbit (i : Nat) (hi : i < 8) : (128 : Byte).getLsbD i = decide (i = 7) := by
    revert i; decide
  have htop : c.getLsbD 7 = decide (128 ≤ c.toNat) := BitVec.msb_eq_decide c
  unfold replyCode
  split
  · next h =>
    refine (BitVec.add_eq_or_of_and_eq_zero c 128 (BitVec.eq_of_getLsbD_eq fun i hi => ?_)).symm
    rw [BitVec.getLsbD_and, hbit i hi, BitVec.getLsbD_zero]
    by_cases h7 : i = 7
    · rw [h7, htop, decide_eq_false (by omega)]; rfl
    · rw [decide_eq_false h7, Bool.and_false]
  · next h =>
    refine BitVec.eq_of_getLsbD_eq fun i hi => ?_
    rw [BitVec.getLsbD_or, hbit i hi]
    by_cases h7 : i = 7
    · rw [h7, htop, decide_eq_true (by omega)]; rfl
    · rw [decide_eq_false h7, Bool.or_false]

theorem readAnswer_requestBody {i : Instr} (hr : isRequest i = true) (hw : WellFormed i = true) :
    readAnswer (requestBody i) = answer i := by
  funext s
  rw [readAnswer, requestBodyReadsBack i hr hw]

/-- Settles O6: the row offers the body that its frame holds, and every answer is fair. -/
theorem requestsAreAnswered : Obligations.RequestsAreAnswered := by
  intro i s hr hw
  refine ⟨?_, fun hidle => ?_⟩
  · rw [exec_of_request hr hw]
    show Host.Outcome.next (State.offer _ _) = _
    rw [State.offer, readAnswer_requestBody hr hw]
  · refine ⟨(answer i s).state, (answer i s).result, (answer i s).data, exec_of_answer hr hw hidle rfl, ?_, fun h1 h2 => ?_⟩
    · rw [← replyCode_eq, ← List.drop_one]; rfl
    · rcases fair_answer i s with h | h | h
      · exact absurd h h1
      · exact absurd h h2
      · rw [h]; exact ⟨rfl, rfl⟩

/-! ### The assembler and the input hold (R164 to R166) -/

section
variable {s : State} {len : Byte} {body : List Byte}

theorem State.takeByte_hunt (h : s.assembler = .hunt) (b : Byte) :
    s.takeByte b = if b = startByte then { s with assembler := .length } else s := by
  unfold State.takeByte; rw [h]

theorem State.takeByte_length (h : s.assembler = .length) (b : Byte) : s.takeByte b =
    if 1 ≤ b.toNat ∧ b.toNat ≤ 200 then { s with assembler := .body b [] } else s.framingDiscard := by
  unfold State.takeByte; rw [h]

theorem State.takeByte_body (h : s.assembler = .body len body) (b : Byte) : s.takeByte b =
    if body.length + 1 = len.toNat then { s with assembler := .check len (body ++ [b]) none }
    else { s with assembler := .body len (body ++ [b]) } := by
  have e : (body ++ [b]).length = body.length + 1 := by simp
  unfold State.takeByte; rw [h]; dsimp only; rw [e]

theorem State.takeByte_check_first (h : s.assembler = .check len body none) (b : Byte) :
    s.takeByte b = { s with assembler := .check len body (some b) } := by
  unfold State.takeByte; rw [h]

theorem State.takeByte_check_second {c : Byte} (h : s.assembler = .check len body (some c)) (b : Byte) : s.takeByte b =
    if crc16 (len :: body) = c ++ b then ({ s with assembler := .hunt } : State).offer body else s.checkDiscard := by
  unfold State.takeByte; rw [h]

theorem exec_framingError_none (h : s.assembler ≠ .hunt) : exec (.framingError none) s = .next s.framingDiscard := by
  cases ha : s.assembler with
  | hunt => exact absurd ha h
  | _ => show execFramingError none s = _; simp only [execFramingError, ha]

theorem exec_framingError_length (h : s.assembler = .length) {b : Byte} (hb : b = 0 ∨ 201 ≤ b.toNat) :
    exec (.framingError (some b)) s = .next s.framingDiscard := by
  have hn : ¬ (1 ≤ b.toNat ∧ b.toNat ≤ 200) := by
    rintro ⟨h1, h2⟩
    rcases hb with rfl | hb
    · exact absurd h1 (by decide)
    · omega
  show execFramingError (some b) s = _
  simp only [execFramingError, h, hn, if_false]

theorem State.offered_wait (h : s.executing.isSome = true) (hw : s.waiting = none) (f : State → Answer) :
    s.offered body f = { s with waiting := some body } := by
  obtain ⟨x, hx⟩ := Option.isSome_iff_exists.mp h
  unfold State.offered; rw [hx, hw]

theorem State.offered_drop (h : s.executing.isSome = true) (hw : s.waiting.isSome = true) (f : State → Answer) :
    s.offered body f = { s with dropped := min 255 (s.dropped + 1) } := by
  obtain ⟨x, hx⟩ := Option.isSome_iff_exists.mp h
  obtain ⟨y, hy⟩ := Option.isSome_iff_exists.mp hw
  unfold State.offered; rw [hx, hy]; rfl

theorem State.nextFrame_idle (h : s.executing = none) : s.nextFrame = s := by
  unfold State.nextFrame; rw [h]

theorem State.nextFrame_alone (h : s.executing.isSome = true) (hw : s.waiting = none) :
    s.nextFrame = { s with executing := none } := by
  obtain ⟨x, hx⟩ := Option.isSome_iff_exists.mp h
  unfold State.nextFrame; rw [hx, hw]

theorem State.nextFrame_waiting (h : s.executing.isSome = true) (hw : s.waiting = some body) :
    s.nextFrame = ({ s with executing := none, waiting := none } : State).execute body := by
  obtain ⟨x, hx⟩ := Option.isSome_iff_exists.mp h
  unfold State.nextFrame; rw [hx, hw]
end

/-- Settles O7, state by state of the assembler and the input hold. -/
theorem managementLineTakesFrames : Obligations.ManagementLineTakesFrames := by
  refine ⟨fun s b => ⟨fun h => ?_, fun h => ?_, fun len taken h _ => ?_, fun len body h => ?_, fun len body c h => ?_,
    fun h => ⟨?_, exec_framingError_none h⟩, fun h hb => exec_framingError_length h hb, fun len body c h => ?_,
    fun h => ⟨?_, ?_⟩⟩, fun s body => ⟨fun h => ?_, fun h hw => ?_, fun h hw => ?_, fun h hw => ?_, fun h hw => ?_, fun h => ?_⟩,
    fun i s hr hw h => ⟨fun hn => ?_, fun hn => ?_⟩⟩
  · exact congrArg Host.Outcome.next (State.takeByte_hunt h b)
  · exact congrArg Host.Outcome.next (State.takeByte_length h b)
  · exact congrArg Host.Outcome.next (State.takeByte_body h b)
  · exact congrArg Host.Outcome.next (State.takeByte_check_first h b)
  · exact congrArg Host.Outcome.next (State.takeByte_check_second h b)
  · exact congrArg Host.Outcome.next (if_neg h)
  · show execCheckError s = _
    simp only [execCheckError, h]
    rfl
  · exact congrArg Host.Outcome.next (if_pos h)
  · show execFramingError none s = _
    simp only [execFramingError, h]
  · exact congrArg Host.Outcome.next (State.offered_of_idle (s := { s with assembler := .hunt }) h _ _)
  · exact congrArg Host.Outcome.next (State.offered_wait (s := { s with assembler := .hunt }) h hw _)
  · exact congrArg Host.Outcome.next (State.offered_drop (s := { s with assembler := .hunt }) h hw _)
  · exact congrArg Host.Outcome.next (State.nextFrame_alone h hw)
  · exact congrArg Host.Outcome.next (State.nextFrame_waiting h hw)
  · exact congrArg Host.Outcome.next (State.nextFrame_idle h)
  · rw [exec_of_request hr hw, State.offered_wait h hn]
  · rw [exec_of_request hr hw, State.offered_drop h hn]

/-! ### A whole frame on the line (R164, R174) -/

/-- One byte from the line. -/
theorem run_byteReceived {s t : State} {b : Byte} {rest : List Instr} (n : Nat)
    (h : ({ s with pending := rest } : State).takeByte b = t) :
    Sys2Proof.core.run (n + 1) { s with pending := .byteReceived b :: rest } = Sys2Proof.core.run n t := by
  subst h; rfl

/-- The bytes of a body, from the first one missing to the last. -/
theorem run_body (s : State) (len : Byte) (tail : List Instr) (n : Nat) (more : List Byte) : ∀ taken : List Byte,
    more ≠ [] → taken.length + more.length = len.toNat →
    Sys2Proof.core.run (more.length + n)
        { s with assembler := .body len taken, pending := more.map Instr.byteReceived ++ tail } =
      Sys2Proof.core.run n { s with assembler := .check len (taken ++ more) none, pending := tail } := by
  induction more with
  | nil => exact fun _ h => absurd rfl h
  | cons b more ih =>
    intro taken _ hlen
    rw [List.length_cons] at hlen
    rw [List.length_cons, Nat.succ_add_eq_add_succ, Nat.add_succ]
    refine (run_byteReceived (s := { s with assembler := .body len taken }) (more.length + n)
      (State.takeByte_body (len := len) (body := taken) rfl b)).trans ?_
    by_cases hm : more = []
    · subst hm
      rw [if_pos (by simpa using hlen), List.length_nil, Nat.zero_add]
      rfl
    · have hpos := List.length_pos_iff.mpr hm
      rw [if_neg (by omega)]
      refine (ih (taken ++ [b]) hm (by simp; omega)).trans ?_
      rw [List.append_assoc]; rfl

/-- Settles O5: HUNT, LENGTH, the bytes of the body by `run_body`, and the two bytes of the check. -/
theorem frameOnLineIsOffered : Obligations.FrameOnLineIsOffered := by
  intro s body hhunt h1 h2
  have hlen : (BitVec.ofNat 8 body.length).toNat = body.length := by simp; omega
  generalize hl : BitVec.ofNat 8 body.length = len at hlen
  generalize hc : crc16 (len :: body) = c
  have hframe : frameOf body = startByte :: len :: (body ++ [hiByte c, loByte c]) := by
    rw [frameOf, hl, hc]; rfl
  have hne : body ≠ [] := fun e => by rw [e] at h1; exact absurd h1 (by decide)
  rw [hframe, List.length_cons, List.length_cons, List.length_append, List.map_cons, List.map_cons, List.map_append]
  refine (run_byteReceived (s := s) _ ((State.takeByte_hunt (by exact hhunt) startByte).trans (if_pos rfl))).trans ?_
  refine (run_byteReceived (s := { s with assembler := .length }) _
    ((State.takeByte_length (by exact rfl) len).trans (if_pos (by omega)))).trans ?_
  refine (run_body s len _ 2 body [] hne (by simpa using hlen.symm)).trans ?_
  refine (run_byteReceived (s := { s with assembler := .check len body none }) 1
    (State.takeByte_check_first (len := len) (body := body) (by exact rfl) (hiByte c))).trans ?_
  refine (run_byteReceived (s := { s with assembler := .check len body (some (hiByte c)) }) 0
    ((State.takeByte_check_second (len := len) (body := body) (by exact rfl) (loByte c)).trans
      (if_pos (hc.trans (word_hi_lo c).symm)))).trans ?_
  rw [hhunt]
  rfl

/-- Settles O16. -/
theorem focusHoldsOnePort : Obligations.FocusHoldsOnePort := by
  intro tag target s hidle
  refine ⟨fun h => ?_, fun h => ?_, ?_, ?_⟩
  · refine exec_of_ok rfl rfl hidle ?_
    show reqFocusSet target s = _
    rw [reqFocusSet, dif_pos h]
    simp [State.focusBytes, optNum, num]
  · refine exec_of_refuse rfl rfl hidle ?_
    show reqFocusSet target s = _
    rw [reqFocusSet, dif_neg (by omega)]
  · exact exec_of_ok rfl rfl hidle rfl
  · refine (exec_of_ok rfl rfl hidle (show answer (.focusRead tag) s = .ok s s.focusBytes from rfl)).trans ?_
    cases hf : s.focus <;> simp [State.focusBytes, optNum, num, hf]

/-! ### Reports and settings -/

theorem yesNo_eq_none {b : Byte} (h : 2 ≤ b.toNat) : yesNo b = none := by
  unfold yesNo
  split
  · omega
  · omega
  · rfl

theorem presetInRange_iff {n a e : Byte} : presetInRange n a e = true ↔
    n.toNat ≤ 7 ∧ a.toNat ∈ [50, 75, 100, 125, 150] ∧ e.toNat ≤ 7 := by
  simp only [presetInRange, Bool.and_eq_true, decide_eq_true_eq, List.contains_iff_mem, and_assoc]

/-- Settles O8. -/
theorem reportsAndSettingsAnswered : Obligations.ReportsAndSettingsAnswered := by
  refine ⟨fun s => rfl, fun tag b code c n a e rest s hidle => ⟨?_, ?_, ?_, fun hb => ?_, fun hc => ?_, fun hm h1 h2 => ?_,
    fun hm hc => ?_, fun hm => ?_, fun hn hm ha he => ?_, fun hm hbad => ?_, fun hm => ?_, ?_⟩⟩
  · refine exec_of_ok rfl rfl hidle ?_
    show reqIdent s = _
    rw [reqIdent]
    congr 1
    have hp : BitVec.ofNat 8 s.position.toNat = s.position.setWidth 8 := BitVec.eq_of_toNat_eq (by simp)
    simp [num, byte, hp]
  · exact exec_of_ok rfl rfl hidle rfl
  · exact exec_of_ok rfl rfl hidle rfl
  · refine exec_of_refuse rfl rfl hidle ?_
    show reqStatus b s = _
    rw [reqStatus, yesNo_eq_none hb]
  · show Host.Outcome.next (if isMessage code = true then s else _) = _
    rw [hc]
    exact congrArg Host.Outcome.next (State.offered_of_idle hidle _ reqUnknown)
  · refine exec_of_ok rfl rfl hidle ?_
    show reqNode c s = _
    rw [reqNode, if_neg (by simp [hm]), if_pos ⟨h1, h2⟩]
  · refine exec_of_refuse rfl rfl hidle ?_
    show reqNode c s = _
    rw [reqNode, if_neg (by simp [hm]), if_neg]
    rintro ⟨h1, h2⟩
    rcases hc with rfl | hc
    · exact absurd h1 (by decide)
    · omega
  · refine exec_of_refuse rfl rfl hidle ?_
    show reqNode c s = _
    rw [reqNode, if_pos hm]
  · refine exec_of_ok rfl rfl hidle ?_
    show reqPreset n a e s = _
    have hval : (Fin.ofNat 8 n.toNat).val = n.toNat := Nat.mod_eq_of_lt hn
    rw [reqPreset, if_neg (by simp [hm]), if_pos (presetInRange_iff.mpr ⟨by omega, ha, he⟩)]
    simp only [hval]
  · refine exec_of_refuse rfl rfl hidle ?_
    show reqPreset n a e s = _
    rw [reqPreset, if_neg (by simp [hm]), if_neg]
    intro c
    obtain ⟨h1, h2, h3⟩ := presetInRange_iff.mp c
    rcases hbad with h | h | h
    · omega
    · exact h h2
    · omega
  · refine exec_of_refuse rfl rfl hidle ?_
    show reqPreset n a e s = _
    rw [reqPreset, if_pos hm]
  · exact exec_of_ok rfl rfl hidle rfl

end Sys2Proof.Machine

/-! PROOF. The layout of a lane mark reads back: O3 (R27, R175). -/

namespace Sys2Proof.Machine

open Sys2Proof

/-! ### Fields of an appended vector -/

theorem extract_high {v w : Nat} (x : BitVec v) (y : BitVec w) {start len k : Nat} (h : start = k + w) :
    (x ++ y).extractLsb' start len = x.extractLsb' k len := by
  subst h
  rw [BitVec.extractLsb'_append_eq_of_le (Nat.le_add_left ..), Nat.add_sub_cancel]

theorem extract_low {v w : Nat} (x : BitVec v) (y : BitVec w) {start len : Nat} (h : start + len ≤ w) :
    (x ++ y).extractLsb' start len = y.extractLsb' start len := BitVec.extractLsb'_append_eq_of_add_le h

theorem extract_within {w : Nat} (x : BitVec w) {start len k n : Nat} (h : k + n ≤ len) :
    (x.extractLsb' start len).extractLsb' k n = x.extractLsb' (start + k) n := by
  refine BitVec.eq_of_getLsbD_eq fun i hi => ?_
  have hk : k + i < len := by omega
  simp [hi, hk, Nat.add_assoc]

theorem getLsbD_within {w : Nat} (x : BitVec w) {start len k : Nat} (h : k < len) :
    x.getLsbD (start + k) = (x.extractLsb' start len).getLsbD k := by
  simp [h]

/-! ### The block of a mark (R175) -/

section
variable (m : Mark)

theorem Mark.extract_encode {start len : Nat} (h : start + len ≤ 80) :
    m.encode.extractLsb' (start + 8) len = m.bits.extractLsb' start len := by
  unfold Mark.encode
  rw [extract_high _ _ rfl, extract_low _ _ h]

theorem Mark.sync_encode : m.encode.extractLsb' 88 8 = syncUpright := by
  unfold Mark.encode
  rw [extract_high _ _ (by rfl), extract_high _ _ (by rfl), BitVec.extractLsb'_eq_self]

theorem Mark.bits_encode : m.encode.extractLsb' 8 80 = m.bits :=
  (m.extract_encode (start := 0) (by decide)).trans BitVec.extractLsb'_eq_self

theorem Mark.check_encode : m.encode.extractLsb' 0 8 = crc8 m.bits := by
  unfold Mark.encode
  rw [extract_low _ _ (by decide), BitVec.extractLsb'_eq_self]

/-! Its fields, each by the fields that follow it. -/

theorem Mark.chassis_bits : m.bits.extractLsb' 72 8 = m.id.id.far.chassis := by
  unfold Mark.bits
  iterate 13 rw [extract_high _ _ (by rfl)]
  rw [BitVec.extractLsb'_eq_self]

theorem Mark.position_bits : m.bits.extractLsb' 70 2 = m.id.id.far.position := by
  unfold Mark.bits
  iterate 12 rw [extract_high _ _ (by rfl)]
  rw [extract_low _ _ (by decide), BitVec.extractLsb'_eq_self]

theorem Mark.port_bits : m.bits.extractLsb' 66 4 = m.id.id.far.port := by
  unfold Mark.bits
  iterate 11 rw [extract_high _ _ (by rfl)]
  rw [extract_low _ _ (by decide), BitVec.extractLsb'_eq_self]

theorem Mark.half_bits : m.bits.extractLsb' 65 1 = halfBit m.id.id.far.half := by
  unfold Mark.bits
  iterate 10 rw [extract_high _ _ (by rfl)]
  rw [extract_low _ _ (by decide), BitVec.extractLsb'_eq_self]

theorem Mark.lane_bits : m.bits.extractLsb' 62 3 = m.id.id.lane := by
  unfold Mark.bits
  iterate 9 rw [extract_high _ _ (by rfl)]
  rw [extract_low _ _ (by decide), BitVec.extractLsb'_eq_self]

theorem Mark.span_bits : m.bits.extractLsb' 60 2 = widthCode m.id.span := by
  unfold Mark.bits
  iterate 8 rw [extract_high _ _ (by rfl)]
  rw [extract_low _ _ (by decide), BitVec.extractLsb'_eq_self]

theorem Mark.tag_bits : m.bits.extractLsb' 52 8 = m.tag := by
  unfold Mark.bits
  iterate 7 rw [extract_high _ _ (by rfl)]
  rw [extract_low _ _ (by decide), BitVec.extractLsb'_eq_self]

theorem Mark.phase_bits : m.bits.extractLsb' 49 3 = BitVec.ofNat 3 m.phase.code := by
  unfold Mark.bits
  iterate 6 rw [extract_high _ _ (by rfl)]
  rw [extract_low _ _ (by decide), BitVec.extractLsb'_eq_self]

theorem Mark.grade_bits : m.bits.extractLsb' 45 4 = m.grade := by
  unfold Mark.bits
  iterate 5 rw [extract_high _ _ (by rfl)]
  rw [extract_low _ _ (by decide), BitVec.extractLsb'_eq_self]

theorem Mark.usable_bits : m.bits.extractLsb' 37 8 = m.usable := by
  unfold Mark.bits
  iterate 4 rw [extract_high _ _ (by rfl)]
  rw [extract_low _ _ (by decide), BitVec.extractLsb'_eq_self]

theorem Mark.proposal_bits : m.bits.extractLsb' 31 6 = proposalBits m.proposal := by
  unfold Mark.bits
  iterate 3 rw [extract_high _ _ (by rfl)]
  rw [extract_low _ _ (by decide), BitVec.extractLsb'_eq_self]

theorem Mark.accept_bits : m.bits.extractLsb' 30 1 = boolBit m.accept := by
  unfold Mark.bits
  iterate 2 rw [extract_high _ _ (by rfl)]
  rw [extract_low _ _ (by decide), BitVec.extractLsb'_eq_self]

theorem Mark.echo_bits : m.bits.extractLsb' 11 19 = echoBits m.echo := by
  unfold Mark.bits
  rw [extract_high _ _ (by rfl), extract_low _ _ (by decide), BitVec.extractLsb'_eq_self]
end

/-! ### Codes -/

theorem halfOfBit_halfBit (h : Half) : halfOfBit (halfBit h) = h := by cases h <;> rfl

theorem widthOfCode_widthCode {w : Nat} (h : w ∈ [1, 2, 4, 8]) : widthOfCode (widthCode w) = w := by
  simp only [List.mem_cons, List.not_mem_nil, or_false] at h
  rcases h with rfl | rfl | rfl | rfl <;> rfl

theorem phaseOfCode_code (x : Phase) : phaseOfCode (BitVec.ofNat 3 x.code) = some x := by cases x <;> rfl

/-- The proposal of a block, by its six proposal bits. -/
theorem readProposal_eq {b : MarkBits} {g : Option Group} (hb : b.extractLsb' 39 6 = proposalBits g)
    (hg : ∀ x, g = some x → x.width ∈ [1, 2, 4, 8] ∧ x.start ≤ 7) : readProposal b = g := by
  unfold readProposal
  rw [show b.getLsbD 44 = _ from getLsbD_within b (start := 39) (len := 6) (k := 5) (by decide),
    show b.extractLsb' 42 2 = _ from (extract_within b (start := 39) (len := 6) (k := 3) (by decide)).symm,
    show b.extractLsb' 39 3 = _ from (extract_within b (start := 39) (len := 6) (k := 0) (by decide)).symm, hb]
  cases g with
  | none => rfl
  | some g =>
    obtain ⟨hw, hs⟩ := hg g rfl
    have h3 : (1#1 ++ widthCode g.width ++ BitVec.ofNat 3 g.start).extractLsb' 3 2 = widthCode g.width := by
      rw [extract_high _ _ (by rfl), extract_low _ _ (by decide), BitVec.extractLsb'_eq_self]
    have h0 : (1#1 ++ widthCode g.width ++ BitVec.ofNat 3 g.start).extractLsb' 0 3 = BitVec.ofNat 3 g.start := by
      rw [extract_low _ _ (by decide), BitVec.extractLsb'_eq_self]
    have hn : (BitVec.ofNat 3 g.start).toNat = g.start := by simp; omega
    rw [show proposalBits (some g) = 1#1 ++ widthCode g.width ++ BitVec.ofNat 3 g.start from rfl, h3, h0, hn,
      widthOfCode_widthCode hw]
    have hbit : (1#1 ++ widthCode g.width ++ BitVec.ofNat 3 g.start).getLsbD 5 = true := by
      rw [show ∀ x : BitVec 6, x.getLsbD 5 = _ from fun x => getLsbD_within x (start := 5) (len := 1) (k := 0) (by decide),
        extract_high _ _ (by rfl), extract_high _ _ (by rfl)]
      rfl
    rw [hbit]
    rfl

/-- The echo of a block, by its nineteen echo bits. -/
theorem readEcho_eq {b : MarkBits} {e : Option LaneId} (hb : b.extractLsb' 19 19 = echoBits e) : readEcho b = e := by
  unfold readEcho readLaneId
  have within : ∀ k n, k + n ≤ 19 → b.extractLsb' (19 + k) n = (echoBits e).extractLsb' k n := fun k n h => by
    rw [← hb, extract_within b h]
  rw [show b.getLsbD 37 = _ from getLsbD_within b (start := 19) (len := 19) (k := 18) (by decide), hb,
    within 10 8 (by decide), within 8 2 (by decide), within 4 4 (by decide), within 3 1 (by decide),
    show b.extractLsb' 19 3 = _ from within 0 3 (by decide)]
  cases e with
  | none => rfl
  | some e =>
    generalize hx : echoBits (some e) = x
    replace hx : x = 1#1 ++ e.far.chassis ++ e.far.position ++ e.far.port ++ halfBit e.far.half ++ e.lane := hx.symm
    have hc : x.extractLsb' 10 8 = e.far.chassis := by
      rw [hx]
      iterate 4 rw [extract_high _ _ (by rfl)]
      rw [extract_low _ _ (by decide), BitVec.extractLsb'_eq_self]
    have hp : x.extractLsb' 8 2 = e.far.position := by
      rw [hx]
      iterate 3 rw [extract_high _ _ (by rfl)]
      rw [extract_low _ _ (by decide), BitVec.extractLsb'_eq_self]
    have hpt : x.extractLsb' 4 4 = e.far.port := by
      rw [hx]
      iterate 2 rw [extract_high _ _ (by rfl)]
      rw [extract_low _ _ (by decide), BitVec.extractLsb'_eq_self]
    have hh : x.extractLsb' 3 1 = halfBit e.far.half := by
      rw [hx, extract_high _ _ (by rfl), extract_low _ _ (by decide), BitVec.extractLsb'_eq_self]
    have hl : x.extractLsb' 0 3 = e.lane := by
      rw [hx, extract_low _ _ (by decide), BitVec.extractLsb'_eq_self]
    have hbit : x.getLsbD 18 = true := by
      rw [show x.getLsbD 18 = _ from getLsbD_within x (start := 18) (len := 1) (k := 0) (by decide), hx]
      iterate 5 rw [extract_high _ _ (by rfl)]
      rfl
    rw [hc, hp, hpt, hh, hl, hbit, halfOfBit_halfBit]
    rfl

/-- R27: a block read inverted is the block read upright. -/
theorem sync_not (b : MarkBits) : (~~~ b).extractLsb' 88 8 = ~~~ (b.extractLsb' 88 8) := by
  refine BitVec.eq_of_getLsbD_eq fun i hi => ?_
  have : 88 + i < 96 := by omega
  simp [hi, this]

theorem Mark.frame_encode (m : Mark) :
    frameBlock m.encode = some (false, m.encode) ∧ frameBlock (~~~ m.encode) = some (true, m.encode) := by
  have h := m.sync_encode
  have hn : (~~~ m.encode).extractLsb' 88 8 = syncInverted := by rw [sync_not, h]; rfl
  refine ⟨by rw [frameBlock, if_pos h], ?_⟩
  rw [frameBlock, hn, if_neg (by decide), if_pos rfl, BitVec.not_not]

/-- The identity and the span of a block. -/
theorem Mark.id_encode (m : Mark) (hs : m.id.span ∈ [1, 2, 4, 8]) :
    (⟨readLaneId m.encode 70, widthOfCode (m.encode.extractLsb' 68 2)⟩ : HeardId) = m.id := by
  have e := fun start len h => m.extract_encode (start := start) (len := len) h
  unfold readLaneId
  rw [e 72 8 (by decide), e 70 2 (by decide), e 66 4 (by decide), e 65 1 (by decide), e 62 3 (by decide), e 60 2 (by decide),
    m.chassis_bits, m.position_bits, m.port_bits, m.half_bits, m.lane_bits, m.span_bits, halfOfBit_halfBit,
    widthOfCode_widthCode hs]

/-- Settles O3, field by field. -/
theorem laneMarkReadsBack : Obligations.LaneMarkReadsBack := by
  intro m hm
  simp only [Mark.Ok, Bool.and_eq_true, decide_eq_true_eq, List.contains_iff_mem] at hm
  obtain ⟨⟨⟨⟨⟨h1, h250⟩, hlane⟩, hspan⟩, hs⟩, hprop⟩ := hm
  refine ⟨m.frame_encode.1, m.frame_encode.2, ?_⟩
  have e := fun start len h => m.extract_encode (start := start) (len := len) h
  have hid := m.id_encode hs
  have hacc : m.encode.getLsbD 38 = m.accept := by
    rw [show m.encode.getLsbD 38 = _ from getLsbD_within m.encode (start := 38) (len := 1) (k := 0) (by decide),
      e 30 1 (by decide), m.accept_bits]
    cases m.accept <;> rfl
  have hpr : readProposal m.encode = m.proposal := readProposal_eq ((e 31 6 (by decide)).trans m.proposal_bits)
    fun g hg => by rw [hg] at hprop; simpa using hprop
  have hecho : readEcho m.encode = m.echo := readEcho_eq ((e 11 19 (by decide)).trans m.echo_bits)
  have hphase : phaseOfCode (m.encode.extractLsb' 57 3) = some m.phase := by
    rw [show m.encode.extractLsb' 57 3 = _ from e 49 3 (by decide), m.phase_bits, phaseOfCode_code]
  have hc : ¬ (m.id.id.far.chassis = 0 ∨ 250 < m.id.id.far.chassis.toNat) := by
    rintro (c | c)
    · rw [c] at h1; exact absurd h1 (by decide)
    · omega
  have htag : m.encode.extractLsb' 60 8 = m.tag := (e 52 8 (by decide)).trans m.tag_bits
  have hgrade : m.encode.extractLsb' 53 4 = m.grade := (e 45 4 (by decide)).trans m.grade_bits
  have husable : m.encode.extractLsb' 45 8 = m.usable := (e 37 8 (by decide)).trans m.usable_bits
  unfold readMark
  rw [hid]
  simp only [m.sync_encode, m.bits_encode, m.check_encode, hphase, hc, hlane, hspan, htag, hgrade, husable, hpr, hacc, hecho,
    ne_eq, not_true, if_false, Bool.not_true, Bool.false_eq_true]

end Sys2Proof.Machine

/-! SUPPORT and PROOF. Operands and lengths of requests: O17 (R156, R167 to R170, R174). -/

namespace Sys2Proof.Machine

open Sys2Proof

/-! ### Lengths of the messages (R168 test 2) -/

theorem read0_badLength : ∀ {params : List Byte}, params.length ≠ 0 → ∀ i, read0 params i = .badLength
  | [], h, _ => absurd rfl h
  | _ :: _, _, _ => rfl

theorem read1_badLength : ∀ {params : List Byte}, params.length ≠ 1 → ∀ f, read1 params f = .badLength
  | [], _, _ | _ :: _ :: _, _, _ => rfl
  | [_], h, _ => absurd rfl h

theorem read2_badLength : ∀ {params : List Byte}, params.length ≠ 2 → ∀ f, read2 params f = .badLength
  | [], _, _ | [_], _, _ | _ :: _ :: _ :: _, _, _ => rfl
  | [_, _], h, _ => absurd rfl h

theorem readMode_badLength (tag : Byte) : ∀ {params : List Byte}, params.length ≠ 1 → readMode tag params = .badLength
  | [], _ | _ :: _ :: _, _ => rfl
  | [_], h => absurd rfl h

theorem readTiming_badLength (tag : Byte) : ∀ {params : List Byte}, params.length ≠ 0 ∧ params.length ≠ 8 →
    readTiming tag params = .badLength
  | [], h => absurd rfl h.1
  | [_, _, _, _, _, _, _, _], h => absurd rfl h.2
  | [_], _ | [_, _], _ | [_, _, _], _ | [_, _, _, _], _ | [_, _, _, _, _], _ | [_, _, _, _, _, _], _
  | [_, _, _, _, _, _, _], _ | _ :: _ :: _ :: _ :: _ :: _ :: _ :: _ :: _ :: _, _ => rfl

theorem readPreset_badLength (tag : Byte) : ∀ {params : List Byte}, params.length ≠ 0 ∧ params.length ≠ 3 →
    readPreset tag params = .badLength
  | [], h => absurd rfl h.1
  | [_, _, _], h => absurd rfl h.2
  | [_], _ | [_, _], _ | _ :: _ :: _ :: _ :: _, _ => rfl

theorem readSnapArm_badLength (tag : Byte) : ∀ {params : List Byte}, params.length ≠ 3 → readSnapArm tag params = .badLength
  | [_, _, _], h => absurd rfl h
  | [], _ | [_], _ | [_, _], _ | _ :: _ :: _ :: _ :: _, _ => rfl

theorem readIndicate_badLength (tag : Byte) : ∀ {params : List Byte}, params.length ≠ 4 → readIndicate tag params = .badLength
  | [_, _, _, _], h => absurd rfl h
  | [], _ | [_], _ | [_, _], _ | [_, _, _], _ | _ :: _ :: _ :: _ :: _ :: _, _ => rfl

theorem readFilter_badLength (tag : Byte) : ∀ {params : List Byte}, params.length ≠ 6 → readFilter tag params = .badLength
  | [_, _, _, _, _, _], h => absurd rfl h
  | [], _ | [_], _ | [_, _], _ | [_, _, _], _ | [_, _, _, _], _ | [_, _, _, _, _], _
  | _ :: _ :: _ :: _ :: _ :: _ :: _ :: _, _ => rfl

theorem readFocus_badLength (tag : Byte) : ∀ {params : List Byte}, params.length ≠ 1 ∧ params.length ≠ 2 →
    readFocus tag params = .badLength
  | [_], h => absurd rfl h.1
  | [_, _], h => absurd rfl h.2
  | [], _ | _ :: _ :: _ :: _, _ => rfl

/-- An expectation read takes 13 bytes. -/
theorem length_of_readExpectation {a : RawExpectation} {rest : List Byte} : ∀ {params : List Byte},
    readExpectation params = some (a, rest) → params.length = rest.length + 13
  | _ :: _ :: _ :: _ :: _ :: _ :: _ :: _ :: _ :: _ :: _ :: _ :: _ :: _, h =>
    congrArg (fun x => x.2.length + 13) (Option.some.inj h)
  | [], h | [_], h | [_, _], h | [_, _, _], h | [_, _, _, _], h | [_, _, _, _, _], h | [_, _, _, _, _, _], h
  | [_, _, _, _, _, _, _], h | [_, _, _, _, _, _, _, _], h | [_, _, _, _, _, _, _, _, _], h
  | [_, _, _, _, _, _, _, _, _, _], h | [_, _, _, _, _, _, _, _, _, _, _], h
  | [_, _, _, _, _, _, _, _, _, _, _, _], h => nomatch h

theorem readPlanSet_badLength (tag : Byte) : ∀ {params : List Byte}, params.length ≠ 15 ∧ params.length ≠ 28 →
    readPlanSet tag params = .badLength
  | [], _ | [_], _ => rfl
  | port :: form :: rest, ⟨h15, h28⟩ => by
    delta readPlanSet
    dsimp only
    split
    · next ha => exact absurd (congrArg (· + 2) (length_of_readExpectation ha)) h15
    · next more _ ha =>
      split
      · next hb =>
        refine absurd (congrArg (· + 2) ((length_of_readExpectation ha).trans ?_)) h28
        rw [length_of_readExpectation hb]; rfl
      · rfl
    · rfl

/-! ### Lengths of the codes -/

theorem ne_of_not_mem_one {n m : Nat} (h : n + 1 + 1 ∉ [m + 1 + 1]) : n ≠ m := fun c => h (c ▸ .head _)

theorem ne_of_not_mem_two {n m k : Nat} (h : n + 1 + 1 ∉ [m + 1 + 1, k + 1 + 1]) : n ≠ m ∧ n ≠ k :=
  ⟨fun c => h (c ▸ .head _), fun c => h (c ▸ .tail _ (.head _))⟩

/-- R167: the codes of the messages. -/
def messageCodes : List Byte :=
  [1, 2, 3, 4, 5, 6, 7, 8, 10, 11, 12, 13, 14, 15, 16, 17, 19, 20, 21, 22, 23, 24, 25, 26, 27, 28, 29]

/-- A message of another length than those of its code is not read, code by code. -/
theorem readTagged_badLength (tag : Byte) (params : List Byte) : ∀ code ∈ messageCodes,
    params.length + 1 + 1 ∉ bodyLengths code.toNat → readTagged code tag params = .badLength := by
  simp only [messageCodes, List.forall_mem_cons]
  exact ⟨fun h => read0_badLength (ne_of_not_mem_one h) _, fun h => read1_badLength (ne_of_not_mem_one h) _,
    fun h => readMode_badLength _ (ne_of_not_mem_one h), fun h => read1_badLength (ne_of_not_mem_one h) _,
    fun h => readTiming_badLength _ (ne_of_not_mem_two h), fun h => readPreset_badLength _ (ne_of_not_mem_two h),
    fun h => read1_badLength (ne_of_not_mem_one h) _, fun h => readPlanSet_badLength _ (ne_of_not_mem_two h),
    fun h => read1_badLength (ne_of_not_mem_one h) _, fun h => read1_badLength (ne_of_not_mem_one h) _,
    fun h => read1_badLength (ne_of_not_mem_one h) _, fun h => read1_badLength (ne_of_not_mem_one h) _,
    fun h => read1_badLength (ne_of_not_mem_one h) _, fun h => read2_badLength (ne_of_not_mem_one h) _,
    fun h => read2_badLength (ne_of_not_mem_one h) _, fun h => read2_badLength (ne_of_not_mem_one h) _,
    fun h => read2_badLength (ne_of_not_mem_one h) _, fun h => read2_badLength (ne_of_not_mem_one h) _,
    fun h => read1_badLength (ne_of_not_mem_one h) _, fun h => readSnapArm_badLength _ (ne_of_not_mem_one h),
    fun h => read2_badLength (ne_of_not_mem_one h) _, fun h => readIndicate_badLength _ (ne_of_not_mem_one h),
    fun h => read1_badLength (ne_of_not_mem_one h) _, fun h => readFilter_badLength _ (ne_of_not_mem_one h),
    fun h => read1_badLength (ne_of_not_mem_one h) _, fun h => readFocus_badLength _ (ne_of_not_mem_two h),
    fun h => read0_badLength (ne_of_not_mem_one h) _, fun _ h => nomatch h⟩

theorem mem_messages (n : Fin 30) : 1 ≤ n.val → (BitVec.ofNat 8 n != 9) = true → (BitVec.ofNat 8 n != 18) = true →
    BitVec.ofNat 8 n ∈ messageCodes := by
  revert n; decide +kernel

/-- A message of another length than those of its code. -/
theorem readBody_badLength {code : Byte} {rest : List Byte} (hm : isMessage code = true)
    (hl : rest.length + 1 ∉ bodyLengths code.toNat) : readBody (code :: rest) = .badLength := by
  cases rest with
  | nil => exact if_pos hm
  | cons tag params =>
    simp only [isMessage, Bool.and_eq_true, decide_eq_true_eq] at hm
    obtain ⟨⟨⟨h1, h29⟩, h9⟩, h18⟩ := hm
    have hcode : BitVec.ofNat 8 code.toNat = code := BitVec.eq_of_toNat_eq (Nat.mod_eq_of_lt code.isLt)
    have hc := mem_messages ⟨code.toNat, by omega⟩ h1 (by rwa [hcode]) (by rwa [hcode])
    rw [hcode] at hc
    exact readTagged_badLength tag params code hc hl

/-! ### Selectors (log entry 19) -/

section
variable {x : Byte} {params : List Byte}

theorem readFocus_other_length (h : (x = 0 ∧ params = []) ∨ ((x = 1 ∨ x = 2) ∧ params.length = 1)) (tag : Byte) :
    readFocus tag (x :: params) = .badLength := by
  rcases h with ⟨rfl, rfl⟩ | ⟨hx, hl⟩
  · rfl
  · obtain ⟨t, rfl⟩ := List.length_eq_one_iff.mp hl
    rcases hx with rfl | rfl <;> rfl

theorem readFocus_badSelector (hx : 3 ≤ x.toNat) (hl : params.length ≤ 1) (tag : Byte) :
    readFocus tag (x :: params) = .badSelector := by
  obtain ⟨k, hk⟩ : ∃ k, x.toNat = k + 3 := ⟨x.toNat - 3, by omega⟩
  match params, hl with
  | [], _ => simp only [readFocus, hk]
  | [t], _ => simp only [readFocus, hk]

theorem readMode_badSelector (hx : 2 ≤ x.toNat) (tag : Byte) : readMode tag [x] = .badSelector := by
  simp only [readMode]
  split
  · omega
  · omega
  · rfl
end

/-! ### Port operands (R168 tests 3 and 4, R169) -/

section
variable {s : State} {b : Byte} {p : Port} {all none' : Bool}

/-- A port operand, by its byte. -/
theorem portOperand_number (h : b.toNat < 16) : portOperand s all none' b = .ok (.one ⟨b.toNat, h⟩) := dif_pos h

theorem portOperand_focus (hb : b = 0xF0) : portOperand s all none' b =
    (match s.focus with
     | some p => .ok (.one p)
     | none => .error .noFocus) := by
  subst hb
  exact (dif_neg (by decide)).trans (if_pos rfl)

theorem portOperand_other (h : 16 ≤ b.toNat) (hb : b ≠ 0xF0) : portOperand s all none' b =
    if b = 0xFE ∧ all = true then .ok .all else if b = 0xFF ∧ none' = true then .ok .none else .error .badPort := by
  rw [portOperand, dif_neg (by omega), if_neg hb]

theorem onePort_number (h : b.toNat < 16) : onePort s b = .ok ⟨b.toNat, h⟩ := by
  rw [onePort, portOperand_number h]

theorem onePort_focus (hf : s.focus = some p) : onePort s 0xF0 = .ok p := by
  rw [onePort, portOperand_focus rfl, hf]

theorem onePort_no_focus (hf : s.focus = none) : onePort s 0xF0 = .error .noFocus := by
  rw [onePort, portOperand_focus rfl, hf]

theorem onePort_other (h : 16 ≤ b.toNat) (hb : b ≠ 0xF0) : onePort s b = .error .badPort := by
  rw [onePort, portOperand_other h hb]; simp

/-- The three kinds of a port operand byte. -/
theorem port_byte_cases (b : Byte) : b.toNat < 16 ∨ b = 0xF0 ∨ (16 ≤ b.toNat ∧ b ≠ 0xF0) := by
  by_cases h : b.toNat < 16
  · exact .inl h
  · by_cases hb : b = 0xF0
    · exact .inr (.inl hb)
    · exact .inr (.inr ⟨by omega, hb⟩)

theorem onePort_eq_ok_iff : onePort s b = .ok p ↔ b.toNat = p.val ∨ (b = 0xF0 ∧ s.focus = some p) := by
  rcases port_byte_cases b with h | rfl | ⟨h, hb⟩
  · have hne : b ≠ 0xF0 := by rintro rfl; exact absurd h (by decide)
    rw [onePort_number h]
    simp only [Except.ok.injEq, Fin.ext_iff, hne, false_and, or_false]
  · have hp : (0xF0 : Byte).toNat ≠ p.val := by
      have := p.isLt
      have e : (0xF0 : Byte).toNat = 240 := rfl
      omega
    cases hf : s.focus with
    | none => rw [onePort_no_focus hf]; simp only [reduceCtorEq, hp, and_false, or_false]
    | some q => rw [onePort_focus hf]; simp only [Except.ok.injEq, Option.some.injEq, hp, true_and, false_or]
  · rw [onePort_other h hb]
    have := p.isLt
    simp only [reduceCtorEq, hb, false_and, or_false, false_iff]
    omega

theorem onePort_eq_noFocus_iff : onePort s b = .error .noFocus ↔ b = 0xF0 ∧ s.focus = none := by
  rcases port_byte_cases b with h | rfl | ⟨h, hb⟩
  · have hne : b ≠ 0xF0 := by rintro rfl; exact absurd h (by decide)
    rw [onePort_number h]; simp only [reduceCtorEq, hne, false_and]
  · cases hf : s.focus with
    | none => rw [onePort_no_focus hf]; simp
    | some q => rw [onePort_focus hf]; simp
  · rw [onePort_other h hb]; simp only [Except.error.injEq, reduceCtorEq, hb, false_and]

theorem onePort_eq_badPort_iff : onePort s b = .error .badPort ↔ 16 ≤ b.toNat ∧ b ≠ 0xF0 := by
  rcases port_byte_cases b with h | rfl | ⟨h, hb⟩
  · rw [onePort_number h]
    simp only [reduceCtorEq, false_iff]
    omega
  · cases hf : s.focus with
    | none => rw [onePort_no_focus hf]; simp
    | some q => rw [onePort_focus hf]; simp
  · rw [onePort_other h hb]; simp only [h, hb, ne_eq, not_false_eq_true, and_self]

theorem portOperand_eq_noFocus_iff : portOperand s all none' b = .error .noFocus ↔ b = 0xF0 ∧ s.focus = none := by
  rcases port_byte_cases b with h | rfl | ⟨h, hb⟩
  · have hne : b ≠ 0xF0 := by rintro rfl; exact absurd h (by decide)
    rw [portOperand_number h]; simp only [reduceCtorEq, hne, false_and]
  · rw [portOperand_focus rfl]
    cases hf : s.focus <;> simp
  · rw [portOperand_other h hb]
    split_ifs <;> simp only [reduceCtorEq, Except.error.injEq, hb, false_and]

theorem portOperand_eq_badPort_iff : portOperand s all none' b = .error .badPort ↔
    16 ≤ b.toNat ∧ b ≠ 0xF0 ∧ (b = 0xFE → all = false) ∧ (b = 0xFF → none' = false) := by
  rcases port_byte_cases b with h | rfl | ⟨h, hb⟩
  · rw [portOperand_number h]
    simp only [reduceCtorEq, false_iff, not_and]
    omega
  · rw [portOperand_focus rfl]
    cases hf : s.focus <;> simp
  · rw [portOperand_other h hb]
    split_ifs with h1 h2
    · simp [h1]
    · simp [h2]
    · simp_all

/-- A single port is an operand of every message. -/
theorem portOperand_of_onePort (h : onePort s b = .ok p) : portOperand s all none' b = .ok (.one p) := by
  rcases onePort_eq_ok_iff.mp h with h | ⟨rfl, hf⟩
  · rw [portOperand_number (by have := p.isLt; omega)]
    simp only [h]
  · rw [portOperand_focus rfl, hf]

theorem halfOperand_eq_none (h : 2 ≤ b.toNat) : halfOperand b = none := by
  unfold halfOperand
  split
  · omega
  · omega
  · rfl

theorem withHalf_of_none (h : halfOperand b = none) (f : Half → Answer) : withHalf s b f = .refuse s .range := by
  rw [withHalf, h]
end

/-! ### A complete frame (R166) -/

/-- With the executing place empty a complete frame executes. -/
theorem exec_frame_of_idle {s : State} (hidle : s.executing = none) (body : List Byte) : exec (.frameComplete body) s =
    .next ((readAnswer body { s with assembler := .hunt }).reply body) :=
  congrArg Host.Outcome.next (State.offered_of_idle (s := { s with assembler := .hunt }) hidle body (readAnswer body))

section
variable {s : State} {body : List Byte}

theorem readAnswer_badLength (h : readBody body = .badLength) : readAnswer body s = .refuse s .length := by
  rw [readAnswer, h]

theorem readAnswer_badSelector (h : readBody body = .badSelector) : readAnswer body s = .refuse s .range := by
  rw [readAnswer, h]
end

/-- Settles O17. -/
theorem operandsAreTested : Obligations.OperandsAreTested := by
  intro code tag b x y z params rest s hidle
  refine ⟨fun hm => ?_, fun hm hl => ?_, fun h => ?_, fun p => onePort_eq_ok_iff, onePort_eq_noFocus_iff, onePort_eq_badPort_iff,
    fun _ _ => ⟨portOperand_eq_noFocus_iff, portOperand_eq_badPort_iff⟩, fun r hr => ⟨?_, fun form e e' hfit => ?_⟩, fun r hr => ?_,
    fun r hr => ?_, fun p hp hx => ?_, fun p h hp hx hno => ?_, fun hx => ?_, fun hx hl => ?_⟩
  · rw [exec_frame_of_idle hidle, readAnswer, readBody_of_not_message hm]; rfl
  · rw [exec_frame_of_idle hidle, readAnswer_badLength (readBody_badLength hm hl)]
  · rw [exec_frame_of_idle hidle, readAnswer_badLength (body := 28 :: tag :: x :: params) (readFocus_other_length h tag)]
  · simp only [List.mem_cons, List.not_mem_nil, or_false]
    rintro i (rfl | rfl | rfl | rfl | rfl | rfl | rfl | rfl | rfl | rfl) <;>
      exact exec_of_refuse rfl rfl hidle (withPort_of_error hr _)
  · refine exec_of_refuse rfl rfl hidle ?_
    show reqPlanSet b form e e' s = _
    rw [reqPlanSet, hfit]
    exact withPort_of_error hr _
  · refine exec_of_refuse rfl rfl hidle ?_
    show reqIndicate b x y z s = _
    rw [reqIndicate, hr]
  · refine exec_of_refuse rfl rfl hidle ?_
    show reqLocate b s = _
    rw [reqLocate, hr]
  · have hhalf := halfOperand_eq_none hx
    simp only [List.mem_cons, List.not_mem_nil, or_false]
    rintro i (rfl | rfl | rfl | rfl | rfl) <;>
      exact exec_of_refuse rfl rfl hidle ((withPort_of_ok hp _).trans (withHalf_of_none hhalf _))
  · simp only [List.mem_cons, List.not_mem_nil, or_false]
    rintro i (rfl | rfl) <;>
      exact exec_of_refuse rfl rfl hidle
        ((withPort_of_ok hp _).trans ((withHalf_of_some hx _).trans (withLinkAt_of_no_position hno _)))
  · rw [exec_frame_of_idle hidle, readAnswer_badSelector (body := [3, tag, x]) (readMode_badSelector hx tag)]
  · rw [exec_frame_of_idle hidle,
      readAnswer_badSelector (body := 28 :: tag :: x :: params) (readFocus_badSelector hx hl tag)]

end Sys2Proof.Machine

/-! PROOF. Full reset, PORT_ON, the indicator requests: O14, O22 and O25 (R12, R15, R18, R162). -/

namespace Sys2Proof.Machine

open Sys2Proof

set_option Elab.async false

/-! ### Full reset -/

theorem Vector.ext_lane {α : Type} {v w : Vector α 8} (h : ∀ i : Lane, v[i] = w[i]) : v = w :=
  Vector.ext fun i hi => h ⟨i, hi⟩

/-- R162: the lanes of a port after full reset. -/
theorem PortUnit.lanes_afterReset (q : PortUnit) :
    q.afterReset.lanes = Vector.ofFn fun i : Fin 8 => { signal := (q.lane i).signal } := by
  refine Vector.ext_lane fun i => ?_
  have h : q.afterReset.lane i = { signal := (q.lane i).signal } := PortUnit.lane_mapLanes _ _ i
  simpa [PortUnit.lane] using h

/-- Settles O14: the fold writes each port once. -/
theorem fullResetClears : Obligations.FullResetClears := by
  intro pos mspd s
  obtain ⟨h1, -, hp⟩ := State.forPorts_each (R := fun p _ x => x = (s.port p).afterReset)
    (s := { State.reset with pending := s.pending, replies := s.replies, position := pos, lineFast := mspd == .high })
    (f := fun t p => t.setPort p (s.port p).afterReset) fun t p _ =>
      ⟨t.onlyPort_modPort p (f := fun _ => (s.port p).afterReset) fun _ => ((s.port p).afterReset_good .setup 0).2.2.2,
        t.port_modPort_self p fun _ => (s.port p).afterReset⟩
  refine ⟨_, rfl, h1, fun p => ?_⟩
  rw [hp, State.port_reset, ← PortUnit.lanes_afterReset]
  rfl

/-! ### A message over one port or all (R168, R169) -/

section
variable {s : State} {b : Byte} {p : Port} {f : State → Port → State}

theorem portStateAnswer_one (o : Except Result PortOperand) (ho : o = .ok (.one p)) :
    portStateAnswer s o f = .ok (f s p) (num ((f s p).port p).state.code) := by rw [ho]; rfl

theorem portStateAnswer_all (o : Except Result PortOperand) (ho : o = .ok .all) :
    portStateAnswer s o f = .ok (s.inEvent fun u => u.forPorts f) (s.inEvent fun u => u.forPorts f).portStates := by
  rw [ho]; rfl

theorem portStateAnswer_error {r : Result} (o : Except Result PortOperand) (ho : o = .error r) :
    portStateAnswer s o f = .refuse s r := by rw [ho]; rfl

theorem portOperand_all (none' : Bool) : portOperand s true none' 0xFE = .ok .all := by
  rw [portOperand_other (by decide) (by decide)]; rfl

theorem portOperand_not_all (none' : Bool) : portOperand s false none' 0xFE = .error .badPort := by
  rw [portOperand_other (by decide) (by decide)]; rfl

theorem portOperand_none (all : Bool) : portOperand s all true 0xFF = .ok .none := by
  rw [portOperand_other (by decide) (by decide)]; cases all <;> rfl

/-- A fold over the ports within one event. -/
theorem State.inEvent_forPorts {R : Port → PortUnit → PortUnit → Prop}
    (hf : ∀ t p, t = { s.event with ports := t.ports } → State.OnlyPort t (f t p) p ∧ R p (t.port p) ((f t p).port p)) :
    (s.inEvent fun u => u.forPorts f) = { s with ports := (s.inEvent fun u => u.forPorts f).ports } ∧
      ∀ p, R p (s.port p) ((s.inEvent fun u => u.forPorts f).port p) := by
  obtain ⟨h1, -, hp⟩ := State.forPorts_each (s := s.event) hf
  exact ⟨congrArg (fun u : State => { u with eventLoss := s.eventLoss }) h1, hp⟩
end

/-! ### PORT_ON -/

/-- R12: a port in OFF that is turned on. -/
def PortUnit.turnedOn (q : PortUnit) (now : Uptime) : PortUnit :=
  ({ q with state := .empty, enabled := true, accepted := false, debounceCount := 0 } : PortUnit).append
    ⟨now, .port .off .empty, .portOn⟩

section
variable {s : State} {p : Port}

theorem State.portOn_of_off (hs : (s.port p).state = .off) : s.portOn p = s.setPort p ((s.port p).turnedOn s.uptime) := by
  rw [State.portOn, if_pos hs, State.portTo, State.log, State.modPort_modPort, State.modPort_modPort, State.modPort,
    State.port_modPort_self, hs]
  rfl

theorem State.portOn_of_not_off (hs : (s.port p).state ≠ .off) : s.portOn p = s := if_neg hs

theorem State.onlyPort_portOn (s : State) (p : Port) : s.OnlyPort (s.portOn p) p := by
  unfold State.portOn
  split
  · exact (s.onlyPort_modPort p id).trans (State.onlyPort_portTo _ p _ _)
  · exact .refl s p

theorem reqPortOn_all (s : State) : reqPortOn 0xFE s =
    .ok (s.inEvent fun u => u.forPorts fun t p => t.portOn p) (s.inEvent fun u => u.forPorts fun t p => t.portOn p).portStates :=
  portStateAnswer_all _ (portOperand_all false)

/-- Settles O22. -/
theorem portOnTakesOffPortToEmpty : Obligations.PortOnTakesOffPortToEmpty := by
  intro tag b s hidle
  refine ⟨fun p hp hs => ?_, fun p hp hs => ?_, ?_, fun r hr => ?_⟩
  · refine exec_of_ok rfl rfl hidle ?_
    rw [show answer (.portOn tag b) s = _ from portStateAnswer_one _ (portOperand_of_onePort hp), State.portOn_of_not_off hs]
  · refine exec_of_ok rfl rfl hidle ?_
    rw [show answer (.portOn tag b) s = _ from portStateAnswer_one _ (portOperand_of_onePort hp), State.portOn_of_off hs,
      State.port_setPort_self]
    congr 1
    rw [PortUnit.turnedOn, PortUnit.append_eq]; rfl
  · obtain ⟨h1, hp⟩ := State.inEvent_forPorts (s := s) (f := fun t p => t.portOn p)
      (R := fun _ q x => x = if q.state = .off then q.turnedOn s.uptime else q) fun t p ht =>
        ⟨t.onlyPort_portOn p, by
          have hup : t.uptime = s.uptime := by rw [ht]; rfl
          split
          · next hs => rw [State.portOn_of_off hs, State.port_setPort_self, hup]
          · next hs => rw [State.portOn_of_not_off hs]⟩
    exact ⟨_, exec_of_ok (i := .portOn tag 0xFE) rfl rfl hidle (reqPortOn_all s), h1, hp⟩
  · exact exec_of_refuse rfl rfl hidle (portStateAnswer_error _ hr)
end

/-! ### INDICATE and LOCATE -/

section
variable {s : State} {b x v d : Byte}

theorem num_toNat (b : Byte) : num b.toNat = byte b := by simp [num]

theorem num_of_toNat {n : Nat} (h : b.toNat = n) : num n = byte b := by rw [← h, num_toNat]

/-- The codes read back. -/
theorem code_of_sourceOf {a : IndSource} (h : sourceOf x = some a) : num a.code = byte x := by
  unfold sourceOf at h
  split at h
  case h_6 => cases h
  all_goals next hx => rw [← num_of_toNat hx, ← Option.some.inj h]; rfl

theorem code_of_yesNo {a : Bool} (h : yesNo v = some a) : flag a = byte v := by
  unfold yesNo at h
  split at h
  case h_3 => cases h
  all_goals next hx => rw [← num_of_toNat hx, ← Option.some.inj h]; rfl

theorem code_of_directOf {a : IndDirect} (h : directOf d = some a) : num a.code = byte d := by
  unfold directOf at h
  split at h
  case h_4 => cases h
  all_goals next hx => rw [← num_of_toNat hx, ← Option.some.inj h]; rfl

theorem sourceOf_eq_none (h : 5 ≤ x.toNat) : sourceOf x = none := by
  obtain ⟨k, hk⟩ : ∃ k, x.toNat = k + 5 := ⟨x.toNat - 5, by omega⟩
  simp only [sourceOf, hk]

theorem directOf_eq_none (h : 3 ≤ d.toNat) : directOf d = none := by
  obtain ⟨k, hk⟩ : ∃ k, d.toNat = k + 3 := ⟨d.toNat - 3, by omega⟩
  simp only [directOf, hk]

/-- R15: INDICATE with settings in range, by its operand. -/
theorem reqIndicate_one {p : Port} {source : IndSource} {invert : Bool} {direct : IndDirect}
    (ho : portOperand s true false b = .ok (.one p)) (hx : sourceOf x = some source) (hv : yesNo v = some invert)
    (hd : directOf d = some direct) : reqIndicate b x v d s = .ok (s.setIndicator p source invert direct)
      (num source.code ++ flag invert ++ num direct.code ++ flag ((s.setIndicator p source invert direct).ind p)) := by
  rw [reqIndicate, ho]; dsimp only; rw [hx, hv, hd]

theorem reqIndicate_all {source : IndSource} {invert : Bool} {direct : IndDirect}
    (ho : portOperand s true false b = .ok .all) (hx : sourceOf x = some source) (hv : yesNo v = some invert)
    (hd : directOf d = some direct) : reqIndicate b x v d s =
      .ok (s.forPorts fun t p => t.setIndicator p source invert direct)
        (num source.code ++ flag invert ++ num direct.code ++
          allPorts.flatMap fun p => flag ((s.forPorts fun t p => t.setIndicator p source invert direct).ind p)) := by
  rw [reqIndicate, ho]; dsimp only; rw [hx, hv, hd]

theorem reqIndicate_range {p : Port} (ho : portOperand s true false b = .ok (.one p))
    (h : 5 ≤ x.toNat ∨ 2 ≤ v.toNat ∨ 3 ≤ d.toNat) : reqIndicate b x v d s = .refuse s .range := by
  rw [reqIndicate, ho]
  dsimp only
  rcases h with h | h | h
  · rw [sourceOf_eq_none h]
  · rw [yesNo_eq_none h]
    cases sourceOf x <;> rfl
  · rw [directOf_eq_none h]
    cases sourceOf x <;> cases yesNo v <;> rfl
end

/-- Settles O25. -/
theorem indicateAndLocateAct : Obligations.IndicateAndLocateAct := by
  intro tag b x v d s hidle
  refine ⟨fun source invert direct hx hv hd => ⟨fun p hp => ⟨_, rfl, ?_⟩, ?_⟩, fun p hp h => ?_, fun p hp => ?_, ?_, ?_, ?_⟩
  · have hcodes : num source.code ++ flag invert ++ num direct.code = [.given x, .given v, .given d] := by
      rw [code_of_sourceOf hx, code_of_yesNo hv, code_of_directOf hd]; rfl
    rw [← hcodes]
    exact exec_of_ok rfl rfl hidle (reqIndicate_one (portOperand_of_onePort hp) hx hv hd)
  · have hcodes : num source.code ++ flag invert ++ num direct.code = [.given x, .given v, .given d] := by
      rw [code_of_sourceOf hx, code_of_yesNo hv, code_of_directOf hd]; rfl
    obtain ⟨h1, -, hp⟩ := State.forPorts_each (s := s) (f := fun t p => t.setIndicator p source invert direct)
      (R := fun _ q r => r = { q with indSource := source, indInvert := invert, indDirect := direct }) fun t p _ =>
        ⟨t.onlyPort_modPort p id, t.port_modPort_self p _⟩
    refine ⟨_, h1, hp, ?_⟩
    rw [← hcodes]
    refine exec_of_ok rfl rfl hidle ?_
    rw [show answer (.indicate tag 0xFE x v d) s = reqIndicate 0xFE x v d s from rfl,
      reqIndicate_all (portOperand_all false) hx hv hd]
  · exact exec_of_refuse rfl rfl hidle (reqIndicate_range (portOperand_of_onePort hp) h)
  · refine exec_of_ok rfl rfl hidle ?_
    rw [show answer (.locate tag b) s = reqLocate b s from rfl, reqLocate, portOperand_of_onePort hp]
    rfl
  · refine exec_of_ok rfl rfl hidle ?_
    rw [show answer (.locate tag 0xFF) s = reqLocate 0xFF s from rfl, reqLocate, portOperand_none]
  · refine exec_of_refuse rfl rfl hidle ?_
    rw [show answer (.locate tag 0xFE) s = reqLocate 0xFE s from rfl, reqLocate, portOperand_not_all]
  · show Host.Outcome.next (if s.locate.isSome = true then _ else s) = _
    cases h : s.locate <;> rfl

end Sys2Proof.Machine

/-! PROOF. The requests that report records, and the storing of plan entries: O18 and O21 (R42, R46 to R48, R56, R153,
R155, R172, R173). -/

namespace Sys2Proof.Machine

open Sys2Proof

/-- R174 rules 4 and 7: the second byte of an absent identity keeps its reserved bit zero. -/
theorem fill_absent_identity (n : Nat) (before after : Data) : ∃ y : Byte,
    ((fillData n (before ++ optId none ++ after)).drop before.length).take 2 = [0, y] ∧ y.getLsbD 0 = false := by
  refine ⟨(0xFE : Byte) &&& Config.absentByte n (before.length + 1), ?_, by simp⟩
  have hid : optId none = [.given 0, .free 0xFE] := rfl
  rw [fillData, List.append_assoc, List.zipIdx_append, List.map_append, List.drop_left' (by simp), hid]
  simp [DataByte.fill]

/-! ### The requests that report (R56, R153, R155, R172, R173) -/

section
variable {s : State} {b x m : Byte} {p : Port}

theorem reqPortGet_range (hp : onePort s b = .ok p) (hx : 4 ≤ x.toNat) : reqPortGet b x s = .refuse s .range := by
  obtain ⟨k, hk⟩ : ∃ k, x.toNat = k + 4 := ⟨x.toNat - 4, by omega⟩
  rw [reqPortGet, withPort_of_ok hp]
  simp only [hk]

theorem snapModeOf_eq_none (hm : 3 ≤ m.toNat) : snapModeOf m = none := by
  obtain ⟨k, hk⟩ : ∃ k, m.toNat = k + 3 := ⟨m.toNat - 3, by omega⟩
  simp only [snapModeOf, hk]

theorem code_of_snapModeOf {a : SnapMode} (h : snapModeOf m = some a) : a.code = m.toNat := by
  unfold snapModeOf at h
  split at h
  case h_4 => cases h
  all_goals next hx => rw [hx, ← Option.some.inj h]; rfl
end

/-- Settles O21. -/
theorem recordRequestsAct : Obligations.RecordRequestsAct := by
  intro tag b x m s p hidle hp
  refine ⟨exec_of_ok rfl rfl hidle (withPort_of_ok hp _), exec_of_ok rfl rfl hidle (withPort_of_ok hp _),
    exec_of_ok rfl rfl hidle (withPort_of_ok hp _), exec_of_ok rfl rfl hidle (withPort_of_ok hp _),
    exec_of_ok rfl rfl hidle (withPort_of_ok hp _), fun hx => exec_of_refuse rfl rfl hidle (reqPortGet_range hp hx),
    fun h => exec_of_ok rfl rfl hidle ((withPort_of_ok hp _).trans (dif_pos h)),
    fun hx => exec_of_refuse rfl rfl hidle ((withPort_of_ok hp _).trans (dif_neg (by omega))), fun h hh => ?_,
    length_planBytes _, length_portSection s p, fun h => length_positionBytes _, length_laneEntries _, length_laneBytes s p,
    exec_of_ok rfl rfl hidle (withPort_of_ok hp _), fun h mode hh hm => ?_, fun h hh hm => ?_, ⟨rfl, rfl, rfl⟩,
    fill_absent_identity⟩
  · exact exec_of_ok rfl rfl hidle ((withPort_of_ok hp _).trans (withHalf_of_some hh _))
  · refine exec_of_ok rfl rfl hidle ((withPort_of_ok hp _).trans ((withHalf_of_some hh _).trans ?_))
    rw [hm, ← code_of_snapModeOf hm]; rfl
  · refine exec_of_refuse rfl rfl hidle ((withPort_of_ok hp _).trans ((withHalf_of_some hh _).trans ?_))
    rw [snapModeOf_eq_none hm]

end Sys2Proof.Machine

/-! PROOF. The storing of plan entries: O18 (R42, R46 to R48). -/

namespace Sys2Proof.Machine

open Sys2Proof

/-! ### Values of an expectation (R42, R46) -/

section
variable {b : Byte}

theorem expectedField_eq_some {α : Type} {ok : Bool} {v : α} {o : Option α} (h255 : b = 0xFF → ok = false) :
    expectedField b ok v = some o ↔ (b = 0xFF ∧ o = none) ∨ (ok = true ∧ o = some v) := by
  unfold expectedField
  split
  · next h => simp [h, h255 h, eq_comm]
  · next h =>
    cases ok
    · simp only [Bool.false_eq_true, if_false, reduceCtorEq, h, false_and, or_self]
    · simp only [if_true, Option.some.injEq, h, false_and, true_and, false_or, eq_comm]

theorem chassis_expected {o : Option Byte} :
    expectedField b (decide (1 ≤ b.toNat ∧ b.toNat ≤ 250)) b = some o ↔
      (b = 0xFF ∧ o = none) ∨ (1 ≤ b.toNat ∧ b.toNat ≤ 250 ∧ o = some b) := by
  rw [expectedField_eq_some (by rintro rfl; decide), decide_eq_true_eq, and_assoc]

/-- A number below 2 ^ w as a field of w bits. -/
theorem number_expected {w m : Nat} (hw : w < 8) (hm : m + 1 = 2 ^ w) {o : Option (BitVec w)} :
    expectedField b (decide (b.toNat ≤ m)) (BitVec.ofNat w b.toNat) = some o ↔
      (b = 0xFF ∧ o = none) ∨ ∃ v : BitVec w, o = some v ∧ b.toNat = v.toNat := by
  have hp : 2 ^ w < 256 := Nat.pow_lt_pow_right (by decide) hw |>.trans_eq (by decide)
  have hpos := Nat.two_pow_pos w
  rw [expectedField_eq_some]
  · refine or_congr_right ⟨fun ⟨h, ho⟩ => ⟨_, ho, ?_⟩, ?_⟩
    · rw [decide_eq_true_eq] at h
      rw [BitVec.toNat_ofNat, Nat.mod_eq_of_lt (by omega)]
    · rintro ⟨v, rfl, hv⟩
      have := v.isLt
      refine ⟨by rw [decide_eq_true_eq]; omega, ?_⟩
      rw [hv, BitVec.ofNat_toNat, BitVec.setWidth_eq]
  · rintro rfl
    have e : (0xFF : Byte).toNat = 255 := rfl
    rw [decide_eq_false_iff_not]
    omega

theorem byte_eq_iff (n : Nat) (hn : n < 256) : b = BitVec.ofNat 8 n ↔ b.toNat = n := by
  rw [← BitVec.toNat_inj, BitVec.toNat_ofNat, Nat.mod_eq_of_lt hn]

theorem half_expected {o : Option Half} :
    expectedField b (decide (b.toNat ≤ 1)) (if b = 0 then Half.A else Half.B) = some o ↔
      (b = 0xFF ∧ o = none) ∨ (b = 0 ∧ o = some .A) ∨ (b = 1 ∧ o = some .B) := by
  rw [expectedField_eq_some (by rintro rfl; decide), decide_eq_true_eq]
  refine or_congr_right ?_
  have h0 := byte_eq_iff (b := b) 0 (by decide)
  have h1 := byte_eq_iff (b := b) 1 (by decide)
  by_cases hz : b = 0
  · subst hz; simp
  · have hz' : b.toNat ≠ 0 := fun c => hz (h0.mpr c)
    rw [if_neg hz]
    constructor
    · rintro ⟨h, ho⟩
      exact .inr ⟨h1.mpr (by omega), ho⟩
    · rintro (⟨h, -⟩ | ⟨h, ho⟩)
      · exact absurd h hz
      · exact ⟨le_of_eq (h1.mp h), ho⟩

theorem yesNo_expected {o : Bool} : yesNo b = some o ↔ (b = 0 ∧ o = false) ∨ (b = 1 ∧ o = true) := by
  have h0 := byte_eq_iff (b := b) 0 (by decide)
  have h1 := byte_eq_iff (b := b) 1 (by decide)
  unfold yesNo
  split
  · next h => rw [h0.mpr h]; simp [eq_comm]
  · next h => rw [h1.mpr h]; simp [eq_comm]
  · next hn0 hn1 =>
    have e0 : ¬ b = 0 := fun c => hn0 (h0.mp c)
    have e1 : ¬ b = 1 := fun c => hn1 (h1.mp c)
    simp only [e0, e1, false_and, or_self, reduceCtorEq]

theorem minWidth_iff {form : Form} (n : Nat) :
    (n = 1 ∨ n = 2 ∨ n = 4 ∨ (n = 8 ∧ form = .full)) ↔ n ∈ [1, 2, 4, 8] ∧ (form = .split → n ≤ 4) := by
  rw [List.mem_cons, List.mem_cons, List.mem_cons, List.mem_singleton]
  cases form with
  | full => simp only [reduceCtorEq, false_implies, and_true]
  | split => simp only [reduceCtorEq, forall_const, and_false, or_false]; omega

theorem minWidth_expected {form : Form} {n : Nat} :
    minWidthValue form b = some n ↔ n = b.toNat ∧ n ∈ [1, 2, 4, 8] ∧ (form = .split → n ≤ 4) := by
  unfold minWidthValue
  rw [Option.ite_none_right_eq_some, minWidth_iff, Option.some.injEq]
  constructor
  · rintro ⟨h, rfl⟩; exact ⟨rfl, h⟩
  · rintro ⟨rfl, h⟩; exact ⟨h, rfl⟩

theorem presetList_expected {r : RawExpectation} {L : List Nat} : presetList r = some L ↔
    r.presetCount.toNat ≤ 4 ∧
      L = ([r.preset1.toNat, r.preset2.toNat, r.preset3.toNat, r.preset4.toNat]).take r.presetCount.toNat ∧
      (∀ n ∈ L, n ≤ 7) ∧ L.Nodup := by
  unfold presetList
  simp only [List.map_cons, List.map_nil, List.all_eq_true, decide_eq_true_eq]
  split
  · next h =>
    rw [Option.some.injEq]
    exact ⟨fun e => e ▸ ⟨h.1, rfl, h.2⟩, fun e => e.2.1.symm⟩
  · next h =>
    refine iff_of_false (by simp) ?_
    rintro ⟨h1, rfl, h2⟩
    exact h ⟨h1, h2⟩

theorem minGrade_expected {n : Nat} : minGradeValue b = some n ↔ (b = 0xFF ∧ n = 6) ∨ (b.toNat ≤ 15 ∧ n = b.toNat) := by
  unfold minGradeValue
  split
  · next h =>
    subst h
    have e : ¬ (0xFF : Byte).toNat ≤ 15 := by decide
    simp only [Option.some.injEq, true_and, e, false_and, or_false, eq_comm]
  · next h =>
    split
    · next h15 => simp only [Option.some.injEq, h, false_and, false_or, h15, true_and, eq_comm]
    · next h15 => simp only [h, h15, false_and, or_self, reduceCtorEq]
end

/-- R42, R46: the expectation that bytes in range carry. -/
theorem expectationOf_eq_some {r : RawExpectation} {form : Form} {x : Expectation} :
    expectationOf form r = some x ↔ ExpectationMeans r form x := by
  obtain ⟨chassis, position, port, half, minWidth, reversal, autoTrain, presets, minGrade⟩ := x
  simp only [expectationOf, Option.bind_eq_bind, Option.bind_eq_some_iff, Option.pure_def, Option.some.injEq,
    chassis_expected, half_expected, yesNo_expected, minWidth_expected, presetList_expected, minGrade_expected,
    number_expected (w := 2) (by decide) (by decide : 3 + 1 = 2 ^ 2), number_expected (w := 4) (by decide) (by decide : 15 + 1 = 2 ^ 4)]
  constructor
  · rintro ⟨_, h1, _, h2, _, h3, _, h4, _, h5, _, h6, _, h7, _, h8, _, h9, h⟩
    obtain ⟨rfl, rfl, rfl, rfl, rfl, rfl, rfl, rfl, rfl⟩ := Expectation.mk.inj h
    exact ⟨h1, h2, h3, h4, h5.1, h5.2.1, h5.2.2, h6, h7, h8.1, h8.2.1, h8.2.2.1, h8.2.2.2, h9⟩
  · rintro ⟨h1, h2, h3, h4, h5, h5', h5'', h6, h7, h8, h8', h8'', h8''', h9⟩
    exact ⟨_, h1, _, h2, _, h3, _, h4, _, ⟨h5, h5', h5''⟩, _, h6, _, h7, _, ⟨h8, h8', h8'', h8'''⟩, _, h9, rfl⟩

/-! ### Entries (R46) -/

section
variable {form : Byte} {a : RawExpectation} {b : Option RawExpectation}

theorem formOfByte_full : formOfByte form = some .full ↔ form = 0 := by
  refine Iff.trans ?_ (byte_eq_iff (b := form) 0 (by decide)).symm
  unfold formOfByte
  split <;> simp_all

theorem formOfByte_split : formOfByte form = some .split ↔ form = 1 := by
  refine Iff.trans ?_ (byte_eq_iff (b := form) 1 (by decide)).symm
  unfold formOfByte
  split <;> simp_all

theorem entryOf_eq_some {e : PlanEntry} : entryOf form a b = some e ↔
    (form = 0 ∧ b = none ∧ ∃ x, ExpectationMeans a .full x ∧ e = ⟨.full, x, none⟩) ∨
    (form = 1 ∧ ∃ b' x y, b = some b' ∧ ExpectationMeans a .split x ∧ ExpectationMeans b' .split y ∧
      e = ⟨.split, x, some y⟩) := by
  simp only [← formOfByte_full, ← formOfByte_split, ← expectationOf_eq_some]
  unfold entryOf
  cases hf : formOfByte form with
  | none => simp
  | some f =>
    cases f <;> cases b
    · simp [eq_comm]
    · simp
    · simp
    · next b' =>
      simp only [Option.some.injEq, reduceCtorEq, false_and, false_or, exists_and_left, exists_eq_left', true_and]
      generalize expectationOf .split a = x
      generalize expectationOf .split b' = y
      cases x <;> cases y <;> simp [eq_comm]

theorem planLengthFits_of_entryOf {e : PlanEntry} (h : entryOf form a b = some e) : planLengthFits form b = true := by
  unfold planLengthFits
  rcases entryOf_eq_some.mp h with ⟨hf, rfl, -⟩ | ⟨hf, b', -, -, rfl, -⟩
  · rw [formOfByte_full.mpr hf]; rfl
  · rw [formOfByte_split.mpr hf]; rfl
end

section
variable {s : State} {p : Port} {entry : Option PlanEntry}

/-- R48: an edit, whatever request makes it. -/
theorem answer_of_edits {i : Instr} (h : s.edits i p entry) :
    answer i s = (let t := if (s.port p).plan = entry then s else s.editPlan p entry
      .ok t (t.port p).editBytes) ∧ isRequest i = true ∧ WellFormed i = true := by
  rcases h with ⟨tag, port, form, a, b, e, rfl, hp, he, rfl⟩ | ⟨tag, port, rfl, hp, rfl⟩
  · refine ⟨?_, rfl, rfl⟩
    show reqPlanSet port form a b s = _
    rw [reqPlanSet, planLengthFits_of_entryOf he]
    refine (withPort_of_ok hp _).trans ?_
    rw [he]
  · exact ⟨withPort_of_ok hp _, rfl, rfl⟩

theorem State.editPlan_of_not_assigned (hs : (s.port p).state ≠ .assigned) : s.editPlan p entry = s.edited p entry := by
  rw [State.editPlan, if_pos hs, State.dropContexts, State.modPort_modPort]
  rfl
end

/-- Settles O18. -/
theorem planEditIsStored : Obligations.PlanEditIsStored := by
  refine ⟨fun form a b e => entryOf_eq_some, fun s p hidle => ⟨fun i entry h => ?_, fun tag port form a b =>
    ⟨fun hfit => ?_, fun hfit hp he => ?_⟩⟩⟩
  · obtain ⟨ha, hr, hw⟩ := answer_of_edits h
    refine ⟨fun heq => exec_of_ok hr hw hidle ?_, fun hne hs => exec_of_ok hr hw hidle ?_⟩
    · rw [ha, if_pos heq]
    · rw [ha, if_neg hne, State.editPlan_of_not_assigned hs]
  · refine exec_of_refuse rfl rfl hidle ?_
    show reqPlanSet port form a b s = _
    rw [reqPlanSet, hfit]; rfl
  · refine exec_of_refuse rfl rfl hidle ?_
    show reqPlanSet port form a b s = _
    rw [reqPlanSet, hfit]
    refine (withPort_of_ok hp _).trans ?_
    rw [he]

end Sys2Proof.Machine

/-! SUPPORT and PROOF. Presence and the descriptor read: O30, O32 (R2 to R9, R19). -/

namespace Sys2Proof.Machine

open Sys2Proof

set_option Elab.async false

section
variable {s : State} {p : Port}

theorem State.setPort_self (s : State) (p : Port) : s.setPort p (s.port p) = s := by
  show ({ s with ports := s.ports.set p.val s.ports[p] } : State) = s
  rw [show s.ports[p] = s.ports[p.val] from rfl, Vector.set_getElem_self]

/-- R14: a change of a port's state, with its history entry, as one new record. -/
theorem State.portTo_eq (s : State) (p : Port) (x : PortState) (r : Reason) : s.portTo p x r =
    s.setPort p (({ s.port p with state := x } : PortUnit).append ⟨s.uptime, .port (s.port p).state x, r⟩) := by
  rw [State.portTo, State.log, State.modPort_modPort]
  rfl

/-- R14: a change of a port's state after another change of its record. -/
theorem State.portTo_modPort (s : State) (p : Port) {f : PortUnit → PortUnit} {y : PortUnit} {left x : PortState}
    (hl : (f (s.port p)).state = left) (hy : { f (s.port p) with state := x } = y) (r : Reason) :
    (s.modPort p f).portTo p x r = s.setPort p (y.append ⟨s.uptime, .port left x, r⟩) := by
  subst hl hy
  rw [State.portTo, State.log, State.modPort_modPort, State.modPort_modPort, State.port_modPort_self]
  rfl

/-! ### Presence (R2 to R4) -/

theorem PortUnit.linePresent_iff {q : PortUnit} : q.linePresent = true ↔ q.presN = .low := by
  unfold PortUnit.linePresent
  cases q.presN <;> simp

/-- R4: the port after a cable is accepted on it. -/
theorem State.cableIn_eq (hs : (s.port p).state = .empty) : s.cableIn p =
    (s.setPort p (({ s.port p with state := .seating, accepted := true, readAttempt := 1 } : PortUnit).append
      ⟨s.uptime, .port .empty .seating, .cableIn⟩)).postPort p .cableIn := by
  rw [State.cableIn, State.portTo_modPort s p hs rfl]

theorem State.acceptPresence_same {b : Bool} (h : (s.port p).accepted = b) : s.acceptPresence p b = s := if_pos h

theorem State.acceptPresence_in (ha : (s.port p).accepted = false) (hs : (s.port p).state = .empty) :
    s.acceptPresence p true = s.cableIn p :=
  (if_neg (by rw [ha]; decide)).trans (if_pos hs)

theorem State.acceptPresence_out (ha : (s.port p).accepted = true) (h1 : (s.port p).state ≠ .off)
    (h2 : (s.port p).state ≠ .empty) : s.acceptPresence p false = s.cableOut p :=
  (if_neg (by rw [ha]; decide)).trans (if_neg (not_or.mpr ⟨h1, h2⟩))

/-! ### Removal (R9) -/

/-- R9: the record of a port whose links are gone, after the removal of its cable. -/
def PortUnit.unplugged (q : PortUnit) : PortUnit :=
  { ({ q.bared.abandon with desc := none, fault := none, accepted := false } : PortUnit) with state := .empty }

theorem PortUnit.state_abandon (q : PortUnit) : q.abandon.state = q.state := by rw [PortUnit.abandon_eq]

theorem State.uptime_removeLinks (s : State) (p : Port) (reason : Reason) : (s.removeLinks p reason).uptime = s.uptime :=
  State.uptime_of_bare (s.bare_removeLinks p reason)

theorem State.cableOut_eq (s : State) (p : Port) : s.cableOut p =
    ((s.removeLinks p .cableOut).setPort p
      (((s.removeLinks p .cableOut).port p).unplugged.append
        ⟨s.uptime, .port (s.port p).state .empty, .cableOut⟩)).postPort p (.cableOut (s.port p).state) := by
  have hst : ((s.removeLinks p .cableOut).port p).state = (s.port p).state :=
    (PortUnit.fields_of_bare (s.vacated_removeLinks p .cableOut).bare).1
  have hu := s.uptime_removeLinks p .cableOut
  rw [State.cableOut]
  generalize s.removeLinks p .cableOut = u at hst hu
  rw [State.dropAll_eq, State.modPort_modPort, State.modPort_modPort,
    State.portTo_modPort (left := (s.port p).state) (y := (u.port p).unplugged) _ _ ?_ ?_, hu]
  · exact (PortUnit.state_abandon _).trans hst
  · generalize u.port p = q
    rfl

theorem PortUnit.append_fields (q : PortUnit) (e : HistEntry) : (q.append e).state = q.state ∧
    (q.append e).accepted = q.accepted ∧ (q.append e).debounceCount = q.debounceCount := by
  rw [PortUnit.append_eq]
  exact ⟨rfl, rfl, rfl⟩

/-- R9: what a removal leaves of presence. -/
theorem State.presence_cableOut (s : State) (p : Port) : ((s.cableOut p).port p).accepted = false ∧
    ((s.cableOut p).port p).debounceCount = (s.port p).debounceCount := by
  obtain ⟨-, -, -, hc, -⟩ := PortUnit.fields_of_bare (s.vacated_removeLinks p .cableOut).bare
  obtain ⟨-, h2, h3⟩ := PortUnit.append_fields ((s.removeLinks p .cableOut).port p).unplugged
    ⟨s.uptime, .port (s.port p).state .empty, .cableOut⟩
  rw [State.cableOut_eq, State.port_postPort, State.port_setPort_self, h2, h3]
  exact ⟨rfl, (by simp only [PortUnit.unplugged, PortUnit.abandon_eq]; rfl : _ = _).trans hc⟩

/-! ### Samples (R2, R3) -/

theorem State.sample_same (h : (s.port p).linePresent = (s.port p).accepted) :
    s.sample p = s.setPort p { s.port p with debounceCount := 0 } := if_pos h

theorem State.sample_first (h : (s.port p).linePresent ≠ (s.port p).accepted) (hc : (s.port p).debounceCount = 0) :
    s.sample p = s.setPort p { s.port p with debounceCount := 1 } := (if_neg h).trans (if_pos hc)

theorem State.sample_second (h : (s.port p).linePresent ≠ (s.port p).accepted) (hc : (s.port p).debounceCount ≠ 0) :
    s.sample p = (s.setPort p { s.port p with debounceCount := 0 }).acceptPresence p (s.port p).linePresent :=
  (if_neg h).trans (if_neg hc)

/-- R2, R4: the second sample of another level, on a port in order. -/
theorem State.presence_sample_second (hr : (s.port p).RecordOk) (h : (s.port p).linePresent ≠ (s.port p).accepted)
    (hc : (s.port p).debounceCount = 1) : ((s.sample p).port p).accepted = (s.port p).linePresent ∧
      ((s.sample p).port p).debounceCount = 0 := by
  obtain ⟨-, hacc, -, hoff, -⟩ := hr
  have h1 : (s.port p).state ≠ .off := fun c => by rw [hoff c] at hc; cases hc
  rw [State.sample_second h (by rw [hc]; decide)]
  generalize hu : s.setPort p { s.port p with debounceCount := 0 } = u
  have hup : u.port p = { s.port p with debounceCount := 0 } := by rw [← hu, State.port_setPort_self]
  cases hp : (s.port p).linePresent
  · have ha : (s.port p).accepted = true := by rw [hp] at h; simpa using h.symm
    have h2 := (hacc.mp ha).2
    rw [State.acceptPresence_out (by rw [hup]; exact ha) (by rw [hup]; exact h1) (by rw [hup]; exact h2)]
    obtain ⟨e1, e2⟩ := u.presence_cableOut p
    exact ⟨e1, e2.trans (by rw [hup])⟩
  · have ha : (s.port p).accepted = false := by rw [hp] at h; simpa using h.symm
    have h2 : (s.port p).state = .empty := by
      by_contra c
      rw [hacc.mpr ⟨h1, c⟩] at ha
      cases ha
    have hs : (u.port p).state = .empty := by rw [hup]; exact h2
    obtain ⟨-, e2, e3⟩ := PortUnit.append_fields
      { u.port p with state := .seating, accepted := true, readAttempt := 1 } ⟨u.uptime, .port .empty .seating, .cableIn⟩
    rw [State.acceptPresence_in (by rw [hup]; exact ha) hs, State.cableIn_eq hs, State.port_postPort,
      State.port_setPort_self, e2, e3, hup]
    exact ⟨rfl, rfl⟩

end

/-! ### O30 -/

theorem State.setPort_setPort (s : State) (p : Port) (q r : PortUnit) : (s.setPort p q).setPort p r = s.setPort p r :=
  s.modPort_modPort p (fun _ => q) fun _ => r

section
variable {s : State} {p : Port}

theorem exec_presenceSample_idle (h : (s.port p).state = .off ∨ s.timing.debounce = .none) :
    exec (.presenceSample p) s = .next s :=
  congrArg Host.Outcome.next (if_neg fun c => h.elim c.1 c.2)

theorem exec_presenceSample (h1 : (s.port p).state ≠ .off) (h2 : s.timing.debounce ≠ .none) :
    exec (.presenceSample p) s = .next (s.sample p) :=
  congrArg Host.Outcome.next (if_pos ⟨h1, h2⟩)

theorem exec_presNChange_off {level : Level} (h : (s.port p).state = .off ∨ s.timing.debounce ≠ .none) :
    exec (.presNChange p level) s = .next (s.setPort p { s.port p with presN := level }) :=
  congrArg Host.Outcome.next (if_neg fun c => h.elim c.1 fun d => d c.2)

theorem exec_presNChange {level : Level} (h1 : (s.port p).state ≠ .off) (h2 : s.timing.debounce = .none) :
    exec (.presNChange p level) s =
      .next ((s.setPort p { s.port p with presN := level }).acceptPresence p (level == .low)) :=
  congrArg Host.Outcome.next (if_pos ⟨h1, h2⟩)

/-- R4: a cable accepted on an EMPTY port whose record has been changed in presence line and count alone. -/
theorem State.accept_setPort {x : PortUnit} (hs : x.state = .empty) (ha : x.accepted = false) :
    (s.setPort p x).acceptPresence p true =
      (s.setPort p (({ x with state := .seating, accepted := true, readAttempt := 1 } : PortUnit).append
        ⟨s.uptime, .port .empty .seating, .cableIn⟩)).postPort p .cableIn := by
  have hx : (s.setPort p x).port p = x := s.port_setPort_self p x
  rw [State.acceptPresence_in (by rw [hx]; exact ha) (by rw [hx]; exact hs), State.cableIn_eq (by rw [hx]; exact hs),
    hx, State.setPort_setPort]
  rfl
end

/-- Settles O30. -/
theorem presenceTakesCableIn : Obligations.PresenceTakesCableIn := by
  refine ⟨fun p s q hq => ?_, fun p s t q hq hs ha ht => ?_⟩
  · subst hq
    refine ⟨exec_presenceSample_idle, fun h1 h2 h => ?_, fun h1 h2 h hc => ?_, fun hr h2 h hc => ?_,
      fun level => exec_presNChange_off, fun h => ?_⟩
    · rw [exec_presenceSample h1 h2, State.sample_same h]
    · rw [exec_presenceSample h1 h2, State.sample_first h hc]
    · have h1 : (s.port p).state ≠ .off := fun c => by
        obtain ⟨-, -, -, hoff, -⟩ := hr
        rw [hoff c] at hc
        cases hc
      exact ⟨_, exec_presenceSample h1 h2, State.presence_sample_second hr h hc⟩
    · refine congrArg Host.Outcome.next (if_neg fun c => ?_)
      obtain ⟨c1, c2, c3⟩ := c
      rcases h with h | h | h
      · exact h c1
      · exact h c2
      · rw [PortUnit.linePresent_iff.mp c3] at h
        cases h
  · subst hq
    have h1 : (s.port p).state ≠ .off := fun c => by rw [hs] at c; cases c
    refine ⟨fun hl h2 hc => ?_, fun h2 hc => ?_, fun hl h2 hc => ?_⟩
    · have hp := PortUnit.linePresent_iff.mpr hl
      rw [exec_presenceSample h1 h2, State.sample_second (by rw [hp, ha]; decide) (by rw [hc]; decide), hp,
        State.accept_setPort (x := { s.port p with debounceCount := 0 }) hs ha, ht, ← hl]
    · rw [exec_presNChange h1 h2]
      refine congrArg Host.Outcome.next ((State.accept_setPort (x := { s.port p with presN := .low }) hs ha).trans ?_)
      rw [ht, ← hc]
    · refine congrArg Host.Outcome.next ((if_pos ⟨hs, h2, PortUnit.linePresent_iff.mpr hl⟩).trans ?_)
      rw [← State.setPort_self s p, State.accept_setPort hs ha, ht, ← hc, ← hl]

/-! ### The descriptor read (R5 to R7): O32 -/

section
variable {s : State} {p : Port}

theorem State.readFailed_eq (hs : (s.port p).state = .seating) (r : Reason) : s.readFailed p r =
    (s.setPort p (({ s.port p with state := .cableFault, fault := some r, readAttempt := 0 } : PortUnit).append
      ⟨s.uptime, .port .seating .cableFault, r⟩)).postPort p (.cableFault r (s.port p).readAttempt) := by
  rw [State.readFailed, State.portTo_modPort s p hs rfl]

theorem State.readGood_setup (hs : (s.port p).state = .seating) (hm : s.mode = .setup) (d : Descriptor) : s.readGood p d =
    s.setPort p (({ s.port p with state := .seated, desc := some d, readAttempt := 0 } : PortUnit).append
      ⟨s.uptime, .port .seating .seated, .readGood⟩) := by
  rw [State.readGood, hm]
  dsimp only
  rw [State.portTo_modPort s p hs rfl]

theorem State.readGood_active (hm : s.mode = .active) (d : Descriptor) : s.readGood p d =
    (s.setPort p { s.port p with desc := some d, readAttempt := 0 }).enterSurvey p .readGood := by
  rw [State.readGood, hm]
  rfl

/-- R57: what the entry to SURVEY leaves at its port. -/
theorem State.surveys_enterSurvey (s : State) (p : Port) (cause : Reason) :
    (s.port p).Surveys ((s.enterSurvey p cause).port p) s.uptime s.timing.window ∧
      ((s.enterSurvey p cause).port p).readAttempt = (s.port p).readAttempt ∧
      ((s.enterSurvey p cause).port p).posA = (s.port p).posA ∧ ((s.enterSurvey p cause).port p).posB = (s.port p).posB := by
  obtain ⟨H, W, he⟩ := s.port_enterSurvey p cause
  rw [he]
  refine ⟨⟨rfl, rfl, rfl, rfl, fun i => ?_⟩, rfl, rfl, rfl⟩
  have hl := PortUnit.lane_clearForSurvey { s.port p with state := .survey, history := H, wrapped := W } i
  refine ⟨congrArg LaneUnit.rx hl, congrArg LaneUnit.correction hl, congrArg LaneUnit.active hl, congrArg LaneUnit.delay hl⟩

/-- From `s` to `t` the record of port `p` is replaced and nothing else. -/
def State.SetsPort (s t : State) (p : Port) : Prop := t = s.setPort p (t.port p)

theorem State.setsPort_modPort (s : State) (p : Port) (f : PortUnit → PortUnit) : s.SetsPort (s.modPort p f) p := by
  rw [State.SetsPort, State.port_modPort_self]
  rfl

theorem State.SetsPort.trans {t u : State} (h1 : s.SetsPort t p) (h2 : t.SetsPort u p) : s.SetsPort u p := by
  have h3 : u = t.setPort p (u.port p) := h2
  rw [show t = s.setPort p (t.port p) from h1, State.setPort_setPort] at h3
  exact h3

theorem State.setsPort_setPort (s : State) (p : Port) (q : PortUnit) : s.SetsPort (s.setPort p q) p := s.setsPort_modPort p fun _ => q

theorem State.setsPort_portTo (s : State) (p : Port) (x : PortState) (r : Reason) : s.SetsPort (s.portTo p x r) p :=
  State.portTo_eq s p x r ▸ s.setsPort_setPort p _

/-- R57: the entry to SURVEY acts on its port alone. -/
theorem State.setsPort_enterSurvey (s : State) (p : Port) (cause : Reason) : s.SetsPort (s.enterSurvey p cause) p := by
  unfold State.enterSurvey State.startSurveyTimers
  exact ((s.setsPort_portTo p _ _).trans (State.setsPort_modPort _ p _)).trans (State.setsPort_modPort _ p _)

theorem State.SetsPort.rest {t : State} (h : s.SetsPort t p) : t.rest = s.rest :=
  (congrArg State.rest (show t = s.setPort p (t.port p) from h)).trans rfl

theorem State.SetsPort.queue {t : State} (h : s.SetsPort t p) : t.queue = s.queue :=
  (congrArg State.queue (show t = s.setPort p (t.port p) from h)).trans rfl

theorem State.SetsPort.port {t : State} (h : s.SetsPort t p) {p' : Port} (hp : p' ≠ p) : t.port p' = s.port p' := by
  rw [show t = s.setPort p (t.port p) from h, State.port_setPort_of_ne _ _ (Ne.symm hp)]
end

/-- Settles O32. -/
theorem descriptorAttemptsEnd : Obligations.DescriptorAttemptsEnd := by
  intro p b0 b1 b2 b3 b4 s q hq
  subst hq
  have hfail : ∀ r i, (s.port p).state = .seating → exec i s = .next (s.attemptFailed p r) →
      ((s.port p).readAttempt < 3 →
        exec i s = .next (s.setPort p { s.port p with readAttempt := (s.port p).readAttempt + 1 })) ∧
      ((s.port p).readAttempt = 3 → exec i s = .next ((s.setPort p
        (({ s.port p with state := .cableFault, fault := some r, readAttempt := 0 } : PortUnit).append
          ⟨s.uptime, .port .seating .cableFault, r⟩)).postPort p (.cableFault r 3))) := fun r i hs hi => by
    refine ⟨fun h => hi.trans (congrArg Host.Outcome.next (if_pos h)), fun h => hi.trans (congrArg Host.Outcome.next ?_)⟩
    refine (if_neg (by rw [h]; decide)).trans ?_
    rw [State.readFailed_eq hs, h]
  refine ⟨fun h => ⟨congrArg Host.Outcome.next (if_neg h), congrArg Host.Outcome.next (if_pos h)⟩,
    fun hs i r hi => hfail r i hs ?_, fun hs h0 hd => ?_, fun d hs h0 hd => ?_⟩
  · rcases hi with ⟨rfl, rfl⟩ | ⟨rfl, rfl, h⟩
    · exact congrArg Host.Outcome.next (if_pos hs)
    · exact congrArg Host.Outcome.next ((if_neg (not_not.mpr hs)).trans (if_pos h))
  · refine congrArg Host.Outcome.next ((if_neg (not_not.mpr hs)).trans ((if_neg (not_not.mpr h0)).trans ?_))
    rw [hd]
    exact State.readFailed_eq hs _
  · have he : exec (.descriptorAnswered p b0 b1 b2 b3 b4) s = .next (s.readGood p d) := by
      refine congrArg Host.Outcome.next ((if_neg (not_not.mpr hs)).trans ((if_neg (not_not.mpr h0)).trans ?_))
      rw [hd]
    refine ⟨fun hm => he.trans (congrArg Host.Outcome.next (State.readGood_setup hs hm d)), fun hm => ⟨_, he, ?_⟩⟩
    rw [State.readGood_active hm]
    generalize hu : s.setPort p { s.port p with desc := some d, readAttempt := 0 } = u
    have hup : u.port p = { s.port p with desc := some d, readAttempt := 0 } := by rw [← hu, State.port_setPort_self]
    have k : s.SetsPort (u.enterSurvey p .readGood) p :=
      (hu ▸ s.setsPort_setPort p _ : s.SetsPort u p).trans (u.setsPort_enterSurvey p _)
    obtain ⟨k1, k2, k3, k4⟩ := u.surveys_enterSurvey p .readGood
    rw [hup] at k1 k2 k3 k4
    have e1 : u.uptime = s.uptime := by rw [← hu]; rfl
    have e2 : u.timing = s.timing := by rw [← hu]; rfl
    rw [e1, e2] at k1
    exact ⟨k1, k2, k3, k4, fun p' hp => k.port hp, k.rest, k.queue⟩

end Sys2Proof.Machine

/-! SUPPORT and PROOF. Lane events: marks sent and received, signal, and their hand-off to the links: O35, O37, O38,
O39 (R20 to R38, R58). -/

namespace Sys2Proof.Machine

open Sys2Proof

theorem PortUnit.laneHalf_eq (q : PortUnit) (i : Lane) :
    q.laneHalf i = if q.isSplit = true ∧ 4 ≤ i.val then .B else .A := by
  simp only [PortUnit.laneHalf, Bool.and_eq_true, decide_eq_true_eq]

/-- Settles O35. -/
theorem marksAreTransmitted : Obligations.MarksAreTransmitted := by
  intro p quality s
  refine ⟨_, rfl, s.setsPort_modPort p _, ?_, fun i => ⟨?_, ?_, rfl, rfl, rfl⟩⟩
  · rw [State.port_modPort_self]
    rfl
  · rw [State.port_modPort_self]
    exact PortUnit.lane_mapLanes (s.port p) (fun i x =>
      { x with txMark := if s.processed p i then some (s.formMark p i quality[i]).encode else none }) i
  · rw [← PortUnit.laneHalf_eq]
    rfl

/-! ### Records of a lane replaced -/

section
variable {s : State} {p : Port} {i : Lane}

theorem PortUnit.modLane_modLane (q : PortUnit) (i : Lane) (f g : LaneUnit → LaneUnit) :
    (q.modLane i f).modLane i g = q.modLane i fun x => g (f x) := by
  have h : (q.modLane i f).lane i = f (q.lane i) := by rw [PortUnit.lane_modLane, if_pos rfl]
  unfold PortUnit.modLane at h ⊢
  rw [h]
  dsimp only
  rw [Vector.set_set]

theorem State.modLane_modLane (s : State) (p : Port) (i : Lane) (f g : LaneUnit → LaneUnit) :
    (s.modLane p i f).modLane p i g = s.modLane p i fun x => g (f x) := by
  simp only [State.modLane, State.modPort_modPort, PortUnit.modLane_modLane]

theorem State.modLane_congr {f g : LaneUnit → LaneUnit} (h : f ((s.port p).lane i) = g ((s.port p).lane i)) :
    s.modLane p i f = s.modLane p i g := by
  simp only [State.modLane, State.modPort, PortUnit.modLane, h]

theorem State.port_modLane (s : State) (p : Port) (i : Lane) (f : LaneUnit → LaneUnit) :
    (s.modLane p i f).port p = (s.port p).modLane i f := s.port_modPort_self p _

theorem State.lane_modLane (s : State) (p : Port) (i : Lane) (f : LaneUnit → LaneUnit) :
    ((s.modLane p i f).port p).lane i = f ((s.port p).lane i) := by
  rw [State.port_modLane, PortUnit.lane_modLane, if_pos rfl]

/-! ### Items that changed (R37) -/

theorem changedItems_self (a : RxRecord) : (changedItems a a).any = false := by
  simp [changedItems, LaneItems.any]

theorem changedItems_of_status {a b : RxRecord} (h : a.status ≠ b.status) : (changedItems a b).any = true := by
  simp [changedItems, LaneItems.any, h]

theorem State.laneChange_none {a b : RxRecord} (h : (changedItems a b).any = false) : s.laneChange p i a b = s := by
  unfold State.laneChange
  dsimp only
  rw [h]
  rfl

theorem State.laneChange_survey {a b : RxRecord} (h : (changedItems a b).any = true) (hs : (s.port p).state = .survey) :
    s.laneChange p i a b = s.restartSettle p := by
  unfold State.laneChange
  dsimp only
  rw [h, if_neg (by decide), if_pos hs]

theorem State.laneChange_assigned {a b : RxRecord} (h : (changedItems a b).any = true) (hs : (s.port p).state = .assigned) :
    s.laneChange p i a b = s.linkEvent p ((s.port p).laneHalf i) (relLane ((s.port p).laneHalf i) i) (changedItems a b)
      (farChange a b) := by
  unfold State.laneChange
  dsimp only
  rw [h, if_neg (by decide), if_neg (by rw [hs]; decide), if_pos hs]

theorem RxRecord.lose_of_quiet {x : RxRecord} (h : x.status = .quiet) : x.lose = x := if_pos h

theorem RxRecord.lose_of_not_quiet {x : RxRecord} (h : x.status ≠ .quiet) : x.lose = { x with
    status := .quiet, held := none, candidate := none, repeats := 0, consecBad := 0 } := if_neg h

theorem RxRecord.gain_of_quiet {x : RxRecord} (h : x.status = .quiet) : x.gain = { x with status := .signal } := if_pos h

theorem RxRecord.gain_of_not_quiet {x : RxRecord} (h : x.status ≠ .quiet) : x.gain = x := if_neg h

/-! ### Signal (R26, R32, R58): O37 -/

/-- R32: a signal lost at a processed lane. -/
theorem exec_signalLost (hp : s.processed p i = true) : exec (.signalLost p i) s =
    .next ((s.modLane p i fun k => { k with signal := false, rx := ((s.port p).lane i).rx.lose }).laneChange p i
      ((s.port p).lane i).rx ((s.port p).lane i).rx.lose) := by
  refine congrArg Host.Outcome.next ((if_pos hp).trans ?_)
  rw [State.setRx, State.modLane_modLane]

/-- R32: a signal gained at a processed lane. -/
theorem exec_signalGained (hp : s.processed p i = true) : exec (.signalGained p i) s =
    .next ((s.modLane p i fun k => { k with signal := true, rx := ((s.port p).lane i).rx.gain }).laneChange p i
      ((s.port p).lane i).rx ((s.port p).lane i).rx.gain) := by
  refine congrArg Host.Outcome.next ((if_pos hp).trans ?_)
  rw [State.setRx, State.modLane_modLane]

theorem State.processed_false (h : s.processed p i = false) : ¬ s.processed p i = true := by rw [h]; decide
end

/-- Settles O37. -/
theorem signalEventsMoveStatus : Obligations.SignalEventsMoveStatus := by
  intro p i s x hx
  subst hx
  refine ⟨fun hn => ?_, fun hp hq => ?_, fun hp hq => ?_, fun hp hs hq => ?_, fun hp hs hq => ?_⟩
  · have hn := State.processed_false hn
    exact ⟨congrArg Host.Outcome.next (if_neg hn), congrArg Host.Outcome.next (if_neg hn),
      fun _ _ => congrArg Host.Outcome.next (if_neg hn), congrArg Host.Outcome.next (if_neg hn),
      congrArg Host.Outcome.next (if_neg hn)⟩
  · rw [exec_signalLost hp, RxRecord.lose_of_quiet hq, State.laneChange_none (changedItems_self _)]
    exact congrArg Host.Outcome.next (State.modLane_congr rfl)
  · rw [exec_signalGained hp, RxRecord.gain_of_not_quiet hq, State.laneChange_none (changedItems_self _)]
    exact congrArg Host.Outcome.next (State.modLane_congr rfl)
  · rw [exec_signalGained hp, RxRecord.gain_of_quiet hq,
      State.laneChange_survey (changedItems_of_status (by simp [hq])) (by rw [State.port_modLane]; exact hs)]
    exact congrArg (fun t : State => Host.Outcome.next (t.restartSettle p)) (State.modLane_congr rfl)
  · rw [exec_signalLost hp, RxRecord.lose_of_not_quiet hq,
      State.laneChange_survey (changedItems_of_status (by simp [hq])) (by rw [State.port_modLane]; exact hs)]
    exact congrArg (fun t : State => Host.Outcome.next (t.restartSettle p)) (State.modLane_congr rfl)

/-! ### Arrivals (R27 to R36): O38 -/

section
variable {x : RxRecord} {m : Mark} {own : LaneId} {now : Uptime} {stamp : BitVec 10}

theorem RxRecord.valid_of_quiet (h : x.status = .quiet) : x.valid m own now stamp = x.countGood := if_pos h

theorem RxRecord.valid_of_held (h : x.status ≠ .quiet) {k : Held} (hk : x.held = some k) (hm : k.id = m.id) :
    x.valid m own now stamp = { x.countGood with
      status := m.status own, held := some { k with heard := m.heard, stamp := stamp }, candidate := none, repeats := 0 } := by
  have hk' : x.countGood.held = some k := hk
  rw [RxRecord.valid, if_neg h, RxRecord.hear, hk']
  exact if_pos hm

theorem RxRecord.valid_of_other (h : x.status ≠ .quiet) (hk : ∀ k, x.held = some k → k.id ≠ m.id) :
    x.valid m own now stamp =
      if x.candidate = some m.id then x.countGood.accept m own now stamp else x.countGood.propose m := by
  rw [RxRecord.valid, if_neg h, RxRecord.hear]
  cases hh : x.held with
  | none => rw [show x.countGood.held = none from hh]; rfl
  | some k =>
    rw [show x.countGood.held = some k from hh]
    exact if_neg (hk k hh)

theorem RxRecord.counts_valid (x : RxRecord) (m : Mark) (own : LaneId) (now : Uptime) (stamp : BitVec 10) :
    (x.valid m own now stamp).good = min 255 (x.good + 1) ∧ (x.valid m own now stamp).bad = x.bad ∧
      (x.valid m own now stamp).consecBad = 0 ∧ (x.valid m own now stamp).lastFailure = x.lastFailure ∧
      (x.valid m own now stamp).polInverted = x.polInverted := by
  by_cases h : x.status = .quiet
  · rw [RxRecord.valid_of_quiet h]
    exact ⟨rfl, rfl, rfl, rfl, rfl⟩
  by_cases hk : ∃ k, x.held = some k ∧ k.id = m.id
  · obtain ⟨k, hk, hm⟩ := hk
    rw [RxRecord.valid_of_held h hk hm]
    exact ⟨rfl, rfl, rfl, rfl, rfl⟩
  · rw [RxRecord.valid_of_other h fun k c d => hk ⟨k, c, d⟩]
    split <;> exact ⟨rfl, rfl, rfl, rfl, rfl⟩

theorem RxRecord.counts_invalid (x : RxRecord) (f : MarkFailure) : (x.invalid f).bad = min 255 (x.bad + 1) ∧
    (x.invalid f).good = x.good ∧ (x.invalid f).consecBad = min 8 (x.consecBad + 1) ∧
    (x.invalid f).lastFailure = some f ∧ (x.invalid f).polInverted = x.polInverted := by
  unfold RxRecord.invalid RxRecord.fallBack
  split
  · exact ⟨rfl, rfl, rfl, rfl, rfl⟩
  · split <;> exact ⟨rfl, rfl, rfl, rfl, rfl⟩

/-- R36: an invalid arrival at a record that is not QUIET. -/
theorem RxRecord.invalid_of_not_quiet (h : x.status ≠ .quiet) (f : MarkFailure) : x.invalid f =
    if min 8 (x.consecBad + 1) = 8 ∧ x.held.isSome = true then
      { x.countBad f with candidate := none, repeats := 0, status := .signal, held := none }
    else { x.countBad f with candidate := none, repeats := 0 } := if_neg h
end

section
variable {s t : State} {p : Port} {i : Lane}

/-- What a lane change event and a stamp report leave of every lane. -/
def State.FrontKept (s t : State) (p : Port) : Prop :=
  ∀ i, ((t.port p).lane i).bare = ((s.port p).lane i).bare

theorem State.frontKept_of_bare (h : t.bare = s.bare) (p : Port) : s.FrontKept t p := fun i =>
  PortUnit.bare_lane (State.bare_port h p) i

theorem State.frontKept_laneChange (s : State) (p : Port) (i : Lane) (a b : RxRecord) : s.FrontKept (s.laneChange p i a b) p := by
  unfold State.laneChange
  dsimp only
  split
  · exact fun _ => rfl
  · split
    · exact fun j => by rw [State.restartSettle, State.port_modPort_self]; rfl
    · split
      · exact State.frontKept_of_bare (State.bare_linkEvent ..) p
      · exact fun _ => rfl

theorem State.frontKept_stampReport (s : State) (p : Port) (i : Lane) (b : RxRecord) (m : Mark) (stamp : BitVec 10) :
    s.FrontKept (s.stampReport p i b m stamp) p := by
  unfold State.stampReport
  dsimp only
  split
  · exact State.frontKept_of_bare (State.bare_stampEvent ..) p
  · exact fun _ => rfl

theorem State.FrontKept.rx (h : s.FrontKept t p) (i : Lane) : ((t.port p).lane i).rx = ((s.port p).lane i).rx ∧
    ((t.port p).lane i).correction = ((s.port p).lane i).correction ∧ ((t.port p).lane i).signal = ((s.port p).lane i).signal :=
  have key {α : Type} (f : LaneUnit → α) := congrArg f (h i)
  ⟨key (·.rx), key (·.correction), key (·.signal)⟩

/-- R27: the lane after a valid mark, decoded inverted or not, which left the record `b`. -/
def LaneUnit.heardAs (x : LaneUnit) (inverted : Bool) (b : RxRecord) : LaneUnit :=
  if inverted = true ∧ x.rx.status ≠ .quiet then { x with rx := { b with polInverted := !x.correction }, correction := !x.correction }
  else { x with rx := b }

theorem LaneUnit.items_heardAs (x : LaneUnit) (inverted : Bool) (a b : RxRecord) :
    changedItems a (x.heardAs inverted b).rx = changedItems a b ∧ farChange a (x.heardAs inverted b).rx = farChange a b ∧
      (x.heardAs inverted b).rx.status = b.status ∧ (x.heardAs inverted b).rx.held = b.held := by
  unfold LaneUnit.heardAs
  split <;> exact ⟨rfl, rfl, rfl, rfl⟩

/-- R27, R37, R38: a valid arrival, as a change of its lane and the event that follows. -/
theorem State.validArrival_eq (s : State) (p : Port) (i : Lane) (inverted : Bool) (m : Mark) (stamp : BitVec 10)
    {x : LaneUnit} (hx : (s.port p).lane i = x) {b : RxRecord} (hb : b = x.rx.valid m (s.ownId p i) s.uptime stamp) :
    s.validArrival p i inverted m stamp = (s.modLane p i fun _ => x.heardAs inverted b).inEvent fun u =>
      (u.laneChange p i x.rx b).stampReport p i b m stamp := by
  subst hx hb
  unfold State.validArrival
  dsimp only
  rw [State.modLane_congr (g := fun _ => ((s.port p).lane i).heardAs inverted
    (((s.port p).lane i).rx.valid m (s.ownId p i) s.uptime stamp))]
  unfold LaneUnit.heardAs
  simp only [Bool.and_eq_true, bne_iff_ne]

/-- MARK_ARRIVED at a processed lane. -/
theorem exec_markArrived (hp : s.processed p i = true) (block : MarkBits) (stamp : BitVec 10) :
    exec (.markArrived p i block stamp) s =
      .next ((s.modPort p fun q => { q with stampCounter := stamp }).arrival p i block stamp) :=
  congrArg Host.Outcome.next (if_pos hp)

theorem State.arrival_ok {block b : MarkBits} {inverted : Bool} {m : Mark} {x : LaneUnit} (hx : (s.port p).lane i = x)
    (hf : frameBlock (x.received block) = some (inverted, b)) (hm : readMark b = .ok m) (stamp : BitVec 10) :
    s.arrival p i block stamp = s.validArrival p i inverted m stamp := by
  subst hx
  rw [State.arrival, hf]
  dsimp only
  rw [hm]

theorem State.arrival_error {block b : MarkBits} {inverted : Bool} {f : MarkFailure} {x : LaneUnit} (hx : (s.port p).lane i = x)
    (hf : frameBlock (x.received block) = some (inverted, b)) (hm : readMark b = .error f) (stamp : BitVec 10) :
    s.arrival p i block stamp = s.invalidArrival p i f := by
  subst hx
  rw [State.arrival, hf]
  dsimp only
  rw [hm]

theorem exec_syncMissing (hp : s.processed p i = true) : exec (.syncMissing p i) s = .next (s.invalidArrival p i .sync) :=
  congrArg Host.Outcome.next (if_pos hp)

/-- R27: the lane after a valid arrival. -/
theorem State.lane_validArrival (s : State) (p : Port) (i : Lane) (inverted : Bool) (m : Mark) (stamp : BitVec 10)
    {x : LaneUnit} (hx : (s.port p).lane i = x) :
    (((s.validArrival p i inverted m stamp).port p).lane i).bare =
      (x.heardAs inverted (x.rx.valid m (s.ownId p i) s.uptime stamp)).bare := by
  rw [s.validArrival_eq p i inverted m stamp hx rfl]
  generalize x.rx.valid m (s.ownId p i) s.uptime stamp = b
  generalize hu : s.modLane p i (fun _ => x.heardAs inverted b) = u
  have h2 := State.frontKept_stampReport (u.event.laneChange p i x.rx b) p i b m stamp i
  have h1 := State.frontKept_laneChange u.event p i x.rx b i
  have h0 : (u.event.port p).lane i = x.heardAs inverted b := by
    rw [← hu]
    exact s.lane_modLane p i _
  exact h2.trans (h1.trans (congrArg LaneUnit.bare h0))

/-- R28, R29: the lane after an invalid arrival. -/
theorem State.lane_invalidArrival (s : State) (p : Port) (i : Lane) (f : MarkFailure) {x : LaneUnit}
    (hx : (s.port p).lane i = x) :
    (((s.invalidArrival p i f).port p).lane i).bare = ({ x with rx := x.rx.invalid f } : LaneUnit).bare := by
  subst hx
  have h1 := State.frontKept_laneChange (s.setRx p i (((s.port p).lane i).rx.invalid f)) p i ((s.port p).lane i).rx
    (((s.port p).lane i).rx.invalid f) i
  have h0 : ((s.setRx p i (((s.port p).lane i).rx.invalid f)).port p).lane i = _ := s.lane_modLane p i _
  unfold State.invalidArrival
  dsimp only
  split
  · exact h1.trans (congrArg LaneUnit.bare h0)
  · exact (State.frontKept_of_bare (State.bare_badMarkEvent ..) p i).trans (h1.trans (congrArg LaneUnit.bare h0))
end

theorem LaneUnit.rx_heardAs (x : LaneUnit) (inverted : Bool) (b : RxRecord) : (x.heardAs inverted b).rx =
    { b with polInverted := if inverted = true ∧ x.rx.status ≠ .quiet then !x.correction else b.polInverted } := by
  unfold LaneUnit.heardAs
  split <;> rfl

theorem LaneUnit.correction_heardAs (x : LaneUnit) (inverted : Bool) (b : RxRecord) : (x.heardAs inverted b).correction =
    if inverted = true ∧ x.rx.status ≠ .quiet then !x.correction else x.correction := by
  unfold LaneUnit.heardAs
  split <;> rfl

theorem LaneUnit.signal_heardAs (x : LaneUnit) (inverted : Bool) (b : RxRecord) : (x.heardAs inverted b).signal = x.signal := by
  unfold LaneUnit.heardAs
  split <;> rfl

section
variable {s : State} {p : Port} {i : Lane}

theorem State.stamped_lane (s : State) (p : Port) (i : Lane) (stamp : BitVec 10) :
    ((s.modPort p fun q => { q with stampCounter := stamp }).port p).lane i = (s.port p).lane i ∧
      (s.modPort p fun q => { q with stampCounter := stamp }).ownId p i = s.ownId p i := by
  refine ⟨by rw [State.port_modPort_self]; rfl, ?_⟩
  unfold State.ownId
  rw [State.port_modPort_self]
  rfl

/-- R29 to R35: what a valid arrival does to the record of its lane. -/
theorem LaneUnit.heard_valid (x : LaneUnit) (inverted : Bool) (m : Mark) (own : LaneId) (now : Uptime) (stamp : BitVec 10)
    {y : LaneUnit} (hy : y.bare = (x.heardAs inverted (x.rx.valid m own now stamp)).bare) :
    y.rx.good = min 255 (x.rx.good + 1) ∧ y.rx.bad = x.rx.bad ∧ y.rx.consecBad = 0 ∧
      y.rx.lastFailure = x.rx.lastFailure ∧ y.signal = x.signal ∧
      (x.rx.status = .quiet → y.rx.status = .quiet ∧ y.rx.held = x.rx.held ∧
        y.rx.candidate = x.rx.candidate ∧ y.correction = x.correction) ∧
      (x.rx.status ≠ .quiet →
        y.correction = (inverted != x.correction) ∧
        y.rx.polInverted = (if inverted then !x.correction else x.rx.polInverted) ∧
        (∀ k, x.rx.held = some k → k.id = m.id → y.rx.held = some ⟨m.id, k.firstHeard, m.heard, stamp⟩ ∧
          y.rx.candidate = none ∧ y.rx.repeats = 0 ∧
          y.rx.status = (if m.echo = some own then .confirmed else .marked)) ∧
        ((∀ k, x.rx.held = some k → k.id ≠ m.id) → x.rx.candidate = some m.id →
          y.rx.held = some ⟨m.id, now, m.heard, stamp⟩ ∧ y.rx.candidate = none ∧ y.rx.repeats = 0 ∧
          y.rx.status = (if m.echo = some own then .confirmed else .marked)) ∧
        ((∀ k, x.rx.held = some k → k.id ≠ m.id) → x.rx.candidate ≠ some m.id →
          y.rx.held = x.rx.held ∧ y.rx.candidate = some m.id ∧ y.rx.repeats = 1 ∧
            y.rx.status = x.rx.status)) := by
  have key {α : Type} (f : LaneUnit → α) := congrArg f hy
  have hrx : y.rx = _ := (key (·.rx)).trans (x.rx_heardAs inverted _)
  have hcor : y.correction = _ := (key (·.correction)).trans (x.correction_heardAs inverted _)
  have hsig : y.signal = _ := (key (·.signal)).trans (x.signal_heardAs inverted _)
  obtain ⟨hgood, hbad, hcon, hlast, hpol⟩ := x.rx.counts_valid m own now stamp
  rw [hrx, hcor, hsig]
  refine ⟨hgood, hbad, hcon, hlast, rfl, fun hq => ?_, fun hq => ⟨?_, ?_, fun k hk hm => ?_, fun hk hc => ?_, fun hk hc => ?_⟩⟩
  · rw [if_neg fun c => c.2 hq]
    dsimp only
    rw [RxRecord.valid_of_quiet hq]
    exact ⟨hq, rfl, rfl, if_neg fun c => c.2 hq⟩
  · cases inverted <;> simp [hq]
  · rw [hpol]
    cases inverted <;> simp [hq]
  · dsimp only
    rw [RxRecord.valid_of_held hq hk hm, ← hm]
    exact ⟨rfl, rfl, rfl, rfl⟩
  · dsimp only
    rw [RxRecord.valid_of_other hq hk, if_pos hc]
    exact ⟨rfl, rfl, rfl, rfl⟩
  · dsimp only
    rw [RxRecord.valid_of_other hq hk, if_neg hc]
    exact ⟨rfl, rfl, rfl, rfl⟩

/-- R29, R36: what an invalid arrival does to the record of its lane. -/
theorem LaneUnit.heard_invalid (x : LaneUnit) (f : MarkFailure) {y : LaneUnit}
    (hy : y.bare = ({ x with rx := x.rx.invalid f } : LaneUnit).bare) :
    y.rx.bad = min 255 (x.rx.bad + 1) ∧ y.rx.good = x.rx.good ∧ y.rx.consecBad = min 8 (x.rx.consecBad + 1) ∧
      y.rx.lastFailure = some f ∧ y.correction = x.correction ∧ y.rx.polInverted = x.rx.polInverted ∧
      (x.rx.status ≠ .quiet → y.rx.candidate = none ∧ y.rx.repeats = 0 ∧
        (x.rx.held.isSome = true → 7 ≤ x.rx.consecBad → y.rx.held = none ∧ y.rx.status = .signal) ∧
        ((x.rx.held = none ∨ x.rx.consecBad < 7) → y.rx.held = x.rx.held ∧ y.rx.status = x.rx.status)) := by
  have key {α : Type} (f : LaneUnit → α) := congrArg f hy
  have hrx : y.rx = x.rx.invalid f := key (·.rx)
  have hcor : y.correction = x.correction := key (·.correction)
  obtain ⟨hbad, hgood, hcon, hlast, hpol⟩ := x.rx.counts_invalid f
  rw [hrx]
  refine ⟨hbad, hgood, hcon, hlast, hcor, hpol, fun hq => ?_⟩
  rw [RxRecord.invalid_of_not_quiet hq]
  by_cases hc : min 8 (x.rx.consecBad + 1) = 8 ∧ x.rx.held.isSome = true
  · rw [if_pos hc]
    refine ⟨rfl, rfl, fun _ _ => ⟨rfl, rfl⟩, fun h => ?_⟩
    rcases h with h | h
    · rw [h] at hc; cases hc.2
    · omega
  · rw [if_neg hc]
    exact ⟨rfl, rfl, fun h1 h2 => absurd ⟨by omega, h1⟩ hc, fun _ => ⟨rfl, rfl⟩⟩
end

/-- Settles O38. -/
theorem arrivalsBuildRecord : Obligations.ArrivalsBuildRecord := by
  intro p i s x hx hp
  refine ⟨fun block stamp inverted b m hf hm => ?_, fun event f he => ?_⟩
  · obtain ⟨hl, ho⟩ := s.stamped_lane p i stamp
    have hl := hl.trans hx.symm
    have hy := State.lane_validArrival (s.modPort p fun q => { q with stampCounter := stamp }) p i inverted m stamp hl
    rw [ho] at hy
    exact ⟨_, _, (exec_markArrived hp block stamp).trans (congrArg Host.Outcome.next (State.arrival_ok hl hf hm stamp)), rfl,
      x.heard_valid inverted m _ _ stamp hy⟩
  · rcases he with ⟨rfl, rfl⟩ | ⟨block, stamp, inverted, b, rfl, hf, hm⟩
    · exact ⟨_, _, exec_syncMissing hp, rfl, x.heard_invalid .sync (State.lane_invalidArrival s p i .sync hx.symm)⟩
    · have hl := (s.stamped_lane p i stamp).1.trans hx.symm
      exact ⟨_, _, (exec_markArrived hp block stamp).trans (congrArg Host.Outcome.next (State.arrival_error hl hf hm stamp)), rfl,
        x.heard_invalid f (State.lane_invalidArrival _ p i f hl)⟩

end Sys2Proof.Machine

/-! PROOF. The hand-off of lane changes to the links: O39 (R26, R37, R38). -/

namespace Sys2Proof.Machine

open Sys2Proof

/-! ### The items of R37 -/

theorem Heard.eq_iff (x y : Heard) : x = y ↔ x.tag = y.tag ∧ x.phase = y.phase ∧ x.grade = y.grade ∧ x.usable = y.usable ∧
    x.proposal = y.proposal ∧ x.accept = y.accept := by
  cases x; cases y; simp

section
variable (a b : RxRecord)

theorem changedItems_any_eq_false : (changedItems a b).any = false ↔ a.status = b.status ∧
    (a.held.map fun k => (k.id, k.heard)) = (b.held.map fun k => (k.id, k.heard)) := by
  cases ha : a.held <;> cases hb : b.held <;>
    simp [changedItems, LaneItems.any, RxRecord.heard, ha, hb, Heard.eq_iff, and_assoc]

theorem changedItems_phase : (changedItems a b).phase = true ↔
    (a.held.map fun k => k.heard.phase) ≠ (b.held.map fun k => k.heard.phase) := by
  simp [changedItems, RxRecord.heard, Function.comp_def]

theorem changedItems_verdictChange : (changedItems a b).verdictChange = true ↔ a.status ≠ b.status ∨
    (a.held.map fun k => (k.id, k.heard.tag, k.heard.usable)) ≠
      (b.held.map fun k => (k.id, k.heard.tag, k.heard.usable)) := by
  cases ha : a.held <;> cases hb : b.held <;>
    simp [changedItems, LaneItems.verdictChange, RxRecord.heard, ha, hb, or_assoc]
  tauto

theorem changedItems_runsProtocol : (changedItems a b).runsProtocol = true ↔ a.status ≠ b.status ∨
    (a.held.map fun k => (k.id, k.heard.usable, k.heard.accept)) ≠
      (b.held.map fun k => (k.id, k.heard.usable, k.heard.accept)) ∨
    (a.held.bind fun k => k.heard.proposal) ≠ (b.held.bind fun k => k.heard.proposal) := by
  cases ha : a.held <;> cases hb : b.held <;>
    simp [changedItems, LaneItems.runsProtocol, RxRecord.heard, ha, hb, or_assoc]
  tauto

theorem farChange_eq_some {id : LaneId} : farChange a b = some id ↔
    ∃ x y, a.held = some x ∧ b.held = some y ∧ x.id ≠ y.id ∧ id = y.id.id := by
  unfold farChange
  cases a.held <;> cases b.held <;> simp [eq_comm]
end

theorem farChange_of_held {a b : RxRecord} (h : b.held = a.held ∨ b.held = none) : farChange a b = none := by
  unfold farChange
  rcases h with h | h
  · rw [h]
    cases a.held with
    | none => rfl
    | some k => exact if_pos rfl
  · rw [h]
    cases a.held <;> rfl

theorem RxRecord.held_invalid (x : RxRecord) (f : MarkFailure) : (x.invalid f).held = x.held ∨ (x.invalid f).held = none := by
  by_cases hq : x.status = .quiet
  · left
    rw [show x.invalid f = x.countBad f from if_pos hq]
    rfl
  · rw [RxRecord.invalid_of_not_quiet hq]
    split
    · exact .inr rfl
    · exact .inl rfl

theorem changedItems_gain {x : RxRecord} (h : x.status = .quiet) : changedItems x { x with status := .signal } =
    ⟨true, false, false, false, false, false, false, false⟩ := by
  simp [changedItems, h, RxRecord.heard]

/-! ### The hand-off on an ASSIGNED port (R37, R38) -/

section
variable {s : State} {p : Port} {i : Lane} {h : Half}

/-- R37: on an ASSIGNED port the lane change event of what changed goes to the link of the lane's half. -/
theorem State.laneChange_of_assigned (hs : (s.port p).state = .assigned) (hh : h = (s.port p).laneHalf i) (a b : RxRecord) :
    s.laneChange p i a b = if (changedItems a b).any then
      s.linkEvent p h (relLane h i) (changedItems a b) (farChange a b) else s := by
  subst hh
  split
  · next ha => exact State.laneChange_assigned ha hs
  · next ha => exact State.laneChange_none (by simpa using ha)

theorem PortUnit.laneHalf_of_bare {q r : PortUnit} (hb : q.bare = r.bare) (i : Lane) : q.laneHalf i = r.laneHalf i := by
  have hd : q.desc = r.desc := (PortUnit.fields_of_bare hb).2.2.2.2.1
  unfold PortUnit.laneHalf PortUnit.isSplit
  rw [hd]

theorem State.bare_laneChange_assigned (hs : (s.port p).state = .assigned) (a b : RxRecord) :
    (s.laneChange p i a b).bare = s.bare := by
  rw [State.laneChange_of_assigned hs rfl]
  split
  · exact State.bare_linkEvent ..
  · rfl

/-- R38: the stamp report of a mark goes to the link of the lane's half. -/
theorem State.stampReport_of_half (hh : h = (s.port p).laneHalf i) (b : RxRecord) (m : Mark) (stamp : BitVec 10) :
    s.stampReport p i b m stamp = if b.status ≠ .quiet ∧ (b.held.map fun k => k.id) = some m.id then
      s.stampEvent p h (relLane h i) stamp.toNat else s := by
  subst hh
  rfl

/-- R28, R36 to R38: an invalid arrival on an ASSIGNED port. -/
theorem State.invalidArrival_of_assigned (hs : (s.port p).state = .assigned) (hh : h = (s.port p).laneHalf i)
    {x : LaneUnit} (hx : (s.port p).lane i = x) (f : MarkFailure) {u : State}
    (hu : u = if (changedItems x.rx (x.rx.invalid f)).any then
      (s.modLane p i fun _ => { x with rx := x.rx.invalid f }).linkEvent p h (relLane h i)
        (changedItems x.rx (x.rx.invalid f)) none
      else s.modLane p i fun _ => { x with rx := x.rx.invalid f }) :
    s.invalidArrival p i f = if x.rx.status = .quiet then u else u.badMarkEvent p h (relLane h i) := by
  subst hx
  have hset : s.setRx p i (((s.port p).lane i).rx.invalid f) =
      s.modLane p i fun _ => { (s.port p).lane i with rx := ((s.port p).lane i).rx.invalid f } := State.modLane_congr rfl
  have hlc := State.laneChange_of_assigned (s := s.modLane p i fun _ =>
    { (s.port p).lane i with rx := ((s.port p).lane i).rx.invalid f }) (p := p) (i := i) (h := h)
    (by rw [State.port_modLane]; exact hs) (by rw [State.port_modLane]; exact hh) ((s.port p).lane i).rx
    (((s.port p).lane i).rx.invalid f)
  rw [farChange_of_held (RxRecord.held_invalid _ f)] at hlc
  rw [hu, ← hlc, ← hset, hh]
  rfl

/-- R27, R37, R38: a valid arrival on an ASSIGNED port. -/
theorem State.validArrival_of_assigned (hs : (s.port p).state = .assigned) (hh : h = (s.port p).laneHalf i)
    {x : LaneUnit} (hx : (s.port p).lane i = x) (inverted : Bool) (m : Mark) (stamp : BitVec 10) {b : RxRecord}
    (hb : b = x.rx.valid m (s.ownId p i) s.uptime stamp) {v u w : State} {y : LaneUnit} (hy : y = x.heardAs inverted b)
    (hv : v = (s.modLane p i fun _ => y).event)
    (hu : u = if (changedItems x.rx y.rx).any then
      v.linkEvent p h (relLane h i) (changedItems x.rx y.rx) (farChange x.rx y.rx) else v)
    (hw : w = if y.rx.status ≠ .quiet ∧ (y.rx.held.map fun k => k.id) = some m.id then
      u.stampEvent p h (relLane h i) stamp.toNat else u) :
    s.validArrival p i inverted m stamp = s.after w := by
  have hvp : v.port p = (s.port p).modLane i fun _ => y := hv ▸ s.port_modLane p i _
  have hvs : (v.port p).state = .assigned := by rw [hvp]; exact hs
  have hvh : h = (v.port p).laneHalf i := by rw [hvp]; exact hh
  obtain ⟨i1, i2, i3, i4⟩ := x.items_heardAs inverted x.rx b
  rw [← hy] at i1 i2 i3 i4
  rw [i1, i2, ← State.laneChange_of_assigned hvs hvh] at hu
  have huh : h = (u.port p).laneHalf i := by
    rw [hu, PortUnit.laneHalf_of_bare (State.bare_port (State.bare_laneChange_assigned hvs ..) p)]
    exact hvh
  rw [i3, i4, ← State.stampReport_of_half huh] at hw
  rw [s.validArrival_eq p i inverted m stamp hx hb, ← hy, hw, hu, hv]
  rfl

/-- R26, R37: a change of signal on an ASSIGNED port. -/
theorem State.signalChange_of_assigned (hs : (s.port p).state = .assigned) (hh : h = (s.port p).laneHalf i)
    {y : LaneUnit} {f : LaneUnit → LaneUnit} (hf : f ((s.port p).lane i) = y)
    (hst : ((s.port p).lane i).rx.status ≠ y.rx.status) (hheld : y.rx.held = ((s.port p).lane i).rx.held ∨ y.rx.held = none) :
    (s.modLane p i f).laneChange p i ((s.port p).lane i).rx y.rx = (s.modLane p i fun _ => y).linkEvent p h (relLane h i)
      (changedItems ((s.port p).lane i).rx y.rx) none := by
  rw [State.modLane_congr (g := fun _ => y) hf, State.laneChange_of_assigned (h := h)
    (by rw [State.port_modLane]; exact hs) (by rw [State.port_modLane]; exact hh), if_pos (changedItems_of_status hst),
    farChange_of_held hheld]
end

/-- Settles O39. -/
theorem laneEventsReachLinks : Obligations.LaneEventsReachLinks := by
  refine ⟨fun a b => ⟨changedItems_any_eq_false a b, changedItems_phase a b, changedItems_verdictChange a b,
    changedItems_runsProtocol a b, fun _ => farChange_eq_some a b⟩, fun p i s x h hx hh hp hs =>
    ⟨fun block stamp inverted b m hf hm => ?_, fun event f v he => ?_, fun hq => ?_, fun hq => ?_⟩⟩
  · obtain ⟨hl, ho⟩ := s.stamped_lane p i stamp
    generalize hs1 : (s.modPort p fun q => { q with stampCounter := stamp }) = s1 at hl ho
    have hp1 : s1.port p = { s.port p with stampCounter := stamp } := by rw [← hs1, State.port_modPort_self]
    have he : exec (.markArrived p i block stamp) s = .next (s1.validArrival p i inverted m stamp) := by
      rw [exec_markArrived hp, hs1, State.arrival_ok (hl.trans hx.symm) hf hm]
    refine ⟨_, _, _, _, _, he.trans (congrArg Host.Outcome.next ?_), rfl, rfl, rfl, rfl, rfl⟩
    have k := State.validArrival_of_assigned (s := s1) (p := p) (i := i) (h := h) (by rw [hp1]; exact hs)
      (by rw [hp1]; exact hh) (hl.trans hx.symm) inverted m stamp (b := x.rx.valid m (s.ownId p i) s.uptime stamp)
      (by rw [ho, ← hs1]; rfl) rfl rfl rfl rfl
    rw [k, ← hs1]
    rfl
  · refine ⟨_, _, rfl, rfl, ?_⟩
    rcases he with ⟨rfl, rfl, rfl⟩ | ⟨block, stamp, inverted, b, rfl, hf, hm, rfl⟩
    · rw [exec_syncMissing hp, State.invalidArrival_of_assigned hs hh hx.symm _ rfl]
    · have hl := (s.stamped_lane p i stamp).1.trans hx.symm
      rw [exec_markArrived hp, State.arrival_error hl hf hm, State.invalidArrival_of_assigned (h := h)
        (by rw [State.port_modPort_self]; exact hs) (by rw [State.port_modPort_self]; exact hh) hl _ rfl]
  · subst hx
    rw [exec_signalGained hp, RxRecord.gain_of_quiet hq]
    refine congrArg Host.Outcome.next ((State.signalChange_of_assigned hs hh
      (y := { (s.port p).lane i with signal := true, rx := { ((s.port p).lane i).rx with status := .signal } }) rfl
      (fun c => LaneStatus.noConfusion (hq.symm.trans c)) (.inl rfl)).trans ?_)
    rw [changedItems_gain hq]
  · refine ⟨_, rfl, ?_⟩
    subst hx
    rw [exec_signalLost hp, RxRecord.lose_of_not_quiet hq]
    exact congrArg Host.Outcome.next (State.signalChange_of_assigned hs hh
      (y := { (s.port p).lane i with signal := false, rx := { ((s.port p).lane i).rx with
        status := .quiet, held := none, candidate := none, repeats := 0, consecBad := 0 } }) rfl hq (.inr rfl))

end Sys2Proof.Machine

/-! SUPPORT and PROOF. Verdicts: what is observed, and the first check that fails: O44 (R51, R63 to R66). -/

namespace Sys2Proof.Machine

open Sys2Proof

set_option Elab.async false

/-! ### Common values of lists -/

theorem agreed_eq_some {α : Type} [DecidableEq α] {L : List α} {v : α} : agreed L = some v ↔ L ≠ [] ∧ ∀ y ∈ L, y = v := by
  cases L with
  | nil => simp [agreed]
  | cons x xs =>
    simp only [agreed, List.all_eq_true, decide_eq_true_eq]
    split
    · next h =>
      rw [Option.some.injEq]
      constructor
      · rintro rfl
        exact ⟨by simp, fun y hy => (List.mem_cons.mp hy).elim id (h y)⟩
      · exact fun c => c.2 x (List.mem_cons_self ..)
    · next h =>
      refine iff_of_false (by simp) fun c => h fun y hy => ?_
      exact (c.2 y (List.mem_cons_of_mem _ hy)).trans (c.2 x (List.mem_cons_self ..)).symm

theorem ne_zero_iff_has (S : LaneSet) : S ≠ 0 ↔ ∃ r, LaneSet.has S r = true := by
  rw [ne_eq, eq_zero_iff_has_eq_false]
  push Not
  simp only [ne_eq, Bool.not_eq_false]

/-! ### Observations (R63 to R65) -/

section
variable (q : PortUnit) (h : Half)

theorem LaneUnit.isMarked_iff (x : LaneUnit) : x.isMarked = true ↔ x.rx.status = .marked ∨ x.rx.status = .confirmed := by
  simp [LaneUnit.isMarked]

theorem PortUnit.has_markedSet (r : Nat) : LaneSet.has (q.markedSet h) r = true ↔
    r < 8 ∧ r < q.span h ∧ ((q.rel h r).rx.status = .marked ∨ (q.rel h r).rx.status = .confirmed) := by
  simp only [PortUnit.markedSet, has_laneSet, Bool.and_eq_true, decide_eq_true_eq, LaneUnit.isMarked_iff]

theorem PortUnit.mem_heldIds (r : Nat) (k : HeardId) : (r, k) ∈ q.heldIds h ↔
    LaneSet.has (q.markedSet h) r = true ∧ ((q.rel h r).rx.held.map fun x => x.id) = some k := by
  simp only [PortUnit.heldIds, List.mem_filterMap, Option.map_eq_some_iff, Prod.mk.injEq, mem_members]
  constructor
  · rintro ⟨r', hr, x, hx, rfl, rfl⟩
    exact ⟨hr, x, hx, rfl⟩
  · rintro ⟨hr, x, hx, rfl⟩
    exact ⟨r, hr, x, hx, rfl, rfl⟩

/-- R27: every marked lane holds an identity. -/
def PortUnit.MarkedHeld (q : PortUnit) (h : Half) : Prop :=
  ∀ r, LaneSet.has (q.markedSet h) r = true → (q.rel h r).rx.held.isSome = true

variable {q h}

/-- A property of every identity held, lane by lane. -/
theorem PortUnit.forall_heldIds (hheld : q.MarkedHeld h) {P : Nat → HeardId → Prop} :
    (∀ x ∈ q.heldIds h, P x.1 x.2) ↔
      ∀ r, LaneSet.has (q.markedSet h) r = true → ∃ k, (q.rel h r).rx.held = some k ∧ P r k.id := by
  constructor
  · intro hx r hr
    obtain ⟨k, hk⟩ := Option.isSome_iff_exists.mp (hheld r hr)
    exact ⟨k, hk, hx (r, k.id) ((q.mem_heldIds h r k.id).mpr ⟨hr, by rw [hk]; rfl⟩)⟩
  · rintro hx ⟨r, k⟩ hm
    obtain ⟨hr, hk⟩ := (q.mem_heldIds h r k).mp hm
    obtain ⟨x, hx, hP⟩ := hx r hr
    rw [hx] at hk
    exact Option.some.inj hk ▸ hP

theorem PortUnit.heldIds_ne_nil (hheld : q.MarkedHeld h) : q.heldIds h ≠ [] ↔ q.markedSet h ≠ 0 := by
  rw [ne_zero_iff_has]
  constructor
  · intro hn
    obtain ⟨⟨r, k⟩, hm⟩ := List.exists_mem_of_ne_nil _ hn
    exact ⟨r, ((q.mem_heldIds h r k).mp hm).1⟩
  · rintro ⟨r, hr⟩
    obtain ⟨k, hk⟩ := Option.isSome_iff_exists.mp (hheld r hr)
    exact List.ne_nil_of_mem ((q.mem_heldIds h r k.id).mpr ⟨hr, by rw [hk]; rfl⟩)

/-- R63, R64: a field on which every identity held agrees. -/
theorem PortUnit.agreed_heldIds {α : Type} [DecidableEq α] (hheld : q.MarkedHeld h) (g : HeardId → α) (v : α) :
    agreed ((q.heldIds h).map fun x => g x.2) = some v ↔ q.markedSet h ≠ 0 ∧
      ∀ r, LaneSet.has (q.markedSet h) r = true → ((q.rel h r).rx.held.map fun k => g k.id) = some v := by
  rw [agreed_eq_some, ne_eq, List.map_eq_nil_iff, ← ne_eq, PortUnit.heldIds_ne_nil hheld, List.forall_mem_map,
    PortUnit.forall_heldIds hheld (P := fun _ k => g k = v)]
  simp only [Option.map_eq_some_iff]

theorem PortUnit.all_heldIds (hheld : q.MarkedHeld h) (f : Nat → HeardId → Nat) (v : Nat → Nat) :
    ((q.heldIds h).all fun x => f x.1 x.2 == v x.1) = true ↔
      ∀ r, LaneSet.has (q.markedSet h) r = true → ((q.rel h r).rx.held.map fun k => f r k.id) = some (v r) := by
  simp only [List.all_eq_true, beq_iff_eq, Option.map_eq_some_iff]
  exact PortUnit.forall_heldIds hheld (P := fun r k => f r k = v r)

variable (q h)

theorem has_foldl_and (f : Nat → LaneSet) (x : Nat) (L : List Nat) (acc : LaneSet) :
    LaneSet.has (L.foldl (fun acc r => acc &&& f r) acc) x = true ↔
      LaneSet.has acc x = true ∧ ∀ r ∈ L, LaneSet.has (f r) x = true := by
  induction L generalizing acc with
  | nil => simp
  | cons a L ih => rw [List.foldl_cons, ih, has_and, Bool.and_eq_true, List.forall_mem_cons, and_assoc]

/-- R83 (1): the intersection of the usable sets heard. -/
theorem PortUnit.has_heardUsable (S : LaneSet) {x : Nat} (hx : x < 8) : LaneSet.has (q.heardUsable h S) x = true ↔
    S ≠ 0 ∧ ∀ r, LaneSet.has S r = true → ∃ k, (q.rel h r).heard = some k ∧ LaneSet.has k.usable x = true := by
  unfold PortUnit.heardUsable
  split
  · next hz => simp [hz]
  · next hz =>
    have h255 : LaneSet.has 0xFF#8 x = true := by interval_cases x <;> rfl
    rw [has_foldl_and, h255]
    simp only [true_and, mem_members, ne_eq, hz, not_false_eq_true]
    refine forall₂_congr fun r _ => ?_
    cases (q.rel h r).heard <;> simp

theorem PortUnit.marked_observe : (q.observe h).marked = q.markedSet h := rfl

theorem PortUnit.confirmed_observe : (q.observe h).confirmed = q.confirmedSet h none := rfl

theorem PortUnit.polarity_observe : (q.observe h).polarity =
    laneSet fun r => LaneSet.has (q.markedSet h) r && (q.rel h r).rx.polInverted := rfl

theorem PortUnit.farUsable_observe : (q.observe h).farUsable = q.heardUsable h (q.confirmedSet h none) := rfl

theorem PortUnit.far_observe : (q.observe h).far = agreed ((q.heldIds h).map fun x => x.2.id.far) := rfl

theorem PortUnit.span_observe : (q.observe h).span = agreed ((q.heldIds h).map fun x => x.2.span) := rfl

/-- R64: the map class of a half. -/
theorem PortUnit.map_observe : (q.observe h).map =
    if (q.observe h).far.isSome = true ∧ (q.observe h).span = some (q.span h) then mapClassOf (q.span h) (q.heldIds h)
    else none := by
  show (if _ then _ else _) = _
  simp only [Bool.and_eq_true, beq_iff_eq]
  rfl
end

/-- R64: STRAIGHT where every lane lies where it should. -/
theorem mapClassOf_straight (n : Nat) (ids : List (Nat × HeardId)) :
    mapClassOf n ids = some .straight ↔ (ids.all fun x => x.2.relLane == x.1) = true := by
  unfold mapClassOf
  split
  · next h => simp [h]
  · next h => split <;> simp [h]

theorem mapClassOf_reversed (n : Nat) (ids : List (Nat × HeardId)) :
    mapClassOf n ids = some .reversed ↔ mapClassOf n ids ≠ some .straight ∧
      (ids.all fun x => x.2.relLane + x.1 + 1 == n) = true := by
  unfold mapClassOf
  split
  · simp
  · split
    · next h => simp [h]
    · next h => simp [h]

/-! ### The first check that fails (R66) -/

/-- The outcome of an ordered table of checks: the reason of the first that fails, or none. -/
def FirstFailed : List (Reason × Prop) → Option Reason → Prop
  | [], x => x = none
  | (r, c) :: L, x => (c ∧ x = some r) ∨ (¬ c ∧ FirstFailed L x)

theorem FirstFailed.cons {L : List (Reason × Prop)} {c P : Prop} [Decidable P] {r : Reason} {x : Option Reason}
    (hc : P ↔ c) (hx : ¬ c → FirstFailed L x) : FirstFailed ((r, c) :: L) (if P then some r else x) := by
  by_cases h : P
  · exact .inl ⟨hc.mp h, if_pos h⟩
  · have hn : ¬ c := fun k => h (hc.mpr k)
    exact .inr ⟨hn, by rw [if_neg h]; exact hx hn⟩

theorem FirstFailed.some_iff {L : List (Reason × Prop)} {x : Option Reason} (h : FirstFailed L x) (r : Reason) :
    x = some r ↔ ∃ (k : Nat) (c : Prop), L[k]? = some (r, c) ∧ c ∧
      ∀ (j : Nat) (r' : Reason) (c' : Prop), j < k → L[j]? = some (r', c') → ¬ c' := by
  induction L with
  | nil =>
    obtain rfl : x = none := h
    simp
  | cons a L ih =>
    obtain ⟨r0, c0⟩ := a
    rcases h with ⟨hc, rfl⟩ | ⟨hc, h⟩
    · rw [Option.some.injEq]
      constructor
      · rintro rfl
        exact ⟨0, c0, rfl, hc, fun j _ _ hj => absurd hj (Nat.not_lt_zero j)⟩
      · rintro ⟨k, c, hk, -, hfirst⟩
        cases k with
        | zero => exact congrArg Prod.fst (Option.some.inj hk)
        | succ k => exact absurd hc (hfirst 0 r0 c0 (Nat.succ_pos k) rfl)
    · rw [ih h]
      constructor
      · rintro ⟨k, c, hk, hcc, hfirst⟩
        refine ⟨k + 1, c, hk, hcc, fun j r' c' hj hj' => ?_⟩
        cases j with
        | zero => exact (Prod.mk.inj (Option.some.inj hj')).2 ▸ hc
        | succ j => exact hfirst j r' c' (Nat.lt_of_succ_lt_succ hj) hj'
      · rintro ⟨k, c, hk, hcc, hfirst⟩
        cases k with
        | zero => exact absurd ((Prod.mk.inj (Option.some.inj hk)).2.symm ▸ hcc) hc
        | succ k =>
          exact ⟨k, c, hk, hcc, fun j r' c' hj hj' => hfirst (j + 1) r' c' (Nat.succ_lt_succ hj) hj'⟩

theorem FirstFailed.none_iff {L : List (Reason × Prop)} {x : Option Reason} (h : FirstFailed L x) :
    x = none ↔ ∀ y ∈ L, ¬ y.2 := by
  induction L with
  | nil =>
    obtain rfl : x = none := h
    simp
  | cons a L ih =>
    obtain ⟨r0, c0⟩ := a
    rw [List.forall_mem_cons]
    rcases h with ⟨hc, rfl⟩ | ⟨hc, h⟩
    · exact iff_of_false (by simp) fun c => c.1 hc
    · rw [ih h]
      exact ⟨fun c => ⟨hc, c⟩, fun c => c.2⟩

section
variable {s : State} {p : Port} {h : Half}

theorem PortUnit.formMismatch_iff {q : PortUnit} {d : Descriptor} (hd : q.desc = some d) :
    (q.plan.isSome && q.planForm != q.desc.map fun d => d.form) = true ↔ ∃ e, q.plan = some e ∧ e.form ≠ d.form := by
  rw [PortUnit.planForm, hd]
  cases q.plan <;> simp

theorem State.staleTag_iff : s.staleTag p h = true ↔ ∃ (r : Nat) (k : Heard), LaneSet.has ((s.port p).markedSet h) r = true ∧
    ((s.port p).rel h r).heard = some k ∧ k.tag ≠ s.planTag := by
  simp only [State.staleTag, List.any_eq_true, mem_members]
  refine exists_congr fun r => ?_
  cases ((s.port p).rel h r).heard <;> simp

theorem LinkState.holding_iff (x : LinkState) : x.holding = true ↔ x = .verified ∨ x = .training ∨ x = .up := by
  cases x <;> simp [LinkState.holding]

theorem State.duplicate_iff (f : FarId) : s.duplicate p h f = true ↔ ∃ p' h' l, ¬ (p' = p ∧ h' = h) ∧
    s.link p' h' = some l ∧ (l.state = .verified ∨ l.state = .training ∨ l.state = .up) ∧ l.far = some f := by
  simp only [State.duplicate, List.any_eq_true, Bool.and_eq_true, bne_iff_ne, ne_eq, Prod.mk.injEq]
  constructor
  · rintro ⟨⟨p', h'⟩, -, hne, hl⟩
    cases hk : s.link p' h' with
    | none => rw [hk] at hl; cases hl
    | some l =>
      rw [hk] at hl
      simp only [Bool.and_eq_true, beq_iff_eq, LinkState.holding_iff] at hl
      exact ⟨p', h', l, hne, hk, hl⟩
  · rintro ⟨p', h', l, hne, hl, hs, hf⟩
    refine ⟨(p', h'), mem_allPositions p' h', hne, ?_⟩
    rw [hl]
    simp only [Bool.and_eq_true, beq_iff_eq, LinkState.holding_iff]
    exact ⟨hs, hf⟩

/-- R66: the table of checks, in its order. -/
theorem State.firstFailed_checks {d : Descriptor} (hd : (s.port p).desc = some d) (upWidth : Option Nat) {o : Obs}
    (ho : o = (s.port p).observe h) :
    FirstFailed
      [(.formMismatch, ∃ e, (s.port p).plan = some e ∧ e.form ≠ d.form),
       (.dark, (s.port p).markedSet h = 0),
       (.crossed, o.far = none),
       (.scrambled, o.span ≠ some ((s.port p).span h) ∨ o.map = none),
       (.noPlan, (s.port p).plan = none),
       (.wrongPeer, ∀ e f, (s.port p).expectation h = some e → o.far = some f → e.satisfied f = false),
       (.reversed, ∃ e, (s.port p).expectation h = some e ∧ o.map = some .reversed ∧ e.reversal = false),
       (.staleTag, ∃ (r : Nat) (k : Heard), LaneSet.has ((s.port p).markedSet h) r = true ∧
          ((s.port p).rel h r).heard = some k ∧ k.tag ≠ s.planTag),
       (.oneWay, (s.port p).confirmedSet h none = 0),
       (.duplicatePeer, ∃ p' h' l f, ¬ (p' = p ∧ h' = h) ∧ s.link p' h' = some l ∧
          (l.state = .verified ∨ l.state = .training ∨ l.state = .up) ∧ o.far = some f ∧ l.far = some f),
       (.tooNarrow, ∃ e, (s.port p).expectation h = some e ∧ upWidth.getD (o.width.getD 0) < e.minWidth)]
      (s.checks p h o upWidth) := by
  have hm : o.marked = (s.port p).markedSet h := ho ▸ rfl
  have hc : o.confirmed = (s.port p).confirmedSet h none := ho ▸ rfl
  unfold State.checks
  rw [hm, hc]
  refine .cons (PortUnit.formMismatch_iff hd) fun _ => .cons Iff.rfl fun _ => ?_
  cases hf : o.far with
  | none => exact .inl ⟨rfl, rfl⟩
  | some f =>
    refine .inr ⟨by simp, .cons Iff.rfl fun _ => .cons Option.isNone_iff_eq_none fun _ => ?_⟩
    cases he : (s.port p).expectation h with
    | none => exact .inl ⟨fun e _ c => (by cases c), rfl⟩
    | some e =>
      refine .cons (by simp) fun _ => .cons (by simp) fun _ => .cons State.staleTag_iff fun _ => .cons Iff.rfl fun _ =>
        .cons ?_ fun _ => .cons (by simp) fun _ => rfl
      rw [State.duplicate_iff]
      simp only [Option.some.injEq, exists_and_left, exists_eq_left']
end

/-- Settles O44. -/
theorem verdictTakesFirstFailedCheck : Obligations.VerdictTakesFirstFailedCheck := by
  intro s p h upWidth o q d hq hd ho
  subst hq
  refine ⟨⟨fun r => ?_, fun r => ?_, fun r => ?_, fun x hx => ?_, ?_, ?_, fun hheld => ⟨fun f => ?_, fun n => ?_, ?_, ?_⟩⟩,
    fun rows hrows => ?_⟩
  · rw [ho, PortUnit.marked_observe, PortUnit.has_markedSet]
  · rw [ho, PortUnit.confirmed_observe, PortUnit.has_confirmedSet]
    simp
  · rw [ho, PortUnit.polarity_observe, PortUnit.marked_observe, has_laneSet]
    simp only [Bool.and_eq_true, decide_eq_true_eq]
    exact ⟨fun c => c.2, fun c => ⟨((PortUnit.has_markedSet _ h r).mp c.1).1, c⟩⟩
  · rw [ho, PortUnit.farUsable_observe, PortUnit.confirmed_observe, PortUnit.has_heardUsable _ h _ hx]
  · rw [ho]; rfl
  · rw [ho]; rfl
  · rw [ho, PortUnit.marked_observe] at hheld ⊢
    rw [PortUnit.far_observe]
    exact PortUnit.agreed_heldIds hheld (fun k => k.id.far) f
  · rw [ho, PortUnit.marked_observe] at hheld ⊢
    rw [PortUnit.span_observe]
    exact PortUnit.agreed_heldIds hheld (fun k => k.span) n
  · rw [ho, PortUnit.marked_observe] at hheld ⊢
    rw [PortUnit.map_observe]
    split
    · next hc =>
      rw [mapClassOf_straight, PortUnit.all_heldIds hheld (fun _ k => k.relLane) fun r => r]
      exact ⟨fun k => ⟨hc.1, hc.2, k⟩, fun k => k.2.2⟩
    · next hc => exact iff_of_false (by simp) fun k => hc ⟨k.1, k.2.1⟩
  · rw [ho, PortUnit.marked_observe] at hheld ⊢
    rw [PortUnit.map_observe]
    split
    · next hc =>
      rw [mapClassOf_reversed, PortUnit.all_heldIds hheld (fun r k => k.relLane + r + 1) fun _ => (s.port p).span h]
      exact ⟨fun k => ⟨hc.1, hc.2, k⟩, fun k => k.2.2⟩
    · next hc => exact iff_of_false (by simp) fun k => hc ⟨k.1, k.2.1⟩
  · have k := State.firstFailed_checks (h := h) hd upWidth ho
    rw [← hrows] at k
    exact ⟨k.some_iff, k.none_iff⟩

end Sys2Proof.Machine

/-! SUPPORT. What an operation at one link does, in full: its history entries, its capture and its notices
(`State.Does`), and how two of them chain (R72, R132, R151, R154). -/

namespace Sys2Proof.Machine

open Sys2Proof

/-! ### Notices filed for a link -/

/-- The notices of a link, filed in order. -/
def State.filed (s : State) (p : Port) (h : Half) (L : List Detail) : State := L.foldl (fun n d => n.postLink p h d) s

/-- The two states file the same notices. -/
structure State.SameFile (s t : State) : Prop where
  queue : t.queue = s.queue
  overrun : t.overrun = s.overrun
  uptime : t.uptime = s.uptime
  filter1 : t.filter1 = s.filter1
  filter2 : t.filter2 = s.filter2

theorem State.SameFile.post {s t : State} (k : s.SameFile t) (a : Option Port) (b : Option Half) (d : Detail) :
    (s.post a b d).SameFile (t.post a b d) := by
  obtain ⟨hq, ho, hu, h1, h2⟩ := k
  refine ⟨?_, ?_, by simpa using hu, by simpa using h1, by simpa using h2⟩ <;>
    · simp only [State.post, State.enqueue, h1, h2, hu, hq]
      split
      · split <;> simp [ho]
      · assumption

theorem State.SameFile.refl (s : State) : s.SameFile s := ⟨rfl, rfl, rfl, rfl, rfl⟩

theorem State.SameFile.of_bare {s t : State} (hq : t.queue = s.queue) (ho : t.overrun = s.overrun) (hb : t.bare = s.bare) :
    s.SameFile t :=
  have key {α : Type} (f : State → α) := congrArg f hb
  ⟨hq, ho, key (·.uptime), key (·.filter1), key (·.filter2)⟩

section
variable {s t u : State} {p : Port} {h : Half}

theorem State.SameFile.filed (k : s.SameFile t) (p : Port) (h : Half) (L : List Detail) :
    (s.filed p h L).SameFile (t.filed p h L) := by
  induction L generalizing s t with
  | nil => exact k
  | cons d L ih => exact ih (k.post (some p) (some h) d)

theorem State.bare_filed (s : State) (p : Port) (h : Half) (L : List Detail) : (s.filed p h L).bare = s.bare := by
  induction L generalizing s with
  | nil => rfl
  | cons d L ih => exact (ih _).trans (s.bare_postLink p h d)

theorem State.filed_append (s : State) (p : Port) (h : Half) (L M : List Detail) :
    s.filed p h (L ++ M) = (s.filed p h L).filed p h M := List.foldl_append

/-! ### What an operation does -/

/-- From `s` to `t` only the link (`p`, `h`) is acted on, with these history entries, this capture attempt and these
notices. -/
structure State.Does (s t : State) (p : Port) (h : Half) (own : List HistEntry) (cap : Option SnapRecord)
    (notes : List Detail) : Prop where
  acts : s.ActsAt t p h own cap
  queue : t.queue = (s.filed p h notes).queue
  overrun : t.overrun = (s.filed p h notes).overrun

variable {own own' : List HistEntry} {cap cap' : Option SnapRecord} {notes notes' : List Detail}

theorem State.Does.bare (k : s.Does t p h own cap notes) : t.bare = s.bare := k.acts.others.bare

theorem State.Does.sameFile (k : s.Does t p h own cap notes) : (s.filed p h notes).SameFile t :=
  .of_bare k.queue k.overrun (k.bare.trans (s.bare_filed p h notes).symm)

theorem State.Does.uptime (k : s.Does t p h own cap notes) : t.uptime = s.uptime := State.uptime_of_bare k.bare

theorem State.Does.postLink (k : s.Does t p h own cap notes) (d : Detail) :
    s.Does (t.postLink p h d) p h own cap (notes ++ [d]) := by
  obtain ⟨h1, h2, -, -, -⟩ := k.sameFile.post (some p) (some h) d
  refine ⟨k.acts.postLink p h d, ?_, ?_⟩ <;> rw [State.filed_append]
  · exact h1
  · exact h2

theorem State.ActsAt.refl (s : State) (p : Port) (h : Half) : s.ActsAt s p h [] none := by
  have hd : s.departs s p h = false := by simp [State.departs]
  refine ⟨.refl s p h, fun p' h' _ => by simp [hd], fun p' => ?_, rfl⟩
  simpa [hd] using State.Appended.refl s p'

theorem State.Does.refl (s : State) (p : Port) (h : Half) : s.Does s p h [] none [] := ⟨.refl s p h, rfl, rfl⟩

/-- What does not depart and changes no position but its own, and no history. -/
theorem State.does_quiet (ho : s.OthersKept t p h) (hd : s.departs t p h = false)
    (hp : ∀ p' h', ¬ (p' = p ∧ h' = h) → t.pos p' h' = s.pos p' h') (hh : ∀ p', s.Appended t p' [])
    (hs : (t.pos p h).snap = (s.pos p h).snap) (hq : t.queue = s.queue) (hv : t.overrun = s.overrun) :
    s.Does t p h [] none [] :=
  ⟨⟨ho, fun p' h' c => by rw [hd]; exact hp p' h' c, fun p' => by simpa [hd] using hh p', hs⟩, hq, hv⟩

theorem State.does_modPos {f : Position → Position} (hl : holds (s.link p h) = true → holds (f (s.pos p h)).link = true)
    (hs : (f (s.pos p h)).snap = (s.pos p h).snap) : s.Does (s.modPos p h f) p h [] none [] := by
  refine State.does_quiet (s.others_modPos p h f) ?_ (fun p' h' c => ?_) (fun p' => s.appended_modPos p p' h f) ?_ rfl rfl
  · rw [State.departs, State.link_modPos, if_pos ⟨rfl, rfl⟩]
    cases hc : holds (s.link p h)
    · rfl
    · rw [hl hc]; rfl
  · rw [State.pos_modPos, if_neg fun d => c ⟨d.1.symm, d.2.symm⟩]
  · rw [State.pos_modPos, if_pos ⟨rfl, rfl⟩, hs]

/-- R62: a link record replaced without a departure. -/
theorem State.does_setLink {l : Option Link} (hl : holds (s.link p h) = true → holds l = true) :
    s.Does (s.setLink p h l) p h [] none [] := State.does_modPos hl rfl

/-- A change of the lanes of the half in their link part. -/
theorem State.does_mapHalf {f : PortUnit → Nat → LaneUnit → LaneUnit} (hf : ∀ q r x, (f q r x).bare = x.bare) :
    s.Does (s.modPort p fun q => q.mapHalf h (f q)) p h [] none [] := by
  have hpos : ∀ p' h', (s.modPort p fun q => q.mapHalf h (f q)).pos p' h' = s.pos p' h' := fun p' h' => by
    simp only [State.pos, State.port_modPort]
    split
    · next hp => subst hp; exact PortUnit.pos_mapHalf _ _ _ _
    · rfl
  refine State.does_quiet (s.others_mapHalf p h hf) ?_ (fun p' h' _ => hpos p' h') (fun p' => ?_) (by rw [hpos]) rfl rfl
  · simp [State.departs, State.link, hpos]
  · simp only [State.Appended, State.port_modPort, List.foldl_nil]
    split
    · next hp => subst hp; exact ⟨rfl, rfl⟩
    · exact ⟨rfl, rfl⟩

theorem State.link_mapHalf (s : State) (p : Port) (h : Half) (f : PortUnit → Nat → LaneUnit → LaneUnit) (p' : Port) (h' : Half) :
    (s.modPort p fun q => q.mapHalf h (f q)).link p' h' = s.link p' h' :=
  s.link_modPort p p' _ h' fun _ _ => rfl

/-! ### Chaining -/

theorem State.departs_congr (ht : holds (u.link p h) = holds (t.link p h)) : s.departs u p h = s.departs t p h := by
  rw [State.departs, State.departs, ht]

theorem State.departs_of_same (ht : holds (t.link p h) = holds (s.link p h)) : s.departs t p h = false := by
  rw [State.departs, ht]
  cases holds (s.link p h) <;> rfl

theorem State.moved_congr (hu : t.uptime = s.uptime) (a b : Option LinkState) (r : Reason) : t.moved h a b r = s.moved h a b r := by
  rw [State.moved, hu, State.moved]

/-- After an operation, one that makes no capture and does not move the link out of or into the states that hold; where
it has history entries, the first has not departed. -/
theorem State.Does.quietly (k : s.Does t p h own cap notes) (m : t.Does u p h own' none notes')
    (hh : holds (u.link p h) = holds (t.link p h)) (hd : own' = [] ∨ s.departs t p h = false) :
    s.Does u p h (own ++ own') cap (notes ++ notes') := by
  obtain ⟨h1, h2, -, -, -⟩ := k.sameFile.filed p h notes'
  have hdt : t.departs u p h = false := State.departs_of_same hh
  have hdu : s.departs u p h = s.departs t p h := State.departs_congr hh
  refine ⟨⟨k.acts.others.trans m.acts.others, fun p' h' c => ?_, fun p' => ?_, ?_⟩, ?_, ?_⟩
  · have e := m.acts.peers p' h' c
    rw [hdt] at e
    rw [hdu]
    exact e.trans (k.acts.peers p' h' c)
  · have e := (k.acts.histories p').trans (m.acts.histories p')
    rw [hdt] at e
    rw [hdu]
    rcases hd with rfl | hd
    · simpa using e
    · rw [hd] at e ⊢
      split <;> simp_all
  · exact (m.acts.snap).trans k.acts.snap
  · rw [State.filed_append, m.queue, h1]
  · rw [State.filed_append, m.overrun, h2]

/-- After an operation that makes no capture and keeps the link among the states that hold, or outside them, any
other. -/
theorem State.Does.andThen (k : s.Does t p h own none notes) (m : t.Does u p h own' cap notes')
    (hh : holds (t.link p h) = holds (s.link p h)) : s.Does u p h (own ++ own') cap (notes ++ notes') := by
  obtain ⟨h1, h2, -, -, -⟩ := k.sameFile.filed p h notes'
  have hdt : s.departs t p h = false := State.departs_of_same hh
  have hdu : s.departs u p h = t.departs u p h := by rw [State.departs, State.departs, hh]
  have hpos : ∀ p' h', ¬ (p' = p ∧ h' = h) → t.pos p' h' = s.pos p' h' := fun p' h' c => by
    have e := k.acts.peers p' h' c
    rw [hdt] at e
    exact e
  have hrel : ∀ p', t.releaseEntries p h p' = s.releaseEntries p h p' := fun p' => by
    unfold State.releaseEntries State.moved
    rw [k.uptime]
    congr 1
    refine List.filter_congr fun x _ => ?_
    by_cases hx : p' = p ∧ x = h
    · obtain ⟨rfl, rfl⟩ := hx; simp
    · rw [hpos p' x hx]
  refine ⟨⟨k.acts.others.trans m.acts.others, fun p' h' c => ?_, fun p' => ?_, ?_⟩, ?_, ?_⟩
  · have e := m.acts.peers p' h' c
    rw [hpos p' h' c, k.uptime] at e
    rw [hdu]
    exact e
  · have e := (k.acts.histories p').trans (m.acts.histories p')
    rw [hdt, hrel] at e
    rw [hdu]
    split <;> simp_all
  · rw [m.acts.snap, k.acts.snap]
    rfl
  · rw [State.filed_append, m.queue, h1]
  · rw [State.filed_append, m.overrun, h2]

/-- What is done within an event. -/
theorem State.Does.after (k : s.event.Does t p h own cap notes) : s.Does (s.after t) p h own cap notes := by
  obtain ⟨⟨⟨hb, hpos, hl, hh⟩, hp, ha, hs⟩, hq, hv⟩ := k
  have hf : (s.filed p h notes).SameFile (s.event.filed p h notes) := State.SameFile.filed (s := s) (t := s.event) ⟨rfl, rfl, rfl, rfl, rfl⟩ p h notes
  refine ⟨⟨⟨congrArg (fun t : State => { t with eventLoss := s.eventLoss }) hb, hpos, hl, hh⟩, hp, ha, hs⟩, ?_, ?_⟩
  · exact hq.trans hf.queue
  · exact hv.trans hf.overrun

/-! ### Changes of link state -/

/-- R72, R151, R154: a change of link state. -/
theorem State.does_moveLink {old : Option Link} (ho : s.link p h = old) (new : Option Link) (down hist : Reason) :
    s.Does (s.moveLink p h old new down hist) p h
      (if changesHistory old new then
        [s.moved h (old.map fun l => l.state) (new.map fun l => l.state) hist] else [])
      (s.snapOf p h old new down) [] :=
  have q := s.queue_moveLink p h old new down hist
  ⟨State.acts_moveLink ho new down hist, q.1, q.2⟩

end

end Sys2Proof.Machine

/-! SUPPORT. What a link reads of its port: the receive records, the descriptor and the plan entry, which no change of a
link touches. -/

namespace Sys2Proof.Machine

open Sys2Proof

section
variable (q : PortUnit) (h : Half) (l : Link)

theorem PortUnit.rel_bare (r : Nat) : q.bare.rel h r = (q.rel h r).bare := q.lane_bare _

theorem PortUnit.span_bare : q.bare.span h = q.span h := rfl

theorem PortUnit.expectation_bare : q.bare.expectation h = q.expectation h := rfl

theorem PortUnit.confirmedSet_bare (far : Option FarId) : q.bare.confirmedSet h far = q.confirmedSet h far := by
  simp only [PortUnit.confirmedSet, PortUnit.rel_bare]; rfl

theorem PortUnit.usable_bare : q.bare.usable h l = q.usable h l := by
  simp only [PortUnit.usable, PortUnit.confirmedSet_bare]

theorem PortUnit.heardUsable_bare (S : LaneSet) : q.bare.heardUsable h S = q.heardUsable h S := by
  simp only [PortUnit.heardUsable, PortUnit.rel_bare]; rfl

theorem PortUnit.farUsable_bare : q.bare.farUsable h l = q.farUsable h l := by
  simp only [PortUnit.farUsable, PortUnit.confirmedSet_bare, PortUnit.heardUsable_bare]

theorem PortUnit.reference_bare : q.bare.reference h l = q.reference h l := by
  simp only [PortUnit.reference, PortUnit.confirmedSet_bare, PortUnit.rel_bare]; rfl

theorem PortUnit.farReady_bare : q.bare.farReady h l = q.farReady h l := by
  simp only [PortUnit.farReady, PortUnit.confirmedSet_bare, PortUnit.rel_bare]; rfl

theorem PortUnit.permitted_bare : q.bare.permitted h l = q.permitted h l := rfl

theorem PortUnit.minWidth_bare : q.bare.minWidth h = q.minWidth h := rfl

theorem PortUnit.minGrade_bare : q.bare.minGrade h = q.minGrade h := rfl

theorem PortUnit.farProposal_bare : q.bare.farProposal h l = q.farProposal h l := by
  unfold PortUnit.farProposal
  rw [PortUnit.reference_bare, PortUnit.span_bare]

theorem PortUnit.farAccept_bare : q.bare.farAccept h l = q.farAccept h l := by
  unfold PortUnit.farAccept
  rw [PortUnit.reference_bare]

theorem PortUnit.regroupPending_bare : q.bare.regroupPending h l = q.regroupPending h l := by
  unfold PortUnit.regroupPending
  rw [PortUnit.farProposal_bare, PortUnit.farAccept_bare]

theorem PortUnit.alignDone_bare : q.bare.alignDone h l = q.alignDone h l := by
  unfold PortUnit.alignDone
  rw [PortUnit.reference_bare]

theorem PortUnit.markedSet_bare : q.bare.markedSet h = q.markedSet h := by
  simp only [PortUnit.markedSet, PortUnit.rel_bare]; rfl

theorem PortUnit.heldIds_bare : q.bare.heldIds h = q.heldIds h := by
  simp only [PortUnit.heldIds, PortUnit.markedSet_bare, PortUnit.rel_bare]; rfl

theorem PortUnit.observe_bare : q.bare.observe h = q.observe h := by
  simp only [PortUnit.observe, PortUnit.heldIds_bare, PortUnit.markedSet_bare, PortUnit.confirmedSet_bare,
    PortUnit.heardUsable_bare, PortUnit.rel_bare, PortUnit.span_bare]
  rfl

theorem PortUnit.selected_bare : q.bare.selected h l = q.selected h l := by
  unfold PortUnit.selected PortUnit.candidates
  rw [PortUnit.usable_bare, PortUnit.farUsable_bare, PortUnit.span_bare, PortUnit.minWidth_bare]

theorem PortUnit.juniorTest_bare : q.bare.juniorTest h l = q.juniorTest h l := by
  unfold PortUnit.juniorTest
  rw [PortUnit.usable_bare, PortUnit.reference_bare, PortUnit.farProposal_bare, PortUnit.span_bare, PortUnit.minWidth_bare]

theorem PortUnit.runProtocol_bare : q.bare.runProtocol h l = q.runProtocol h l := by
  unfold PortUnit.runProtocol
  rw [PortUnit.selected_bare, PortUnit.juniorTest_bare, PortUnit.farProposal_bare, PortUnit.farAccept_bare]

end

/-- A view of a port that reads no link part is the same after a change of a link. -/
theorem State.view_of_bare {α : Type} {f : PortUnit → α} (hf : ∀ q, f q.bare = f q) {s t : State} (hb : t.bare = s.bare)
    (p : Port) : f (t.port p) = f (s.port p) := by
  rw [← hf (t.port p), State.bare_port hb p, hf]

end Sys2Proof.Machine

/-! SUPPORT. A link that leaves TRAINING or UP, and the captures of a change of link state (R92, R119, R120, R129 to R132,
R151, R152). -/

namespace Sys2Proof.Machine

open Sys2Proof

set_option Elab.async false

/-! ### Captures -/

section
variable (s : State) (p : Port) (h : Half) {old : Option Link} {l k : Link} (down : Reason)

theorem State.snapOf_some : s.snapOf p h old (some k) down =
    if old.map (fun l => l.state) = some .up ∧ k.state ≠ .up then old.map fun l => s.upRecord p h l down l.sup.score k.far
    else if k.state = .blocked ∧ old.map (fun l => l.state) ≠ some .blocked then
      some (s.entryRecord p h (old.map fun l => l.state) k (k.reason.getD down))
    else if k.state = .isolated ∧ old.map (fun l => l.state) ≠ some .isolated then
      some (s.entryRecord p h (old.map fun l => l.state) k (k.sup.isoCause.getD down))
    else none := by
  cases old <;> rfl

theorem State.snapOf_up (hs : l.state = .up) (hk : k.state ≠ .up) :
    s.snapOf p h (some l) (some k) down = some (s.upRecord p h l down l.sup.score k.far) :=
  if_pos ⟨congrArg some hs, hk⟩

/-- R151 (2): the entry to BLOCKED from a state other than UP. -/
theorem State.snapOf_blocked (ho : old.map (fun l => l.state) ≠ some .up) (hk : k.state = .blocked) :
    s.snapOf p h old (some k) down = if old.map (fun l => l.state) = some .blocked then none
      else some (s.entryRecord p h (old.map fun l => l.state) k (k.reason.getD down)) := by
  rw [State.snapOf_some, if_neg fun c => ho c.1]
  by_cases hb : old.map (fun l => l.state) = some .blocked
  · rw [if_neg fun c => c.2 hb, if_neg (by simp [hk]), if_pos hb]
  · rw [if_pos ⟨hk, hb⟩, if_neg hb]

/-- R151 (3): the entry to ISOLATED from a state other than UP. -/
theorem State.snapOf_isolated (ho : old.map (fun l => l.state) ≠ some .up) (hk : k.state = .isolated) :
    s.snapOf p h old (some k) down = if old.map (fun l => l.state) = some .isolated then none
      else some (s.entryRecord p h (old.map fun l => l.state) k (k.sup.isoCause.getD down)) := by
  rw [State.snapOf_some, if_neg fun c => ho c.1, if_neg (by simp [hk])]
  by_cases hb : old.map (fun l => l.state) = some .isolated
  · rw [if_neg fun c => c.2 hb, if_pos hb]
  · rw [if_pos ⟨hk, hb⟩, if_neg hb]

/-- R151: no other entry makes a capture attempt. -/
theorem State.snapOf_quiet (ho : old.map (fun l => l.state) ≠ some .up) (hb : k.state ≠ .blocked) (hi : k.state ≠ .isolated) :
    s.snapOf p h old (some k) down = none := by
  rw [State.snapOf_some, if_neg fun c => ho c.1, if_neg fun c => hb c.1, if_neg fun c => hi c.1]

theorem changesHistory_of_state (hn : old.map (fun l => l.state) ≠ some k.state) : changesHistory old (some k) = true := by
  rw [changesHistory, Bool.or_eq_true]
  exact .inl (bne_iff_ne.mpr hn)
end

section
variable {s : State} {p : Port} {h : Half} {old : Option Link} {l k : Link}

/-- R151, R154: a link enters another state. -/
theorem State.does_move (ho : s.link p h = old) (hn : old.map (fun l => l.state) ≠ some k.state) (down hist : Reason) :
    s.Does (s.moveLink p h old (some k) down hist) p h [s.moved h (old.map fun l => l.state) (some k.state) hist]
      (s.snapOf p h old (some k) down) [] := by
  have m := State.does_moveLink ho (some k) down hist
  rwa [if_pos (changesHistory_of_state hn)] at m

theorem State.does_move_link (hl : s.link p h = some l) (hn : l.state ≠ k.state) (down hist : Reason) :
    s.Does (s.moveLink p h (some l) (some k) down hist) p h [s.moved h (some l.state) (some k.state) hist]
      (s.snapOf p h (some l) (some k) down) [] :=
  State.does_move hl (fun c => hn (Option.some.inj c)) down hist

/-! ### Leaving TRAINING or UP -/

theorem Link.live_iff : l.live = true ↔ l.state = .training ∨ l.state = .up := by simp [Link.live]

theorem Link.leave_of_live (hl : l.live = true) (now : Uptime) : l.leave now = l.endLive now := by
  unfold Link.leave
  rcases Link.live_iff.mp hl with e | e <;> rw [e]

/-- R82, R84, R96, R103, R106, R125: what stays of a live link that has left its state. -/
theorem Link.stopped_endLive (l : Link) (now : Uptime) : l.Stopped (l.endLive now) now :=
  ⟨rfl, rfl, rfl, rfl, rfl, rfl, rfl, rfl, rfl, rfl, rfl, fun hc => ⟨if_pos hc, if_pos hc⟩, rfl, rfl, rfl, rfl, rfl, rfl, rfl,
    rfl⟩

theorem Link.stopped_toChecking (hl : l.live = true) (now : Uptime) : l.Stopped (l.toChecking now) now := by
  unfold Link.toChecking
  rw [Link.leave_of_live hl]
  exact l.stopped_endLive now

theorem Link.stopped_toVerified (hl : l.live = true) (now : Uptime) : l.Stopped (l.toVerified now) now := by
  unfold Link.toVerified
  rw [Link.leave_of_live hl]
  exact l.stopped_endLive now

theorem Link.Stopped.far (k' : l.Stopped k now) : k.far = l.far := by
  obtain ⟨-, -, -, -, -, -, -, -, -, -, -, -, -, -, -, -, hf, -⟩ := k'
  exact hf

/-- R132, R120: a live link goes down to CHECKING or VERIFIED. -/
theorem State.does_linkDown (hl : s.link p h = some l) (hlive : l.live = true)
    (hk : k.state = .checking ∨ k.state = .verified) (reason hist : Reason) :
    s.Does (s.linkDown p h l k reason hist) p h [s.moved h (some l.state) (some k.state) hist]
      (if l.state = .up then some (s.upRecord p h l reason l.sup.score k.far) else none) [l.downNotice reason] := by
  have hn : (some l).map (fun l => l.state) ≠ some k.state := by
    rcases Link.live_iff.mp hlive with e | e <;> rcases hk with c | c <;> simp [e, c]
  have m := (State.does_move hl hn reason hist).postLink (l.downNotice reason)
  have hcap : s.snapOf p h (some l) (some k) reason =
      if l.state = .up then some (s.upRecord p h l reason l.sup.score k.far) else none := by
    split
    · next hu => exact s.snapOf_up p h reason hu (by rcases hk with c | c <;> simp [c])
    · next hu =>
      exact s.snapOf_quiet p h reason (by simpa using hu) (by rcases hk with c | c <;> simp [c])
        (by rcases hk with c | c <;> simp [c])
  rwa [hcap] at m

theorem State.link_linkDown (s : State) (p : Port) (h : Half) (l k : Link) (reason hist : Reason) :
    (s.linkDown p h l k reason hist).link p h = some k :=
  (State.link_postLink ..).trans (s.link_moveLink p h _ _ _ _)

/-- R132 (2): the lanes of a link that leaves UP. -/
theorem State.released_moveLink (hs : l.state = .up) (hk : k.state ≠ .up) (down hist : Reason) :
    (s.moveLink p h (some l) (some k) down hist).Released p h (s.port p) := fun i hi => by
  have e : leavesUp (some l) (some k) = true := by simpa [leavesUp, hs] using hk
  rw [State.lane_moveLink, if_pos ⟨rfl, e, hi⟩]
  exact ⟨rfl, rfl⟩

/-- Lanes released stay so where active flags and delays are kept. -/
theorem State.Released.of_kept {t u : State} {q : PortUnit} (hr : t.Released p h q)
    (hk : ∀ i, ((u.port p).lane i).active = ((t.port p).lane i).active ∧ ((u.port p).lane i).delay = ((t.port p).lane i).delay) :
    u.Released p h q := fun i hi => by
  rw [(hk i).1, (hk i).2]
  exact hr i hi

theorem State.Released.postLink {t : State} {q : PortUnit} (hr : t.Released p h q) (a : Port) (b : Half) (d : Detail) :
    (t.postLink a b d).Released p h q := hr.of_kept fun i => by simp [State.postLink]

/-- R92, R129: an UP link goes down to CHECKING. -/
theorem State.goesDown_linkDown (hl : s.link p h = some l) (hs : l.state = .up) (reason : Reason) :
    s.GoesDown (s.linkDown p h l (l.toChecking s.uptime) reason reason) p h l reason := by
  have hlive : l.live = true := Link.live_iff.mpr (.inr hs)
  have hst := Link.stopped_toChecking hlive s.uptime
  obtain ⟨ha, hq, -⟩ := State.does_linkDown hl hlive (k := l.toChecking s.uptime) (.inl rfl) reason reason
  rw [if_pos hs, hst.far, hs] at ha
  refine ⟨⟨_, State.link_linkDown .., rfl, rfl, rfl, hst⟩, ?_, ?_, ha⟩
  · exact (State.released_moveLink hs (k := l.toChecking s.uptime) (by simp [Link.toChecking]) reason reason).postLink _ _ _
  · rw [hq, State.filed, Link.downNotice, hs, if_pos rfl]
    rfl

theorem State.goesDown_loseLanes (hl : s.link p h = some l) (hs : l.state = .up) (reason : Reason) :
    s.GoesDown (s.loseLanes p h reason) p h l reason := by
  rw [State.loseLanes, State.withLink_of_link hl]
  exact State.goesDown_linkDown hl hs reason
end

end Sys2Proof.Machine

/-! SUPPORT. What stays of a link that is moved on in place, and the start of an attempt (R109 to R113). -/

namespace Sys2Proof.Machine

open Sys2Proof

/-! ### A link moved on in place -/

/-- From `s` to `t` the link (`p`, `h`) becomes `k` in place: no entry, capture or notice is made; the context and the
residue of the position stay, and so do the active flags and delays. -/
structure State.MovesOn (s t : State) (p : Port) (h : Half) (k : Link) : Prop where
  does : s.Does t p h [] none []
  link : t.link p h = some k
  holds : holds (some k) = holds (s.link p h)
  context : (t.pos p h).context = (s.pos p h).context
  residue : (t.pos p h).residue = (s.pos p h).residue
  lanes : ∀ i, ((t.port p).lane i).active = ((s.port p).lane i).active ∧ ((t.port p).lane i).delay = ((s.port p).lane i).delay

section
variable {s t u : State} {p : Port} {h : Half} {l k k' : Link}

theorem State.MovesOn.trans (a : s.MovesOn t p h k) (b : t.MovesOn u p h k') : s.MovesOn u p h k' where
  does := a.does.quietly b.does (by rw [b.link, b.holds]) (.inl rfl)
  link := b.link
  holds := by rw [b.holds, a.link, a.holds]
  context := b.context.trans a.context
  residue := b.residue.trans a.residue
  lanes i := ⟨(b.lanes i).1.trans (a.lanes i).1, (b.lanes i).2.trans (a.lanes i).2⟩

theorem State.movesOn_setLink (hl : s.link p h = some l) (hk : k.state = l.state) : s.MovesOn (s.setLink p h (some k)) p h k where
  does := State.does_setLink fun c => by
    rw [hl] at c
    show k.state.holding = true
    rw [hk]; exact c
  link := State.link_setLink_self ..
  holds := by rw [hl]; exact congrArg LinkState.holding hk
  context := by rw [State.setLink, State.pos_modPos, if_pos ⟨rfl, rfl⟩]
  residue := by rw [State.setLink, State.pos_modPos, if_pos ⟨rfl, rfl⟩]
  lanes i := by rw [State.setLink, State.lane_modPos]; exact ⟨rfl, rfl⟩

theorem State.movesOn_modLink (hl : s.link p h = some l) {f : Link → Link} (hk : (f l).state = l.state) :
    s.MovesOn (s.modLink p h f) p h (f l) := by
  rw [State.modLink_eq_setLink hl]
  exact State.movesOn_setLink hl hk

theorem State.movesOn_mapHalf (hl : s.link p h = some l) {f : PortUnit → Nat → LaneUnit → LaneUnit}
    (hf : ∀ q r x, (f q r x).bare = x.bare) (ha : ∀ q r x, (f q r x).active = x.active)
    (hd : ∀ q r x, (f q r x).delay = x.delay) : s.MovesOn (s.modPort p fun q => q.mapHalf h (f q)) p h l where
  does := State.does_mapHalf hf
  link := by rw [State.link_mapHalf, hl]
  holds := by rw [hl]
  context := by rw [State.pos, State.port_modPort_self, PortUnit.pos_mapHalf]; rfl
  residue := by rw [State.pos, State.port_modPort_self, PortUnit.pos_mapHalf]; rfl
  lanes i := by
    rw [State.port_modPort_self, PortUnit.lane_mapHalf]
    split
    · exact ⟨ha _ _ _, hd _ _ _⟩
    · exact ⟨rfl, rfl⟩

/-! ### Dwells -/

theorem State.movesOn_clearBest (hl : s.link p h = some l) : s.MovesOn (s.modPort p fun q => q.clearBest h) p h l :=
  State.movesOn_mapHalf (f := fun _ _ x => { x with best := none }) hl (fun _ _ _ => rfl) (fun _ _ _ => rfl) fun _ _ _ => rfl

theorem State.movesOn_choosePresets (hl : s.link p h = some l) (S : LaneSet) (f : Nat → Nat) :
    s.MovesOn (s.modPort p fun q => q.choosePresets h S f) p h l :=
  State.movesOn_mapHalf (f := fun _ r x => if LaneSet.has S r then { x with preset := f r } else x) hl
    (fun _ _ _ => by split <;> rfl) (fun _ _ _ => by split <;> rfl) fun _ _ _ => by split <;> rfl

/-- R113: the link as a list dwell begins. -/
def Link.inListDwell (l : Link) (k : Nat) (timer : Option Timer) : Link :=
  { l with training := { l.training with dwell := some (.list k), dwellTimer := timer } }

theorem State.movesOn_beginListDwell (hl : s.link p h = some l) (n : Nat) :
    s.MovesOn (s.beginListDwell p h n) p h (l.inListDwell n (s.timer 2)) := by
  rw [State.beginListDwell, State.withLink_of_link hl]
  have a := State.movesOn_choosePresets hl l.training.attemptLanes fun _ => presetAt l.training.presets n
  exact a.trans (State.movesOn_modLink (f := fun l => l.inListDwell n (s.timer 2)) a.link rfl)

theorem State.lane_beginListDwell (hl : s.link p h = some l) (n : Nat) (i : Lane) :
    ((s.beginListDwell p h n).port p).lane i =
      if (s.port p).ofHalf h i = true ∧ LaneSet.has l.training.attemptLanes (relLane h i) = true then
        { (s.port p).lane i with preset := presetAt l.training.presets n }
      else (s.port p).lane i := by
  rw [State.beginListDwell, State.withLink_of_link hl, State.modLink, State.lane_modPos, State.port_modPort_self,
    PortUnit.choosePresets, PortUnit.lane_mapHalf]
  by_cases hh : (s.port p).ofHalf h i = true
  · rw [if_pos hh]
    by_cases hc : LaneSet.has l.training.attemptLanes (relLane h i) = true
    · rw [if_pos hc, if_pos ⟨hh, hc⟩]
    · rw [if_neg hc, if_neg fun c => hc c.2]
  · rw [if_neg hh, if_neg fun c => hh c.1]

theorem State.movesOn_beginRetained (hl : s.link p h = some l) (c : Context) :
    s.MovesOn (s.beginRetained p h c) p h
      { l with training := { l.training with context := some c, dwell := some .retained, dwellTimer := s.timer 2 } } := by
  rw [State.beginRetained, State.withLink_of_link hl]
  have a := State.movesOn_choosePresets hl l.training.attemptLanes fun r => (laneAt c.presets r).getD 0
  exact a.trans (State.movesOn_modLink (f := fun l =>
    { l with training := { l.training with context := some c, dwell := some .retained, dwellTimer := s.timer 2 } }) a.link rfl)

/-- R111: `k` is the link `l` after EQUALIZE has begun: only its training fields differ, and neither stage, training timer
nor last failure. -/
def Link.Equalized (l k : Link) : Prop :=
  k = { l with training := k.training } ∧ k.training.stage = l.training.stage ∧ k.training.timer = l.training.timer ∧
    k.training.lastFailure = l.training.lastFailure

theorem State.movesOn_beginEqualize (restart : Restart) (hl : s.link p h = some l) (hu : (s.port p).usable h l ≠ 0) :
    ∃ k, l.Equalized k ∧ s.MovesOn (s.beginEqualize restart p h) p h k := by
  rw [State.beginEqualize, State.withLink_of_link hl]
  dsimp only
  have a := State.movesOn_clearBest hl
  have b := a.trans (State.movesOn_modLink (f := fun k => { k with training := { k.training with
    attemptLanes := (s.port p).usable h l, presets := (s.port p).effectiveList ((s.port p).expectation h) } }) a.link rfl)
  rw [if_neg hu]
  split
  · next c _ =>
    have d := b.trans (State.movesOn_beginRetained b.link c)
    exact ⟨_, (by exact ⟨rfl, rfl, rfl, rfl⟩), d⟩
  · have d := b.trans (State.movesOn_beginListDwell b.link 1)
    exact ⟨_, (by exact ⟨rfl, rfl, rfl, rfl⟩), d⟩

/-! ### The start test -/

theorem PortUnit.usable_toTraining (q : PortUnit) (h : Half) (l : Link) (timer : Option Timer) :
    q.usable h (l.toTraining timer) = q.confirmedSet h l.far := by
  show q.confirmedSet h l.far &&& ~~~ (0 ||| 0 ||| 0 ||| 0) = q.confirmedSet h l.far
  rw [show ~~~(0 ||| 0 ||| 0 ||| 0 : LaneSet) = BitVec.allOnes 8 from rfl, BitVec.and_allOnes]

/-- R110: `k` is the link `l` as its training starts. -/
def Link.Started (l k : Link) (timer : Option Timer) : Prop := (l.toTraining timer).Equalized k

/-- R109, R110: from `s` to `t` the training of the VERIFIED link `l` has started, and left it as `k`. -/
structure State.Starts (s t : State) (p : Port) (h : Half) (l k : Link) : Prop where
  does : s.Does t p h [s.moved h (some .verified) (some .training) .start] none []
  link : t.link p h = some k
  started : l.Started k (s.timer s.timing.timeout)
  context : (t.pos p h).context = (s.pos p h).context
  residue : (t.pos p h).residue = (s.pos p h).residue
  lanes : ∀ i, ((t.port p).lane i).active = ((s.port p).lane i).active ∧ ((t.port p).lane i).delay = ((s.port p).lane i).delay

theorem Link.Started.state {timer : Option Timer} (k' : l.Started k timer) : k.state = .training := by
  obtain ⟨e, -⟩ := k'
  rw [e]
  rfl

theorem State.starts_enterTraining (hl : s.link p h = some l) (hs : l.state = .verified)
    (hr : (s.port p).farReady h l = true) : ∃ k, s.Starts (s.enterTraining p h l) p h l k := by
  have hu : (s.port p).confirmedSet h l.far ≠ 0 := by
    simp only [PortUnit.farReady, Bool.and_eq_true, bne_iff_ne] at hr
    exact hr.1
  generalize hk : l.toTraining (s.timer s.timing.timeout) = k0
  generalize ht : s.moveLink p h (some l) (some k0) .start .start = t
  have hk0 : k0.state = .training := by rw [← hk]; rfl
  have hlt : t.link p h = some k0 := by rw [← ht, State.link_moveLink]
  have m := State.does_move_link (k := k0) hl (by simp [hs, hk0]) .start .start
  rw [s.snapOf_quiet p h .start (by simp [hs]) (by simp [hk0]) (by simp [hk0]), ht, hs, hk0] at m
  have hut : (t.port p).usable h k0 ≠ 0 := by
    rw [State.view_of_bare (f := fun q => q.usable h k0) (fun q => q.usable_bare h k0) m.bare, ← hk, PortUnit.usable_toTraining]
    exact hu
  obtain ⟨k, he, b⟩ := State.movesOn_beginEqualize (fun t _ _ => t) hlt hut
  have hpos : t.pos p h = { s.pos p h with link := some k0, snap := (t.pos p h).snap } := by
    rw [← ht, State.pos_moveLink]
  have hlane : ∀ i, (t.port p).lane i = (s.port p).lane i := fun i => by
    rw [← ht, State.lane_moveLink, if_neg]
    simp [leavesUp, hs]
  have hen : s.enterTraining p h l = t.beginEqualize (fun t _ _ => t) p h := by rw [← ht, ← hk]; rfl
  rw [hen]
  refine ⟨k, ?_, b.link, ?_, ?_, ?_, fun i => ?_⟩
  · exact m.quietly b.does (by rw [b.link, b.holds, hlt]) (.inl rfl)
  · rw [Link.Started, hk]; exact he
  · rw [b.context, hpos]
  · rw [b.residue, hpos]
  · rw [(b.lanes i).1, (b.lanes i).2, hlane]
    exact ⟨rfl, rfl⟩

theorem State.startTest_starts (hl : s.link p h = some l) (hs : l.state = .verified) (hp : (s.port p).permitted h l = true)
    (hr : (s.port p).farReady h l = true) : ∃ k, s.Starts (s.startTest p h) p h l k := by
  rw [State.startTest, State.withLink_of_link hl, if_pos ⟨hs, hp, hr⟩]
  exact State.starts_enterTraining hl hs hr

theorem State.startTest_idle (hl : s.link p h = some l)
    (hn : ¬ (l.state = .verified ∧ (s.port p).permitted h l = true ∧ (s.port p).farReady h l = true)) : s.startTest p h = s := by
  rw [State.startTest, State.withLink_of_link hl, if_neg hn]
end

end Sys2Proof.Machine

/-! SUPPORT and PROOF. Links by request: TRAIN (R108) and ISOLATE (R134, R135). -/

namespace Sys2Proof.Machine

open Sys2Proof

section
variable {s : State} {p : Port} {h : Half} {l k : Link}

/-! ### TRAIN -/

theorem State.setLink_self (hl : s.link p h = some l) : s.setLink p h (some l) = s := by
  have hq : (s.port p).setPos h { s.pos p h with link := some l } = s.port p := by
    rw [← hl]
    cases h <;> rfl
  exact (congrArg (s.setPort p) hq).trans (s.setPort_self p)

theorem PortUnit.farReady_of_far (q : PortUnit) (h : Half) (hf : k.far = l.far) : q.farReady h k = q.farReady h l := by
  unfold PortUnit.farReady
  rw [hf]

theorem State.farReady_setLink (s : State) (p : Port) (h : Half) (hf : k.far = l.far) (x : Option Link) :
    ((s.setLink p h x).port p).farReady h k = (s.port p).farReady h l := by
  rw [State.view_of_bare (f := fun q => q.farReady h k) (fun q => q.farReady_bare h k) (s.bare_setLink p h x),
    PortUnit.farReady_of_far _ h hf]

theorem State.grantAt_eq (hl : s.link p h = some l) (hk : k = { l with grant := true }) :
    s.grantAt p h = s.setLink p h (some k) := by
  rw [hk]
  exact State.modLink_eq_setLink hl _

theorem State.train_eq_grant (hl : s.link p h = some l) (hk : k = { l with grant := true })
    (hs : l.state = .training ∨ l.state = .up ∨ (l.state = .verified ∧ (s.port p).farReady h l = false)) :
    s.train p h l = some (s.setLink p h (some k)) := by
  unfold State.train
  rw [State.grantAt_eq hl hk]
  rcases hs with e | e | ⟨e, hr⟩ <;> rw [e]
  refine congrArg some ?_
  rw [State.startTest_idle (State.link_setLink_self ..)]
  rintro ⟨-, -, c⟩
  rw [State.farReady_setLink (l := l) s p h (by rw [hk]), hr] at c
  exact Bool.false_ne_true c

/-- R108, R109: a VERIFIED link with the grant starts its training where the far end is ready. -/
theorem State.train_starts (hl : s.link p h = some l) (hk : k = { l with grant := true }) (hs : l.state = .verified)
    (hr : (s.port p).farReady h l = true) :
    ∃ t k', s.train p h l = some t ∧ (s.setLink p h (some k)).Starts t p h k k' := by
  have hks : k.state = .verified := by rw [hk]; exact hs
  have hready : ((s.setLink p h (some k)).port p).farReady h k = true := by
    rw [State.farReady_setLink (l := l) s p h (by rw [hk]), hr]
  have hperm : ((s.setLink p h (some k)).port p).permitted h k = true := by
    rw [PortUnit.permitted, hk]
    rfl
  obtain ⟨k', m⟩ := State.startTest_starts (State.link_setLink_self ..) hks hperm hready
  refine ⟨_, k', ?_, m⟩
  unfold State.train
  rw [hs, State.grantAt_eq hl hk]

/-- R74, R108: TRAIN at a CHECKING link. -/
theorem State.train_checking (hl : s.link p h = some l) (hs : l.state = .checking) :
    s.train p h l = some (s.setLink p h (some (if l.grant = true then l
      else if l.checkEntry.any (fun e => decide ((s.uptime - e).toNat < 500)) then
        { l with grant := true, quiet := some ⟨s.uptime, 20⟩ }
      else { l with grant := true }))) := by
  have ht : s.train p h l = some (s.trainChecking p h l) := by unfold State.train; rw [hs]
  rw [ht]
  refine congrArg some ?_
  unfold State.trainChecking
  by_cases hg : l.grant = true
  · rw [if_pos hg, if_pos hg, State.setLink_self hl]
  · rw [if_neg hg, if_neg hg]
    refine congrArg (fun k => s.setLink p h (some k)) ?_
    unfold Link.restartQuiet
    cases l.checkEntry <;> simp

theorem State.does_trainBlocked (hl : s.link p h = some l) (hs : l.state = .blocked) :
    s.Does (s.enterChecking p h { l with grant := true, attempts := 0 } .train) p h
      [s.moved h (some .blocked) (some .checking) .train] none [] := by
  have e : s.enterChecking p h { l with grant := true, attempts := 0 } .train =
      (s.setLink p h (some { l with grant := true, attempts := 0 })).enterChecking p h
        { l with grant := true, attempts := 0 } .train := (State.moveLink_setLink ..).symm
  rw [e]
  generalize hk : ({ l with grant := true, attempts := 0 } : Link) = k
  have hks : k.state = .blocked := by rw [← hk]; exact hs
  have a : s.Does (s.setLink p h (some k)) p h [] none [] := State.does_setLink fun c => by
    rw [hl] at c
    exact absurd c (by simp [holds, hs, LinkState.holding])
  have hlt : (s.setLink p h (some k)).link p h = some k := State.link_setLink_self ..
  have b := State.does_move_link (k := k.toChecking s.uptime) hlt (by simp [hks, Link.toChecking]) .train .train
  rw [State.snapOf_quiet _ p h .train (by simp [hks]) (by simp [Link.toChecking]) (by simp [Link.toChecking]), hks] at b
  exact a.andThen b (by rw [hlt, hl]; simp [holds, hks, hs])

section
variable {b x : Byte} (hp : onePort s b = .ok p) (hh : halfOperand x = some h) (ha : (s.port p).state = .assigned)
  (hB : h = .B → (s.port p).isSplit = true) (hl : s.link p h = some l)
include hp hh ha hB hl

theorem answer_train (tag : Byte) {t : State} (ht : s.train p h l = some t) (hk : t.link p h = some k) :
    answer (.train tag b x) s = .ok t (trainBytes k) := by
  show reqTrain b x s = _
  rw [reqTrain, withPort_of_ok hp, withHalf_of_some hh, withLinkAt_of_link ha hB hl, ht]
  dsimp only
  rw [State.linkData_of_link hk]

theorem answer_train_refused (tag : Byte) (ht : s.train p h l = none) :
    answer (.train tag b x) s = .refuse s .wrongState := by
  show reqTrain b x s = _
  rw [reqTrain, withPort_of_ok hp, withHalf_of_some hh, withLinkAt_of_link ha hB hl, ht]

theorem answer_isolate (tag : Byte) (hs : l.state ≠ .isolated) (hk : (s.isolateByHost p h l).link p h = some k) :
    answer (.isolate tag b x) s = .ok (s.isolateByHost p h l) (scoreBytes k) := by
  show reqIsolate b x s = _
  rw [reqIsolate, withPort_of_ok hp, withHalf_of_some hh, withLinkAt_of_link ha hB hl, if_neg hs]
  dsimp only
  rw [State.linkData_of_link hk]

theorem answer_isolate_refused (tag : Byte) (hs : l.state = .isolated) :
    answer (.isolate tag b x) s = .refuse s .wrongState := by
  show reqIsolate b x s = _
  rw [reqIsolate, withPort_of_ok hp, withHalf_of_some hh, withLinkAt_of_link ha hB hl, if_pos hs]
end
end

/-- Settles O27, by the state of the link. -/
theorem trainActsByLinkState : Obligations.TrainActsByLinkState := by
  intro tag b x s p h l hidle hp hh ha hB hl
  have ok {t : State} {k : Link} (ht : s.train p h l = some t) (hk : t.link p h = some k) :=
    exec_of_ok (i := .train tag b x) rfl rfl hidle (answer_train hp hh ha hB hl tag ht hk)
  refine ⟨fun hs => ?checking, fun hs => ?grant, fun hs hr => ?start, fun hs hf => ?blocked, fun hs => ?refused⟩
  case checking =>
    generalize hk : (if l.grant = true then l
      else if l.checkEntry.any (fun e => decide ((s.uptime - e).toNat < 500)) then
        { l with grant := true, quiet := some ⟨s.uptime, 20⟩ }
      else { l with grant := true }) = k
    have ht := State.train_checking hl hs
    rw [hk] at ht
    have hkd : k.state = l.state ∧ k.reason = l.reason ∧ k.grant = true ∧ k.attempts = l.attempts := by
      rw [← hk]
      split
      · next hg => exact ⟨rfl, rfl, hg, rfl⟩
      · split <;> exact ⟨rfl, rfl, rfl, rfl⟩
    obtain ⟨h1, h2, h3, h4⟩ := hkd
    rw [ok ht (State.link_setLink_self ..), trainBytes, h1, h2, h3, h4]
    rfl
  case grant => exact ok (State.train_eq_grant hl rfl hs) (State.link_setLink_self ..)
  case start =>
    generalize hg : ({ l with grant := true } : Link) = k'
    obtain ⟨t, k, ht, m⟩ := State.train_starts hl hg.symm hs hr
    have hks := m.started.state
    obtain ⟨hke, hst, hti, -⟩ := m.started
    have hg' : k'.state = l.state ∧ k'.grant = true ∧ k'.attempts = l.attempts ∧ k'.sup = l.sup := by
      rw [← hg]; exact ⟨rfl, rfl, rfl, rfl⟩
    obtain ⟨g1, g2, g3, g4⟩ := hg'
    have a := State.movesOn_setLink hl g1
    have hfields : k.grant = true ∧ k.attempts = l.attempts ∧ k.marks = {} ∧
        k.sup.trainings = min 65535 (l.sup.trainings + 1) := by
      rw [hke, ← g3, ← g4]; exact ⟨g2, rfl, rfl, rfl⟩
    obtain ⟨f1, f2, f3, f4⟩ := hfields
    refine ⟨t, k, ?_, m.link, hks, f1, f2, hst, hti, f3, f4, ?_⟩
    · rw [ok ht m.link, trainBytes, hks, f1]; rfl
    · exact (a.does.andThen m.does (by rw [a.link, a.holds])).acts
  case blocked =>
    have ht : s.train p h l = some (s.enterChecking p h { l with grant := true, attempts := 0 } .train) := by
      unfold State.train
      rw [hs]
      exact if_pos hf
    have hk : (s.enterChecking p h { l with grant := true, attempts := 0 } .train).link p h =
        some { l with state := .checking, reason := none, grant := true, attempts := 0,
                      checkEntry := some s.uptime, quiet := some ⟨s.uptime, 20⟩ } := by
      rw [State.enterChecking, State.link_moveLink]
      simp only [Link.toChecking, Link.leave, hs]
    have hx := ok ht hk
    exact ⟨_, _, hx, hk, rfl, (State.does_trainBlocked hl hs).acts⟩
  case refused =>
    refine exec_of_refuse rfl rfl hidle (answer_train_refused hp hh ha hB hl tag ?_)
    unfold State.train
    rcases hs with e | ⟨e, hf⟩ <;> rw [e]
    exact if_neg hf

end Sys2Proof.Machine

/-! SUPPORT and PROOF. The entry to ISOLATED, and ISOLATE (R134, R135). -/

namespace Sys2Proof.Machine

open Sys2Proof

set_option Elab.async false

section
variable {s t : State} {p : Port} {h : Half} {old : Option Link} {l k : Link}

/-- What a link keeps as it leaves its state. -/
theorem Link.leave_kept (l : Link) (now : Uptime) : (l.leave now).far = l.far ∧ (l.leave now).map = l.map ∧
    (l.leave now).polarity = l.polarity ∧ (l.leave now).expWidth = l.expWidth ∧ (l.leave now).grant = l.grant ∧
    (l.leave now).attempts = l.attempts := by
  unfold Link.leave
  cases l.state <;> exact ⟨rfl, rfl, rfl, rfl, rfl, rfl⟩

theorem Link.leave_active (l : Link) (now : Uptime) : (l.leave now).agree.active = if l.live then none else l.agree.active := by
  unfold Link.leave Link.live
  cases l.state <;> rfl

theorem Link.leave_marks (hl : l.live = true) (now : Uptime) : (l.leave now).marks = {} := by
  rw [Link.leave_of_live hl]; rfl

/-- Notices filed change no position and no lane. -/
theorem State.port_filed (s : State) (p : Port) (h : Half) (L : List Detail) (p' : Port) :
    (s.filed p h L).port p' = s.port p' := by
  induction L generalizing s with
  | nil => rfl
  | cons d L ih => exact (ih _).trans (State.port_postLink ..)

theorem State.Does.filed {own : List HistEntry} {cap : Option SnapRecord} {notes : List Detail}
    (k : s.Does t p h own cap notes) (L : List Detail) : s.Does (t.filed p h L) p h own cap (notes ++ L) := by
  induction L generalizing t notes with
  | nil => rw [List.append_nil]; exact k
  | cons d L ih => rw [List.append_cons]; exact ih (k.postLink d)

/-- R135: a link enters ISOLATED, with the notices `L` before ISOLATED. -/
theorem State.does_enterIsolated (ho : s.link p h = old) (hn : old.map (fun l => l.state) ≠ some .isolated)
    (hk : k.state = .isolated) (down hist : Reason) (L : List Detail) :
    s.Does (s.enterIsolated p h old k down hist fun u => u.filed p h L) p h
      [s.moved h (old.map fun l => l.state) (some .isolated) hist] (s.snapOf p h old (some k) down)
      (L ++ [.isolated (k.sup.isoCause.getD down) k.sup.score]) := by
  have m := State.does_move (k := k) ho (by rwa [hk]) down hist
  rw [hk] at m
  exact (m.filed L).postLink _

theorem State.pos_enterIsolated (s : State) (p : Port) (h : Half) (old : Option Link) (k : Link) (down hist : Reason)
    (L : List Detail) : (s.enterIsolated p h old k down hist fun u => u.filed p h L).pos p h =
      { s.pos p h with link := some k, snap := (s.pos p h).snap.after (s.snapOf p h old (some k) down) } := by
  rw [← State.pos_moveLink s p h old (some k) down hist]
  unfold State.pos State.enterIsolated
  rw [State.port_postLink, State.port_filed]

/-- R134, R135 (1): the probe set of a link isolated by request. -/
def State.hostProbes (s : State) (p : Port) (h : Half) (l : Link) : LaneSet :=
  if l.state = .up then groupLanes l.agree.active ||| (s.port p).usable h l else (s.port p).confirmedSet h l.far

/-- R134: the record of a link isolated by request. -/
def State.hostIsolated (s : State) (p : Port) (h : Half) (l : Link) : Link :=
  if l.state = .blocked ∧ l.reason = some .trainFailed then
    { l.toIsolated s.uptime (s.hostProbes p h l) .hostIsolate 127 with attempts := 0 }
  else l.toIsolated s.uptime (s.hostProbes p h l) .hostIsolate 127

theorem State.isolateByHost_eq (s : State) (p : Port) (h : Half) (l : Link) : s.isolateByHost p h l =
    s.enterIsolated p h (some l) (s.hostIsolated p h l) .hostIsolate .hostIsolate fun u =>
      u.filed p h (if l.live then [l.downNotice .hostIsolate] else []) := by
  unfold State.isolateByHost State.hostIsolated State.hostProbes
  cases l.live <;> rfl

theorem State.hostIsolated_eq (s : State) (p : Port) (h : Half) (l : Link) : s.hostIsolated p h l =
    { l.toIsolated s.uptime (s.hostProbes p h l) .hostIsolate 127 with
      attempts := if l.state = .blocked ∧ l.reason = some .trainFailed then 0 else l.attempts } := by
  obtain ⟨-, -, -, -, -, ha⟩ := l.leave_kept s.uptime
  unfold State.hostIsolated
  split
  · rfl
  · rw [← ha]; rfl

/-- R151, R152: the capture of a link isolated from a state other than ISOLATED. -/
theorem State.snapOf_isolate (hs : l.state ≠ .isolated) (hk : k.state = .isolated) (down : Reason) :
    s.snapOf p h (some l) (some k) down = some (s.lostRecord p h l k down (k.sup.isoCause.getD down)) := by
  unfold State.lostRecord
  by_cases hu : l.state = .up
  · rw [if_pos hu, State.snapOf_up s p h down hu (by simp [hk])]
  · rw [if_neg hu, State.snapOf_isolated s p h down (by simpa using hu) hk, if_neg (by simpa using hs)]
    rfl
end

/-- Settles O28. -/
theorem isolateActsByLinkState : Obligations.IsolateActsByLinkState := by
  intro tag b x s p h l hidle hp hh ha hB hl
  refine ⟨fun hs => exec_of_refuse rfl rfl hidle (answer_isolate_refused hp hh ha hB hl tag hs), fun hs => ?_⟩
  generalize hk : s.hostIsolated p h l = k
  have hfields := hk.symm.trans (s.hostIsolated_eq p h l)
  obtain ⟨h1, h2, h3, -, h4, -⟩ := l.leave_kept s.uptime
  have hks : k.state = .isolated := by rw [hfields]; rfl
  have hsup : k.sup.score = 127 ∧ k.sup.isoCause = some .hostIsolate ∧ k.sup.probeTimer = some ⟨s.uptime, 10⟩ ∧
      k.sup.probeDirty = false ∧ k.sup.probeChange = false ∧ k.sup.probesMade = 0 ∧ k.sup.probesClean = 0 ∧
      k.sup.probeSet = s.hostProbes p h l := by
    rw [hfields]; exact ⟨rfl, rfl, rfl, rfl, rfl, rfl, rfl, rfl⟩
  obtain ⟨u1, u2, u3, u4, u5, u6, u7, u8⟩ := hsup
  have heq := s.isolateByHost_eq p h l
  have m := State.does_enterIsolated hl (by simpa using hs) hks .hostIsolate .hostIsolate
    (if l.live then [l.downNotice .hostIsolate] else [])
  have hpos := s.pos_enterIsolated p h (some l) k .hostIsolate .hostIsolate
    (if l.live then [l.downNotice .hostIsolate] else [])
  rw [State.snapOf_isolate hs hks, u2, u1] at m
  rw [← hk, ← heq, hk] at m hpos
  have hlink : (s.isolateByHost p h l).link p h = some k := by rw [State.link, hpos]
  refine ⟨s.isolateByHost p h l, k, ?_, hlink, hks, u1, u2, u3, u4, u5, u6, u7, u8, ?_, ?_, ?_, ?_, ?_, ?_, ?_, ?_, ?_, ?_,
    m.acts⟩
  · rw [exec_of_ok (i := .isolate tag b x) rfl rfl hidle (answer_isolate hp hh ha hB hl tag hs hlink), scoreBytes, hks, u1]
    rfl
  · rw [hfields, ← h4]; rfl
  · rw [hfields, ← h1]; rfl
  · rw [hfields, ← h2]; rfl
  · rw [hfields, ← h3]; rfl
  · rw [hfields]
  · rw [hfields, ← Link.leave_active l s.uptime]; rfl
  · intro hlive
    rw [hfields, ← Link.leave_marks hlive s.uptime]; rfl
  · rw [hpos]
  · rw [hpos]
  · rw [m.queue]
    cases l.live <;> rfl

end Sys2Proof.Machine

/-! SUPPORT and PROOF. The counted failure (R119), and the timers of a live link (R92, R102, R103, R129). -/

namespace Sys2Proof.Machine

open Sys2Proof

section
variable {s t u : State} {p : Port} {h : Half} {l k : Link}

theorem PortUnit.permitted_of_grant (q : PortUnit) (h : Half) (hg : k.grant = l.grant) : q.permitted h k = q.permitted h l := by
  unfold PortUnit.permitted
  rw [hg]

theorem State.permitted_of_bare (hb : t.bare = s.bare) (hg : k.grant = l.grant) :
    (t.port p).permitted h k = (s.port p).permitted h l := by
  rw [State.view_of_bare (f := fun q => q.permitted h k) (fun q => q.permitted_bare h k) hb, PortUnit.permitted_of_grant _ h hg]

theorem State.farReady_of_bare (hb : t.bare = s.bare) (hf : k.far = l.far) :
    (t.port p).farReady h k = (s.port p).farReady h l := by
  rw [State.view_of_bare (f := fun q => q.farReady h k) (fun q => q.farReady_bare h k) hb, PortUnit.farReady_of_far _ h hf]

/-! ### The counted failure -/

theorem State.link_movePosted (s : State) (p : Port) (h : Half) (old new : Option Link) (down hist : Reason) (d : Detail) :
    ((s.moveLink p h old new down hist).postLink p h d).link p h = new :=
  (State.link_postLink ..).trans (State.link_moveLink ..)

/-- R119: the record of a link whose attempt has failed, before its new state. -/
def Link.afterFailure (l : Link) (now : Uptime) (cause : Reason) : Link :=
  { l.leave now with
    attempts := l.attempts + 1, training := { (l.leave now).training with lastFailure := some cause } }

theorem State.countFailure_below (hl : s.link p h = some l) (hc : l.attempts + 1 < s.timing.maxAttempts) (restart : Restart)
    (cause : Reason) : s.countFailure restart p h cause =
      restart ((s.moveLink p h (some l) (some { l.afterFailure s.uptime cause with state := .verified }) cause cause).postLink p h
        (.trainRetry cause (l.attempts + 1) l.training.stage)) p h := by
  rw [State.countFailure, State.withLink_of_link hl]
  exact if_pos hc

theorem State.countFailure_last (hl : s.link p h = some l) (hc : s.timing.maxAttempts ≤ l.attempts + 1) (restart : Restart)
    (cause : Reason) : s.countFailure restart p h cause =
      (s.moveLink p h (some l)
        (some { l.afterFailure s.uptime cause with state := .blocked, reason := some .trainFailed, grant := false })
        .trainFailed .trainFailed).postLink p h (.trainRetry cause (l.attempts + 1) l.training.stage) := by
  rw [State.countFailure, State.withLink_of_link hl]
  exact if_neg (Nat.not_lt.mpr hc)

/-- What the record of a failed attempt holds, whatever its new state. -/
theorem Link.afterFailure_fields (hs : l.state = .training) (now : Uptime) (cause : Reason) :
    (l.afterFailure now cause).training.lastFailure = some cause ∧ (l.afterFailure now cause).marks = {} ∧
      (l.afterFailure now cause).far = l.far ∧ (l.afterFailure now cause).agree.active = none ∧
      (l.afterFailure now cause).grant = l.grant ∧ (l.afterFailure now cause).training.stage = none ∧
      (l.afterFailure now cause).training.timer = none := by
  unfold Link.afterFailure
  rw [Link.leave_of_live (Link.live_iff.mpr (.inl hs))]
  exact ⟨rfl, rfl, rfl, rfl, rfl, rfl, rfl⟩

/-- R119: a counted failure below the maximum. -/
theorem State.fails_below (hl : s.link p h = some l) (hs : l.state = .training) (hc : l.attempts + 1 < s.timing.maxAttempts)
    (cause : Reason) : s.Fails (s.countFailure restartByTest p h cause) p h l cause := by
  rw [State.countFailure_below hl hc]
  generalize hk : ({ l.afterFailure s.uptime cause with state := .verified } : Link) = k
  obtain ⟨f1, f2, f3, f4, f5, -⟩ := Link.afterFailure_fields hs s.uptime cause
  have hks : k.state = .verified := by rw [← hk]
  have hkf : k.attempts = l.attempts + 1 ∧ k.training.lastFailure = some cause ∧ k.marks = {} ∧ k.far = l.far ∧
      k.agree.active = none ∧ k.grant = l.grant := by
    rw [← hk]; exact ⟨rfl, f1, f2, f3, f4, f5⟩
  obtain ⟨g1, g2, g3, g4, g5, g6⟩ := hkf
  have m := (State.does_move_link (k := k) hl (by simp [hs, hks]) cause cause).postLink
    (.trainRetry cause (l.attempts + 1) l.training.stage)
  rw [s.snapOf_quiet p h cause (by simp [hs]) (by simp [hks]) (by simp [hks]), hs, hks] at m
  have hlt := State.link_movePosted s p h (some l) (some k) cause cause (.trainRetry cause (l.attempts + 1) l.training.stage)
  generalize ht : State.postLink _ p h _ = t at m hlt ⊢
  have hp := State.permitted_of_bare (p := p) (h := h) m.bare g6
  have hr := State.farReady_of_bare (p := p) (h := h) m.bare g4
  have hnot : ¬ s.timing.maxAttempts ≤ l.attempts + 1 := Nat.not_le.mpr hc
  have hq : t.queue = (s.postLink p h (.trainRetry cause (l.attempts + 1) l.training.stage)).queue := m.queue
  by_cases hstart : (s.port p).permitted h l = true ∧ (s.port p).farReady h l = true
  · obtain ⟨k', m'⟩ := State.startTest_starts hlt hks (hp.trans hstart.1) (hr.trans hstart.2)
    have hst := m'.started.state
    obtain ⟨he, -, -, hlf⟩ := m'.started
    have hk' : k'.attempts = k.attempts ∧ k'.marks = {} ∧ k'.far = k.far ∧ k'.agree.active = none ∧ k'.grant = k.grant := by
      rw [he]; exact ⟨rfl, rfl, rfl, rfl, rfl⟩
    obtain ⟨e1, e2, e3, e4, e5⟩ := hk'
    have d := m.quietly m'.does (by rw [m'.link, hlt]; simp [holds, hst, hks, LinkState.holding])
      (.inr (State.departs_of_same (by rw [hlt, hl]; simp [holds, hks, hs, LinkState.holding])))
    refine ⟨k', m'.link, e1.trans g1, hlf.trans g2, e2, e3.trans g4, e4, d.queue.trans ?_, fun _ => ⟨e5.trans g6, ?_, ?_⟩,
      fun c => absurd c hnot⟩
    · rfl
    · rw [if_pos hstart, hst]
    · rw [if_pos hst]
      have a := d.acts
      rw [State.moved_congr m.uptime] at a
      exact a
  · have hidle : restartByTest t p h = t := State.startTest_idle hlt (by rw [hp, hr]; exact fun c => hstart c.2)
    rw [hidle]
    refine ⟨k, hlt, g1, g2, g3, g4, g5, hq, fun _ => ⟨g6, ?_, ?_⟩, fun c => absurd c hnot⟩
    · rw [if_neg hstart, hks]
    · rw [if_neg (by simp [hks])]
      exact m.acts

/-- R119: the counted failure that reaches the maximum. -/
theorem State.fails_last (hl : s.link p h = some l) (hs : l.state = .training) (hc : s.timing.maxAttempts ≤ l.attempts + 1)
    (cause : Reason) : s.Fails (s.countFailure restartByTest p h cause) p h l cause := by
  rw [State.countFailure_last hl hc]
  generalize hk : ({ l.afterFailure s.uptime cause with
    state := .blocked, reason := some .trainFailed, grant := false } : Link) = k
  obtain ⟨f1, f2, f3, f4, -, f6, f7⟩ := Link.afterFailure_fields hs s.uptime cause
  have hks : k.state = .blocked := by rw [← hk]
  have hkf : k.attempts = l.attempts + 1 ∧ k.training.lastFailure = some cause ∧ k.marks = {} ∧ k.far = l.far ∧
      k.agree.active = none ∧ k.reason = some .trainFailed ∧ k.grant = false ∧ k.training.stage = none ∧
      k.training.timer = none := by
    rw [← hk]; exact ⟨rfl, f1, f2, f3, f4, rfl, rfl, f6, f7⟩
  obtain ⟨g1, g2, g3, g4, g5, g6, g7, g8, g9⟩ := hkf
  have m := (State.does_move_link (k := k) hl (by simp [hs, hks]) .trainFailed .trainFailed).postLink
    (.trainRetry cause (l.attempts + 1) l.training.stage)
  rw [s.snapOf_blocked p h .trainFailed (by simp [hs]) hks, if_neg (by simp [hs]), hks, g6] at m
  refine ⟨k, State.link_movePosted .., g1, g2, g3, g4, g5, m.queue,
    fun c => absurd c (Nat.not_lt.mpr hc), fun _ => ⟨hks, g6, g7, g8, g9, ?_⟩⟩
  have a := m.acts
  simp only [Option.map_some, hs] at a
  exact a

theorem State.fails_countFailure (hl : s.link p h = some l) (hs : l.state = .training) (cause : Reason) :
    s.Fails (s.countFailure restartByTest p h cause) p h l cause := by
  rcases Nat.lt_or_ge (l.attempts + 1) s.timing.maxAttempts with hc | hc
  · exact State.fails_below hl hs hc cause
  · exact State.fails_last hl hs hc cause
end

/-- Settles O47. -/
theorem trainingTimeoutIsCounted : Obligations.TrainingTimeoutIsCounted := by
  intro p h s l hl
  have he : exec (.trainingTimerExpiry p h) s = .next (if l.state = .training ∧ l.training.timer.isSome = true then
      s.countFailure restartByTest p h .timeout else s) :=
    congrArg Host.Outcome.next (State.withLink_of_link hl _)
  refine ⟨fun hs => ?_, fun hs ht => ⟨_, ?_, State.fails_countFailure hl hs .timeout⟩⟩
  · rw [he, if_neg fun c => hs c.1]
  · rw [he, if_pos ⟨hs, ht⟩]

end Sys2Proof.Machine

/-! SUPPORT and PROOF. Stamp collections: the ends of DESKEW and of a recheck (R95, R103 to R105, R115); and the regroup
and recheck timers (R92, R102). -/

namespace Sys2Proof.Machine

open Sys2Proof

/-! ### The collection -/

theorem laneAt_getElem {α : Type} (v : Vector α 8) (i : Fin 8) : laneAt v i.val = v[i] :=
  congrArg (fun j : Fin 8 => v[j]) (Fin.ext (Nat.mod_eq_of_lt i.isLt))

theorem laneVector_getElem {α : Type} (f : Nat → α) (i : Fin 8) : (laneVector f)[i] = f i.val := by
  rw [← laneAt_getElem, laneAt_laneVector f i.isLt]

theorem Collection.stamps_take (c : Collection) {r : Nat} (hr : r < 8) (v : Nat) (i : Fin 8) : (c.take r v).stamps[i] =
    if i.val = r ∧ LaneSet.has c.lanes r = true ∧ c.stamps[i] = none then some v else c.stamps[i] := by
  unfold Collection.take
  by_cases hc : (LaneSet.has c.lanes r && (laneAt c.stamps r).isNone) = true
  · rw [if_pos hc]
    rw [Bool.and_eq_true, Option.isNone_iff_eq_none] at hc
    show (laneVector _)[i] = _
    rw [laneVector_getElem]
    by_cases hi : i.val = r
    · subst hi
      rw [if_pos rfl, if_pos ⟨rfl, hc.1, by rw [← laneAt_getElem]; exact hc.2⟩]
    · rw [if_neg hi, if_neg fun d => hi d.1, laneAt_getElem]
  · rw [if_neg hc, if_neg]
    rintro ⟨rfl, h1, h2⟩
    rw [← laneAt_getElem] at h2
    exact hc (by rw [h1, h2]; rfl)

theorem Collection.lanes_take (c : Collection) (r v : Nat) : (c.take r v).lanes = c.lanes := by
  unfold Collection.take
  split <;> rfl

theorem Collection.stamps_restrict (c : Collection) (S : LaneSet) (i : Fin 8) : (c.restrict S).stamps[i] =
    if LaneSet.has c.lanes i = true ∧ LaneSet.has S i = true then c.stamps[i] else none := by
  show (laneVector _)[i] = _
  rw [laneVector_getElem, has_and, laneAt_getElem]
  simp only [Bool.and_eq_true]

/-- R95: a collection just begun over some lane is not complete. -/
theorem Collection.complete_begin {L : LaneSet} (hL : L ≠ 0) : (Collection.begin L).complete = false := by
  obtain ⟨r, hr⟩ := (ne_zero_iff_has L).mp hL
  have hr8 : r < 8 := by
    by_contra hc
    unfold LaneSet.has at hr
    rw [BitVec.getLsbD_of_ge L r (by omega)] at hr
    cases hr
  rw [Collection.complete, List.all_eq_false]
  refine ⟨r, (mem_members ..).mpr hr, ?_⟩
  have : laneAt (Collection.begin L).stamps r = none := by
    show (Vector.replicate 8 (none : Option Nat))[Fin.ofNat 8 r] = none
    simp
  simp [this]

/-! ### DESKEW ends -/

section
variable {s t : State} {p : Port} {h : Half} {l k : Link}

theorem State.setLink_setLink (s : State) (p : Port) (h : Half) (x y : Option Link) :
    (s.setLink p h x).setLink p h y = s.setLink p h y := State.modPos_modPos ..

theorem State.span_setLink (s : State) (p : Port) (h k : Half) (x : Option Link) :
    ((s.setLink p h x).port p).span k = (s.port p).span k := by
  rw [State.setLink, State.modPos, State.port_modPort_self, PortUnit.span_setPos]

/-- R115: a stamp or the loss of a lane leaves the collection `c` of a link in DESKEW. -/
theorem State.deskewTest_eq (restart : Restart) (hs : l.training.stage = some .deskew) (c : Collection) :
    (s.setLink p h (some { l with training := { l.training with deskew := c } })).deskewTest restart p h =
      if c.complete then
        (s.setLink p h (some (l.deskewed ((s.port p).span h) (alignment c.stamped)))).alignRun restart p h
      else s.setLink p h (some { l with training := { l.training with deskew := c } }) := by
  generalize hk : ({ l with training := { l.training with deskew := c } } : Link) = k
  have hkd : k.training.deskew = c ∧ k.training.stage = some .deskew := by rw [← hk]; exact ⟨rfl, hs⟩
  have hdk : ∀ n r, k.deskewed n r = l.deskewed n r := by rw [← hk]; intros; rfl
  rw [State.deskewTest, State.withLink_of_link (State.link_setLink_self ..), hkd.1]
  by_cases hc : c.complete = true
  · rw [if_pos ⟨hkd.2, hc⟩, if_pos hc, State.endDeskew, State.withLink_of_link (State.link_setLink_self ..), hdk, hkd.1,
      State.span_setLink, State.setLink_setLink]
  · rw [if_neg fun d => hc d.2, if_neg hc]

theorem State.deskewDrop_eq (restart : Restart) (hl : s.link p h = some l) (hs : l.training.stage = some .deskew) :
    s.deskewDrop restart p h =
      if (l.training.deskew.restrict ((s.port p).usable h l)).complete then
        (s.setLink p h (some (l.deskewed ((s.port p).span h)
          (alignment (l.training.deskew.restrict ((s.port p).usable h l)).stamped)))).alignRun restart p h
      else s.setLink p h (some { l with training := { l.training with
        deskew := l.training.deskew.restrict ((s.port p).usable h l) } }) := by
  rw [State.deskewDrop, State.modLink_eq_setLink hl]
  exact State.deskewTest_eq restart hs _

/-! ### The recheck -/

/-- R103: nothing ends while a lane of the set has no stamp. -/
theorem State.recheckTest_incomplete (hl : s.link p h = some l) (hc : l.align.recheck.complete = false) :
    s.recheckTest p h = s := by
  rw [State.recheckTest, State.withLink_of_link hl, if_neg]
  rintro ⟨-, -, c⟩
  exact Bool.false_ne_true (hc.symm.trans c)

theorem State.recheckTest_idle (hl : s.link p h = some l) (hc : l.align.recheckState = .idle) : s.recheckTest p h = s := by
  rw [State.recheckTest, State.withLink_of_link hl, if_neg]
  rintro ⟨-, c, -⟩
  rw [hc] at c
  cases c

/-- R104, R105: a recheck with its last stamp ends, KEPT or SHED. -/
theorem State.recheckTest_complete (hl : s.link p h = some l) (hs : l.state = .up) (hr : l.align.recheckState = .collecting)
    (hc : l.align.recheck.complete = true) : s.recheckTest p h =
      if (alignment l.align.recheck.stamped).rejected = 0 then
        (s.setLink p h (some (l.rechecked s.uptime (alignment l.align.recheck.stamped)))).modPort p fun q =>
          q.applyGroup h (groupLanes l.agree.active) (alignment l.align.recheck.stamped).skew
      else (s.setLink p h (some (l.rechecked s.uptime (alignment l.align.recheck.stamped)))).upRun p h .skewDrift := by
  rw [State.recheckTest, State.withLink_of_link hl, if_pos ⟨hs, hr, hc⟩]

theorem State.beginRecheck_of_link (hl : s.link p h = some l) (hne : groupLanes l.agree.active ≠ 0) :
    s.beginRecheck p h = s.setLink p h (some { l with align := { l.align with
      recheckState := .collecting, recheck := { lanes := groupLanes l.agree.active } } }) := by
  rw [State.beginRecheck, State.modLink_eq_setLink hl]
  exact State.recheckTest_incomplete (State.link_setLink_self ..) (Collection.complete_begin hne)

theorem State.does_applyGroup (s : State) (p : Port) (h : Half) (a : LaneSet) (v : Vector (Option Nat) 8) :
    s.Does (s.modPort p fun q => q.applyGroup h a v) p h [] none [] :=
  State.does_mapHalf (f := fun _ r x => { x with active := LaneSet.has a r, delay := deskewDelay v a r }) fun _ _ _ => rfl

theorem State.lane_applyGroup (s : State) (p : Port) (h : Half) (a : LaneSet) (v : Vector (Option Nat) 8) {i : Lane}
    (hi : (s.port p).ofHalf h i = true) :
    (((s.modPort p fun q => q.applyGroup h a v).port p).lane i).active = LaneSet.has a (relLane h i) ∧
      (((s.modPort p fun q => q.applyGroup h a v).port p).lane i).delay = deskewDelay v a (relLane h i) := by
  rw [State.port_modPort_self, PortUnit.applyGroup, PortUnit.lane_mapHalf, if_pos hi]
  exact ⟨rfl, rfl⟩

/-- What a stamp report does at a link in DESKEW. -/
theorem State.stampEvent_deskew (hl : s.link p h = some l) (hs : l.state = .training) (hd : l.training.stage = some .deskew)
    (r v : Nat) : s.stampEvent p h r v =
      (s.setLink p h (some { l with training := { l.training with
        deskew := l.training.deskew.take r v } })).deskewTest restartByTest p h := by
  rw [State.stampEvent, State.withLink_of_link hl, if_pos ⟨hs, hd⟩, State.modLink_eq_setLink hl]

/-- What a stamp report does at an UP link whose recheck is in flight. -/
theorem State.stampEvent_recheck (hl : s.link p h = some l) (hs : l.state = .up) (hr : l.align.recheckState = .collecting)
    (r v : Nat) : s.stampEvent p h r v =
      (s.setLink p h (some { l with align := { l.align with recheck := l.align.recheck.take r v } })).recheckTest p h := by
  rw [State.stampEvent, State.withLink_of_link hl, if_neg (by simp [hs]), if_pos ⟨hs, hr⟩, State.modLink_eq_setLink hl]

/-- R103 to R105: a recheck of the collection `c` that is in flight at an UP link, KEPT. -/
theorem State.recheck_kept (hl : s.link p h = some l) {x : AlignResult}
    (hk : k = l.rechecked s.uptime x) :
    let t := (s.setLink p h (some k)).modPort p fun q => q.applyGroup h (groupLanes l.agree.active) x.skew
    t.link p h = some k ∧ t.queue = s.queue ∧ s.ActsAt t p h [] none ∧ ∀ i, (s.port p).ofHalf h i = true →
      ((t.port p).lane i).active = LaneSet.has (groupLanes l.agree.active) (relLane h i) ∧
      ((t.port p).lane i).delay = deskewDelay x.skew (groupLanes l.agree.active) (relLane h i) := by
  have a := State.movesOn_setLink (k := k) hl (by rw [hk]; rfl)
  refine ⟨?_, rfl, ?_, fun i hi => ?_⟩
  · rw [State.link_applyGroup, a.link]
  · exact (a.does.quietly (State.does_applyGroup ..) (by rw [State.link_applyGroup]) (.inl rfl)).acts
  · refine State.lane_applyGroup _ p h _ _ ?_
    rw [PortUnit.ofHalf_of_bare (State.bare_port a.does.bare p)]
    exact hi
end

/-- Settles O51. -/
theorem stampsEndCollections : Obligations.StampsEndCollections := by
  refine ⟨fun c r v hr => ⟨c.lanes_take r v, c.stamps_take hr v⟩, fun c S => ⟨rfl, c.stamps_restrict S⟩,
    fun l n r => ⟨_, rfl, fun i => ?_⟩, fun p h r v s t l hl ht => ⟨fun c hs hd hc => ?deskew, fun c x k t hs hr ht hx hk =>
      ?recheck, fun h1 h2 => ?other⟩⟩
  · rw [has_or, has_laneSet, Bool.or_eq_true, Bool.and_eq_true, Bool.and_eq_true, Bool.and_eq_true, laneAt_getElem]
    simp [i.isLt, Option.isNone_iff_eq_none, and_assoc]
  case deskew =>
    rw [ht, State.stampEvent_deskew hl hs hd, State.deskewTest_eq restartByTest hd, hc]
  case recheck =>
    generalize hk1 : ({ l with align := { l.align with recheck := c } } : Link) = k1
    have ht1 : t = (s.setLink p h (some k1)).recheckTest p h := by
      rcases ht with ⟨rfl, rfl⟩ | ⟨rfl, rfl⟩
      · rw [State.stampEvent_recheck hl hs hr, hk1]
      · rw [← hk1, State.setLink_self hl]
    have h1 : k1.state = .up ∧ k1.align.recheckState = .collecting ∧ k1.align.recheck = c ∧
        k1.agree.active = l.agree.active := by rw [← hk1]; exact ⟨hs, hr, rfl, rfl⟩
    obtain ⟨g1, g2, g3, g4⟩ := h1
    have hkr : k1.rechecked s.uptime x = k := by rw [hk, ← hk1]; rfl
    have hlt : (s.setLink p h (some k1)).link p h = some k1 := State.link_setLink_self ..
    have hend (hc : c.complete = true) := State.recheckTest_complete hlt g1 g2 (g3 ▸ hc)
    rw [g3, g4, ← hx, State.setLink_uptime, hkr, State.setLink_setLink] at hend
    refine ⟨fun hc => ?_, fun hc hx0 => ?_, fun hc hx0 => ?_⟩
    · rw [ht1, State.recheckTest_incomplete hlt (g3 ▸ hc)]
    · rw [ht1, hend hc, if_pos hx0]
      exact State.recheck_kept hl hk
    · rw [ht1, hend hc, if_neg hx0]
  case other => rw [ht, State.stampEvent, State.withLink_of_link hl, if_neg h1, if_neg h2]

/-! ### Timers -/

/-- Settles O52. -/
theorem liveTimersExpire : Obligations.LiveTimersExpire := by
  intro p h s l hl
  have hregroup : exec (.regroupTimerExpiry p h) s = .next (if l.state = .up ∧ l.agree.regroupTimer.isSome = true then
      s.loseLanes p h .laneLoss else s) := congrArg Host.Outcome.next (State.withLink_of_link hl _)
  have hrecheck : exec (.recheckTimerExpiry p h) s = .next (match l.state, l.align.recheckTimer with
    | .up, some t =>
      let u := s.modLink p h fun k => { k with align := { k.align with recheckTimer := some ⟨s.uptime, t.length⟩ } }
      if l.align.recheckState = .idle then u.beginRecheck p h else u
    | _, _ => s) := congrArg Host.Outcome.next (State.withLink_of_link hl _)
  refine ⟨fun hs => ⟨?_, ?_⟩, fun hs ht => ⟨_, ?_, State.goesDown_loseLanes hl hs .laneLoss⟩, fun n hs ht hne => ?_⟩
  · rw [hregroup, if_neg fun c => hs c.1]
  · rw [hrecheck]
    split
    · next he _ => exact absurd he hs
    · rfl
  · rw [hregroup, if_pos ⟨hs, ht⟩]
  · rw [hs, ht] at hrecheck
    dsimp only at hrecheck
    rw [hrecheck, State.modLink_eq_setLink hl]
    by_cases hi : l.align.recheckState = .idle
    · rw [if_pos hi, if_pos hi, State.beginRecheck_of_link (State.link_setLink_self ..), State.setLink_setLink]
      exact hne
    · have hr : l.align.recheckState = .collecting := by cases hx : l.align.recheckState; exacts [absurd hx hi, rfl]
      rw [if_neg hi, if_neg hi, ← hr]

end Sys2Proof.Machine

/-! PROOF. Lane change events at a link: O46 (R73 to R77, R109, R118, R120, R130, R131, R138). -/

namespace Sys2Proof.Machine

open Sys2Proof

set_option Elab.async false

section
variable {s t : State} {p : Port} {h : Half} {l : Link}

/-- R73: a link that is not live enters CHECKING. -/
theorem State.acts_enterChecking (hl : s.link p h = some l) (hs : l.state = .verified ∨ l.state = .blocked) (reason : Reason) :
    s.ActsAt (s.enterChecking p h l reason) p h [s.moved h (some l.state) (some .checking) reason] none := by
  have hn : l.state ≠ (l.toChecking s.uptime).state ∧ (some l).map (fun l => l.state) ≠ some .up := by
    rcases hs with e | e <;> simp [Link.toChecking, e]
  have m := State.does_move_link (k := l.toChecking s.uptime) hl hn.1 reason reason
  rw [s.snapOf_quiet p h reason hn.2 (by simp [Link.toChecking]) (by simp [Link.toChecking])] at m
  exact m.acts

/-- R77: a far-end change takes a live link down to CHECKING. -/
theorem State.does_farEndChange (hl : s.link p h = some l) (hlive : l.live = true) (id : LaneId) :
    s.Does (s.farEndChange p h l id) p h [s.moved h (some l.state) (some .checking) .farEndChange]
      (if l.state = .up then some (s.upRecord p h l .farEndChange l.sup.score l.far) else none)
      [l.downNotice .farEndChange, .farEndChange l.far id] := by
  have m := State.does_linkDown hl hlive (k := l.toChecking s.uptime) (.inl rfl) .farEndChange .farEndChange
  rw [(Link.stopped_toChecking hlive s.uptime).far] at m
  exact m.postLink _

theorem State.released_farEndChange (hs : l.state = .up) (id : LaneId) :
    (s.farEndChange p h l id).Released p h (s.port p) :=
  ((State.released_moveLink hs (k := l.toChecking s.uptime) (by simp [Link.toChecking]) .farEndChange .farEndChange).postLink
    p h (l.downNotice .farEndChange)).postLink _ _ _

/-- R120: a far end that fell back is not ready. -/
theorem PortUnit.farReady_of_farFellBack {q : PortUnit} (hb : q.farFellBack h l = true) : q.farReady h l = false := by
  rw [PortUnit.farFellBack, List.any_eq_true] at hb
  obtain ⟨r, hr, hh⟩ := hb
  refine Bool.eq_false_iff.mpr fun c => ?_
  rw [PortUnit.farReady, Bool.and_eq_true, List.all_eq_true] at c
  have hc := c.2 r hr
  revert hh hc
  unfold LaneUnit.hears
  cases (q.rel h r).heard with
  | none => simp
  | some k => cases hp : k.phase <;> simp [hp]

/-- R120, R130: a live link that its far end has left, before the start test. -/
def State.fellBack (s : State) (p : Port) (h : Half) (l : Link) : State :=
  s.linkDown p h l (l.toVerified s.uptime) .farEndLeft .farEndLeft

section
variable (hl : s.link p h = some l) (hlive : l.live = true)
include hl hlive

theorem State.does_fellBack : s.Does (s.fellBack p h l) p h [s.moved h (some l.state) (some .verified) .farEndLeft]
    (if l.state = .up then some (s.upRecord p h l .farEndLeft l.sup.score l.far) else none) [l.downNotice .farEndLeft] := by
  have m := State.does_linkDown hl hlive (k := l.toVerified s.uptime) (.inr rfl) .farEndLeft .farEndLeft
  rwa [(Link.stopped_toVerified hlive s.uptime).far] at m

theorem State.startTest_fellBack : ((s.fellBack p h l).port p).permitted h (l.toVerified s.uptime) = (s.port p).permitted h l ∧
    ((s.fellBack p h l).port p).farReady h (l.toVerified s.uptime) = (s.port p).farReady h l := by
  have hb := (State.does_fellBack hl hlive).bare
  obtain ⟨hf, -, -, -, hg, -⟩ := l.leave_kept s.uptime
  exact ⟨State.permitted_of_bare hb hg, State.farReady_of_bare hb hf⟩

/-- R109: no attempt starts where the start test is not met. -/
theorem State.farEndLeft_idle (hn : ¬ ((s.port p).permitted h l = true ∧ (s.port p).farReady h l = true)) :
    s.farEndLeft p h l = s.fellBack p h l := by
  obtain ⟨hp, hr⟩ := State.startTest_fellBack hl hlive
  refine State.startTest_idle (s := s.fellBack p h l) (State.link_linkDown ..) ?_
  rw [hp, hr]
  exact fun c => hn c.2

theorem State.farEndLeft_starts (hp : (s.port p).permitted h l = true) (hr : (s.port p).farReady h l = true) :
    ∃ k, (s.fellBack p h l).Starts (s.farEndLeft p h l) p h (l.toVerified s.uptime) k := by
  obtain ⟨hp', hr'⟩ := State.startTest_fellBack hl hlive
  exact State.startTest_starts (State.link_linkDown ..) rfl (hp'.trans hp) (hr'.trans hr)
end

/-- R130: the far end of an UP link has left. -/
theorem State.farEndLeft_up (hl : s.link p h = some l) (hs : l.state = .up) (ht : t = s.farEndLeft p h l) :
    (∃ k, t.link p h = some k ∧
      (if (s.port p).permitted h l = true ∧ (s.port p).farReady h l = true then
        k.state = .training ∧ k.training.stage = some .equalize ∧ k.agree.active = none
      else k.state = .verified ∧ l.Stopped k s.uptime) ∧
      s.ActsAt t p h (s.moved h (some .up) (some .verified) .farEndLeft ::
          (if k.state = .training then [s.moved h (some .verified) (some .training) .start] else []))
        (some (s.upRecord p h l .farEndLeft l.sup.score l.far))) ∧
    t.Released p h (s.port p) ∧
    t.queue = (s.postLink p h (.linkDown .farEndLeft .up (groupWidth l.agree.active))).queue := by
  have hlive : l.live = true := Link.live_iff.mpr (.inr hs)
  have m := State.does_fellBack hl hlive
  rw [if_pos hs, hs] at m
  have hrel : (s.fellBack p h l).Released p h (s.port p) :=
    (State.released_moveLink hs (k := l.toVerified s.uptime) (by simp [Link.toVerified]) .farEndLeft .farEndLeft).postLink _ _ _
  have hdown : [l.downNotice .farEndLeft] = [.linkDown .farEndLeft .up (groupWidth l.agree.active)] := by
    rw [Link.downNotice, hs, if_pos rfl]
  rw [hdown] at m
  have hlt : (s.fellBack p h l).link p h = some (l.toVerified s.uptime) := State.link_linkDown ..
  by_cases hc : (s.port p).permitted h l = true ∧ (s.port p).farReady h l = true
  · obtain ⟨k, b⟩ := State.farEndLeft_starts hl hlive hc.1 hc.2
    rw [← ht] at b
    have hst := b.started.state
    obtain ⟨he, hstage, -, -⟩ := b.started
    have d := m.quietly b.does (by rw [b.link, hlt]; simp [holds, hst, Link.toVerified, LinkState.holding])
      (.inr (State.departs_of_same (by rw [hlt, hl]; simp [holds, Link.toVerified, hs, LinkState.holding])))
    refine ⟨⟨k, b.link, ?_, ?_⟩, hrel.of_kept b.lanes, d.queue⟩
    · rw [if_pos hc, he]; exact ⟨rfl, hstage, rfl⟩
    · rw [if_pos hst, ← State.moved_congr m.uptime (some .verified)]; exact d.acts
  · rw [State.farEndLeft_idle hl hlive hc] at ht
    rw [ht]
    refine ⟨⟨_, hlt, ?_, ?_⟩, hrel, m.queue⟩
    · rw [if_neg hc]; exact ⟨rfl, Link.stopped_toVerified hlive _⟩
    · rw [if_neg (by simp [Link.toVerified])]; exact m.acts
end

/-- Settles O46, by the state of the link. -/
theorem laneChangesMoveLinks : Obligations.LaneChangesMoveLinks := by
  intro p h r items newId s t l hl ht
  rw [State.linkEvent, State.withLink_of_link hl] at ht
  refine ⟨fun e hs he => ?checking, fun hs hc => ?verified, fun hs hn hv hp => ?verifiedQuiet, fun hs hn hv hp => ?verifiedPhase,
    fun hs hr => ?blocked, fun hs hr => ?trainFailed, fun hs hc => ?isolated, fun hs hn hm => ?isolatedChange,
    fun id hlive hn => ?farEndChange, fun hs hn hp hb => ?fellBack, fun hs hn hc => ?training, fun hs hn hp hf => ?left,
    fun hs hn hc => ?up⟩
  case checking =>
    rw [hs] at ht
    rw [ht]
    refine congrArg (fun k => s.setLink p h (some k)) ?_
    unfold Link.restartQuiet
    rw [he]
  case verified =>
    rw [hs] at ht
    have a := State.acts_enterChecking hl (.inl hs) (if newId.isSome then .farEndChange else .laneChange)
    have e : t = s.enterChecking p h l (if newId.isSome then .farEndChange else .laneChange) := by
      rw [ht]
      cases hn : newId.isSome
      · rw [hn] at hc
        simp [hc.resolve_left (by simp)]
      · simp
    rw [← e, hs] at a
    refine ⟨?_, a⟩
    rw [e, State.enterChecking, State.link_moveLink]
    simp only [Link.toChecking, Link.leave, hs]
  case verifiedQuiet =>
    rw [hs, hn, hv, hp] at ht
    exact ht
  case verifiedPhase =>
    rw [hs, hn, hv, hp] at ht
    have ht : t = s.startTest p h := ht
    refine ⟨fun c => ht.trans (State.startTest_idle hl fun d => c d.2), fun h1 h2 => ?_⟩
    obtain ⟨k, b⟩ := State.startTest_starts hl hs h1 h2
    rw [← ht] at b
    have hst := b.started.state
    obtain ⟨-, hstage, -, -⟩ := b.started
    exact ⟨k, b.link, hst, hstage, b.does.acts⟩
  case blocked =>
    rw [hs] at ht
    have e : t = s.enterChecking p h l .laneChange := ht.trans (if_neg hr)
    have a := State.acts_enterChecking hl (.inr hs) .laneChange
    rw [← e, hs] at a
    refine ⟨?_, a⟩
    rw [e, State.enterChecking, State.link_moveLink]
    simp only [Link.toChecking, Link.leave, hs]
  case trainFailed =>
    rw [hs] at ht
    exact ht.trans (if_pos hr)
  case isolated =>
    rw [hs] at ht
    have e : l.noteProbeChange r newId.isSome = l := by
      unfold Link.noteProbeChange
      rcases hc with rfl | hc
      · simp
      · simp [hc]
    rw [ht, e, State.setLink_self hl]
  case isolatedChange =>
    rw [hs] at ht
    have e : l.noteProbeChange r newId.isSome = { l with sup := { l.sup with probeChange := true } } := by
      unfold Link.noteProbeChange
      rw [hn, hm]; simp
    rw [ht, e]
  case farEndChange =>
    have e : t = s.farEndChange p h l id := by
      rw [ht, hn]
      rcases Link.live_iff.mp hlive with c | c <;> rw [c]
    have m := State.does_farEndChange hl hlive id
    rw [← e] at m
    refine ⟨⟨l.toChecking s.uptime, ?_, rfl, rfl, rfl, Link.stopped_toChecking hlive _⟩, fun hs => ?_, m.queue, m.acts⟩
    · rw [e, State.farEndChange, State.link_postLink, State.link_linkDown]
    · rw [e]; exact State.released_farEndChange hs id
  case fellBack =>
    have hlive : l.live = true := Link.live_iff.mpr (.inl hs)
    have e : t = s.fellBack p h l := by
      rw [hs, hn] at ht
      rw [ht, ← State.farEndLeft_idle hl hlive (by rw [PortUnit.farReady_of_farFellBack hb]; simp)]
      exact if_pos (by rw [hp, hb]; rfl)
    have m := State.does_fellBack hl hlive
    rw [← e, if_neg (by simp [hs]), Link.downNotice, if_neg (by simp [hs]), hs] at m
    exact ⟨⟨l.toVerified s.uptime, by rw [e]; exact State.link_linkDown .., rfl, Link.stopped_toVerified hlive _⟩, m.queue, m.acts⟩
  case training =>
    rw [hs, hn] at ht
    have hne : ¬ (items.phase && (s.port p).farFellBack h l) = true := by
      rcases hc with c | c <;> simp [c]
    have ht := ht.trans (if_neg hne)
    refine ⟨fun hg => ?_, fun c hg hcol => ?_, fun hg => ?_⟩
    · rw [ht, hg]
    · rw [hg] at ht
      rw [ht, hcol]
      exact State.deskewDrop_eq restartByTest hl hg
    · rw [ht, hg]
  case left =>
    have e : t = s.farEndLeft p h l := by
      rw [hs, hn] at ht
      exact ht.trans (if_pos (by rw [hp, hf]; rfl))
    exact State.farEndLeft_up hl hs e
  case up =>
    rw [hs, hn] at ht
    refine ht.trans (if_neg ?_)
    rcases hc with c | c <;> simp [c]

end Sys2Proof.Machine

/-! SUPPORT. The verdict of a link (R67 to R70, R109, R137): what a failing and a passing one leave. -/

namespace Sys2Proof.Machine

open Sys2Proof

/-! ### The context -/

/-- R70: the context that a verdict of these observations leaves. -/
def Obs.keptContext (o : Obs) (c : Option Context) : Option Context :=
  match o.far, c with
  | some f, some c => if c.far = f then some c else none
  | _, x => x

section
variable {s t u : State} {p : Port} {h : Half} {old : Option Link} {l l' k : Link} {f : Reason → Reason} {L : List Detail}

theorem State.verdictContext_eq (s : State) (p : Port) (h : Half) (o : Obs) :
    s.verdictContext p h o = s.modPos p h fun x => { x with context := o.keptContext x.context } := by
  unfold State.verdictContext Obs.keptContext
  refine congrArg (s.modPos p h) (funext fun x => ?_)
  obtain ⟨_, c, _, _⟩ := x
  cases o.far with
  | none => rfl
  | some f =>
    cases c with
    | none => rfl
    | some c => dsimp only; split <;> rfl

theorem State.does_verdictContext (s : State) (p : Port) (h : Half) (o : Obs) : s.Does (s.verdictContext p h o) p h [] none [] := by
  rw [State.verdictContext_eq]
  exact State.does_modPos id rfl

theorem State.pos_verdictContext (s : State) (p : Port) (h : Half) (o : Obs) :
    (s.verdictContext p h o).pos p h = { s.pos p h with context := o.keptContext (s.pos p h).context } := by
  rw [State.verdictContext_eq, State.pos_modPos, if_pos ⟨rfl, rfl⟩]

theorem State.snapOf_verdictContext (s : State) (p : Port) (h : Half) (o : Obs) (old new : Option Link) (down : Reason) :
    (s.verdictContext p h o).snapOf p h old new down = s.snapOf p h old new down := by
  rw [State.verdictContext_eq, State.snapOf_modPos]

theorem State.pos_filed (s : State) (p : Port) (h : Half) (L : List Detail) (p' : Port) (h' : Half) :
    (s.filed p h L).pos p' h' = s.pos p' h' := by
  rw [State.pos, State.port_filed, State.pos]

theorem State.link_filed (s : State) (p : Port) (h : Half) (L : List Detail) (p' : Port) (h' : Half) :
    (s.filed p h L).link p' h' = s.link p' h' := by
  rw [State.link, State.pos_filed, State.link]

/-! ### The move of a verdict -/

/-- R69, R70: the change of link state that a verdict of the link `old` makes, with the notices `L`. -/
def State.ruled (s : State) (p : Port) (h : Half) (old : Option Link) (k : Link) (down hist : Reason) (L : List Detail) : State :=
  ((s.verdictContext p h ((s.port p).observe h)).moveLink p h old (some k) down hist).filed p h L

theorem State.pos_ruled (s : State) (p : Port) (h : Half) (old : Option Link) (k : Link) (down hist : Reason) (L : List Detail) :
    (s.ruled p h old k down hist L).pos p h =
      { s.pos p h with
        context := ((s.port p).observe h).keptContext (s.pos p h).context, link := some k
        snap := (s.pos p h).snap.after (s.snapOf p h old (some k) down) } := by
  rw [State.ruled, State.pos_filed, State.pos_moveLink, State.pos_verdictContext, State.snapOf_verdictContext]

theorem State.link_ruled (s : State) (p : Port) (h : Half) (old : Option Link) (k : Link) (down hist : Reason) (L : List Detail) :
    (s.ruled p h old k down hist L).link p h = some k := by rw [State.link, State.pos_ruled]

theorem State.does_ruled (ho : s.link p h = old) (k : Link) (down hist : Reason) (L : List Detail) :
    s.Does (s.ruled p h old k down hist L) p h
      (if old.map (fun l => l.state) = some k.state ∧ (old.bind fun l => l.reason) = k.reason then []
        else [s.moved h (old.map fun l => l.state) (some k.state) hist])
      (s.snapOf p h old (some k) down) L := by
  have hlc : (s.verdictContext p h ((s.port p).observe h)).link p h = old := by rw [State.link_verdictContext, ho]
  have a := s.does_verdictContext p h ((s.port p).observe h)
  have b := a.andThen (State.does_moveLink hlc (some k) down hist) (by rw [hlc, ho])
  rw [State.snapOf_verdictContext, State.moved_congr a.uptime] at b
  have hif : (if changesHistory old (some k) = true then [s.moved h (old.map fun l => l.state) (some k.state) hist] else []) =
      if old.map (fun l => l.state) = some k.state ∧ (old.bind fun l => l.reason) = k.reason then []
        else [s.moved h (old.map fun l => l.state) (some k.state) hist] := by
    by_cases hc : old.map (fun l => l.state) = some k.state ∧ (old.bind fun l => l.reason) = k.reason
    · rw [if_pos hc, if_neg]
      simp [changesHistory, hc.1, hc.2]
    · rw [if_neg hc, if_pos]
      rw [changesHistory, Bool.or_eq_true, bne_iff_ne, bne_iff_ne]
      exact not_and_or.mp hc
  exact hif ▸ (b.filed L)
end

end Sys2Proof.Machine

/-! SUPPORT. Verdicts (R67 to R70): what the verdict of a link that is not held in place by it leaves. -/

namespace Sys2Proof.Machine

open Sys2Proof

section
variable {s t u : State} {p : Port} {h : Half} {old : Option Link} {l l' k : Link} {f : Reason → Reason} {L : List Detail}

/-- R70: the link `l'` is `l` without what it leaves behind. -/
structure Link.Left (l l' : Link) : Prop where
  attempts : l'.attempts = l.attempts
  grant : l'.grant = l.grant
  score : l'.sup.score = l.sup.score

theorem Link.left_leave (l : Link) (now : Uptime) : l.Left (l.leave now) := by
  obtain ⟨-, -, -, -, hg, ha⟩ := l.leave_kept now
  refine ⟨ha, hg, ?_⟩
  unfold Link.leave
  cases l.state <;> rfl

/-- The records of a verdict: what `Judged` says, what the record `l'` hands on, and the notices, `L` after those of a
verdict that recovers the link. -/
structure State.JudgedFrom (s t : State) (p : Port) (h : Half) (l l' : Link) (f : Reason → Reason) (L : List Detail) : Prop where
  judged : s.Judged t p h l f
  record : ∃ k, t.link p h = some k ∧ (l'.quiet = none → l'.checkEntry = none → k.quiet = none ∧ k.checkEntry = none) ∧
    (k.state ≠ .isolated → k.sup.isoCause = l'.sup.isoCause ∧ k.sup.probeTimer = l'.sup.probeTimer)
  queue : t.queue = ((s.verdictNotices p h).filed p h
    (if s.checks p h ((s.port p).observe h) none = none ∧ (s.pos p h).residue = none then L else [])).queue

/-- R68: a failing verdict blocks the link. -/
theorem State.judged_blocked (ho : s.link p h = old) (hup : old.map (fun l => l.state) ≠ some .up) (hk : l.Left l') {r : Reason}
    (hc : s.checks p h ((s.port p).observe h) none = some r) :
    s.JudgedFrom (s.ruled p h old (l'.failed ((s.port p).observe h) r) r (f r)
      [((s.port p).observe h).notice .blocked (some r)]) p h l l' f L := by
  generalize hkk : l'.failed ((s.port p).observe h) r = k
  have hkf : k.state = .blocked ∧ k.reason = some r ∧ k.grant = false ∧ k.agree.role = none ∧ k.sup = l'.sup ∧
      k.attempts = l'.attempts ∧ k.quiet = l'.quiet ∧ k.checkEntry = l'.checkEntry := by
    rw [← hkk]; exact ⟨rfl, rfl, rfl, rfl, rfl, rfl, rfl, rfl⟩
  have hobs : k.far = ((s.port p).observe h).far ∧ k.map = ((s.port p).observe h).map ∧
      k.polarity = ((s.port p).observe h).polarity ∧ k.expWidth = ((s.port p).observe h).width := by
    rw [← hkk]; exact ⟨rfl, rfl, rfl, rfl⟩
  obtain ⟨k1, k2, k3, k4, k5, k6, k7, k8⟩ := hkf
  obtain ⟨o1, o2, o3, o4⟩ := hobs
  have m := State.does_ruled ho k r (f r) [((s.port p).observe h).notice .blocked (some r)]
  have hpos := s.pos_ruled p h old k r (f r) [((s.port p).observe h).notice .blocked (some r)]
  rw [State.snapOf_blocked s p h r hup k1, k1, k2] at m
  have hent : s.verdictEntries p h k f = if old.map (fun l => l.state) = some .blocked ∧ (old.bind fun l => l.reason) = some r
      then [] else [s.moved h (old.map fun l => l.state) (some .blocked) (f r)] := by
    unfold State.verdictEntries; rw [hc, ho]
  have hcap : s.verdictCapture p h k = if old.map (fun l => l.state) = some .blocked then none
      else some (s.entryRecord p h (old.map fun l => l.state) k r) := by
    unfold State.verdictCapture; rw [hc, ho]
  refine ⟨⟨_, k, rfl, s.link_ruled .., o1, o2, o3, o4, k6.trans hk.attempts, ?_, ?_, ?_⟩,
    ⟨k, s.link_ruled .., fun q c => ⟨k7.trans q, k8.trans c⟩, fun _ => by rw [k5]; exact ⟨rfl, rfl⟩⟩, ?_⟩
  · rw [hc]
    exact ⟨k1, k2, k3, k4, k5 ▸ hk.score, by rw [hpos]⟩
  · rw [hpos]; rfl
  · rw [hent, hcap]; exact m.acts
  · rw [m.queue, hc, if_neg (fun c => nomatch c.1), State.verdictNotices, hc]; rfl

/-- R67: the link as it passes a verdict. -/
def State.verified (s : State) (p : Port) (h : Half) (l : Link) : Link :=
  { s.passed p h ((s.port p).observe h) l with state := .verified }

/-- R67, R109: a passing verdict verifies the link, and starts its training where the start test is met. -/
theorem State.judged_verified (ho : s.link p h = old) (hv : holds old = false) (hk : l.Left l')
    (hc : s.checks p h ((s.port p).observe h) none = none) (hr : (s.pos p h).residue = none) {down : Reason}
    (hu : u = s.ruled p h old (s.verified p h l') down (f .pass) (((s.port p).observe h).notice .verified none :: L)) :
    s.JudgedFrom (if s.noStart p old then u else u.startTest p h) p h l l' f L := by
  generalize hkk : s.verified p h l' = k at hu
  have hkf : k.state = .verified ∧ k.reason = none ∧ k.grant = l'.grant ∧ k.sup = l'.sup ∧ k.attempts = l'.attempts ∧
      k.quiet = l'.quiet ∧ k.checkEntry = l'.checkEntry ∧
      k.agree.role = ((s.port p).observe h).far.map fun f => roleOf (s.linkId p h) f := by
    rw [← hkk]; exact ⟨rfl, rfl, rfl, rfl, rfl, rfl, rfl, rfl⟩
  have hobs : k.far = ((s.port p).observe h).far ∧ k.map = ((s.port p).observe h).map ∧
      k.polarity = ((s.port p).observe h).polarity ∧ k.expWidth = ((s.port p).observe h).width := by
    rw [← hkk]; exact ⟨rfl, rfl, rfl, rfl⟩
  obtain ⟨k1, k2, k3, k5, k6, k7, k8, k9⟩ := hkf
  obtain ⟨o1, o2, o3, o4⟩ := hobs
  have hne : old.map (fun l => l.state) ≠ some .verified ∧ old.map (fun l => l.state) ≠ some .up := by
    cases old with
    | none => simp
    | some x => constructor <;> (intro c; simp [holds, Option.some.inj c, LinkState.holding] at hv)
  have m := State.does_ruled ho k down (f .pass) (((s.port p).observe h).notice .verified none :: L)
  have hpos := s.pos_ruled p h old k down (f .pass) (((s.port p).observe h).notice .verified none :: L)
  have hlu := s.link_ruled p h old k down (f .pass) (((s.port p).observe h).notice .verified none :: L)
  rw [State.snapOf_quiet s p h down hne.2 (by simp [k1]) (by simp [k1]), k1, if_neg fun c => hne.1 c.1] at m
  rw [← hu] at m hpos hlu
  have hq : u.queue = ((s.verdictNotices p h).filed p h
      (if s.checks p h ((s.port p).observe h) none = none ∧ (s.pos p h).residue = none then L else [])).queue := by
    rw [m.queue, if_pos ⟨hc, hr⟩, State.verdictNotices, hc, hr]; rfl
  have hres : (u.pos p h).residue = none := by rw [hpos]; exact hr
  have hctx : (u.pos p h).context = ((s.port p).observe h).keptContext (s.pos p h).context := by rw [hpos]
  have hp := State.permitted_of_bare (p := p) (h := h) m.bare (k3.trans hk.grant)
  have hf := State.farReady_of_bare (p := p) (h := h) (l := { l with far := ((s.port p).observe h).far }) m.bare o1
  have hent (x : Link) : s.verdictEntries p h x f = s.moved h (old.map fun l => l.state) (some .verified) (f .pass) ::
      (if x.state = .training then [s.moved h (some .verified) (some .training) .start] else []) := by
    unfold State.verdictEntries; rw [hc, hr, ho]
  have hcap (x : Link) : s.verdictCapture p h x = none := by
    unfold State.verdictCapture; rw [hc, hr]
  by_cases hstart : (s.port p).permitted h l = true ∧
      (s.port p).farReady h { l with far := ((s.port p).observe h).far } = true ∧ s.noStart p old = false
  · obtain ⟨k', b⟩ := State.startTest_starts hlu k1 (hp.trans hstart.1) (hf.trans hstart.2.1)
    rw [hstart.2.2, if_neg Bool.false_ne_true]
    have hst := b.started.state
    obtain ⟨he, -, -, -⟩ := b.started
    have hk' : k'.far = k.far ∧ k'.map = k.map ∧ k'.polarity = k.polarity ∧ k'.expWidth = k.expWidth ∧
        k'.attempts = k.attempts ∧ k'.grant = k.grant ∧ k'.agree.role = k.agree.role ∧ k'.quiet = k.quiet ∧
        k'.checkEntry = k.checkEntry ∧ k'.reason = k.reason ∧ k'.sup.score = k.sup.score ∧ k'.sup.isoCause = k.sup.isoCause ∧
        k'.sup.probeTimer = k.sup.probeTimer := by
      rw [he]; exact ⟨rfl, rfl, rfl, rfl, rfl, rfl, rfl, rfl, rfl, rfl, rfl, rfl, rfl⟩
    obtain ⟨e1, e2, e3, e4, e5, e6, e7, e8, e9, e10, e11, e12, e13⟩ := hk'
    have d := m.quietly b.does (by rw [b.link, hlu]; simp [holds, hst, k1, LinkState.holding])
      (.inr (by rw [State.departs, ho, hv]; rfl))
    refine ⟨⟨_, k', rfl, b.link, e1.trans o1, e2.trans o2, e3.trans o3, e4.trans o4, e5.trans (k6.trans hk.attempts), ?_, ?_, ?_⟩,
      ⟨k', b.link, fun q c => ⟨e8.trans (k7.trans q), e9.trans (k8.trans c)⟩, fun _ => ⟨e12.trans (by rw [k5]), e13.trans (by rw [k5])⟩⟩,
      d.queue.trans ?_⟩
    · rw [hc, hr]
      refine ⟨?_, e10.trans k2, e6.trans (k3.trans hk.grant), e11.trans (k5 ▸ hk.score), e7.trans k9, b.residue.trans hres⟩
      rw [ho, if_pos hstart, hst]
    · exact b.context.trans hctx
    · rw [hent, hcap, if_pos hst, ← State.moved_congr m.uptime (some .verified)]
      exact d.acts
    · rw [List.append_nil, ← m.queue, hq]
  · have ht : (if s.noStart p old then u else u.startTest p h) = u := by
      by_cases hn : s.noStart p old = true
      · exact if_pos hn
      · rw [if_neg hn]
        refine State.startTest_idle hlu ?_
        rw [hp, hf]
        exact fun c => hstart ⟨c.2.1, c.2.2, Bool.eq_false_iff.mpr hn⟩
    rw [ht]
    refine ⟨⟨_, k, rfl, hlu, o1, o2, o3, o4, k6.trans hk.attempts, ?_, hctx, ?_⟩,
      ⟨k, hlu, fun q c => ⟨k7.trans q, k8.trans c⟩, fun _ => by rw [k5]; exact ⟨rfl, rfl⟩⟩, hq⟩
    · rw [hc, hr]
      refine ⟨?_, k2, k3.trans hk.grant, k5 ▸ hk.score, k9, hres⟩
      rw [ho, if_neg hstart, k1]
    · rw [hent, hcap, if_neg (by simp [k1])]
      exact m.acts
end

end Sys2Proof.Machine

/-! SUPPORT and PROOF. Verdicts that take a residue, and the commands that end with a verdict: O45, O43 and O10 (R54, R67 to
R70, R74, R136, R137). -/

namespace Sys2Proof.Machine

open Sys2Proof

set_option Elab.async false

section
variable {s t u : State} {p : Port} {h : Half} {old : Option Link} {l l' k : Link} {f : Reason → Reason} {L : List Detail}

/-! ### A residue taken -/

theorem Link.leave_reason (hr : l.reason = none) (now : Uptime) : (l.leave now).reason = none := by
  unfold Link.leave
  cases l.state <;> first | rfl | exact hr

theorem Link.leave_check (hq : l.quiet = none) (hc : l.checkEntry = none) (now : Uptime) :
    (l.leave now).quiet = none ∧ (l.leave now).checkEntry = none := by
  unfold Link.leave
  cases l.state <;> first | exact ⟨rfl, rfl⟩ | exact ⟨hq, hc⟩

/-- R67: the link as it passes a verdict and takes the residue `x`. -/
def State.retaken (s : State) (p : Port) (h : Half) (l : Link) (x : Nat) : Link :=
  (s.passed p h ((s.port p).observe h) l).toIsolated s.uptime ((s.port p).confirmedSet h ((s.port p).observe h).far) .residue x

theorem State.observe_setResidue (s : State) (p : Port) (h : Half) (x : Option Nat) :
    ((s.setResidue p h x).port p).observe h = (s.port p).observe h :=
  State.view_of_bare (f := fun q => q.observe h) (fun q => q.observe_bare h) (s.bare_modPos p h _) p

theorem State.setResidue_verdictContext (s : State) (p : Port) (h : Half) (o : Obs) (x : Option Nat) :
    (s.verdictContext p h o).setResidue p h x = (s.setResidue p h x).verdictContext p h o := by
  rw [State.verdictContext_eq, State.verdictContext_eq, State.setResidue, State.setResidue, State.modPos_modPos,
    State.modPos_modPos]

theorem State.enterIsolated_eq (s : State) (p : Port) (h : Half) (l' : Link) (x : Nat) (hist : Reason) (old : Option Link) :
    (((s.verdictContext p h ((s.port p).observe h)).setResidue p h none).enterIsolated p h old (s.retaken p h l' x) .residue hist
      fun u => u.postLink p h (((s.port p).observe h).notice .isolated none)) =
    (s.setResidue p h none).ruled p h old (s.retaken p h l' x) .residue hist
      [((s.port p).observe h).notice .isolated none, .isolated .residue x] := by
  rw [State.ruled, State.observe_setResidue, State.setResidue_verdictContext]
  rfl

/-- R67, R135: a passing verdict takes the residue of the position into ISOLATED. -/
theorem State.judged_residue (ho : s.link p h = old) (hup : old.map (fun l => l.state) ≠ some .up) (hk : l.Left l') {x : Nat}
    (hc : s.checks p h ((s.port p).observe h) none = none) (hr : (s.pos p h).residue = some x) :
    s.JudgedFrom ((s.setResidue p h none).ruled p h old (s.retaken p h l' x) .residue (f .residue)
      [((s.port p).observe h).notice .isolated none, .isolated .residue x]) p h l l' f L := by
  generalize hpass : s.passed p h ((s.port p).observe h) l' = j
  have hj : j.far = ((s.port p).observe h).far ∧ j.map = ((s.port p).observe h).map ∧
      j.polarity = ((s.port p).observe h).polarity ∧ j.expWidth = ((s.port p).observe h).width ∧ j.reason = none ∧
      j.grant = l'.grant ∧ j.attempts = l'.attempts ∧ j.quiet = l'.quiet ∧ j.checkEntry = l'.checkEntry := by
    rw [← hpass]; exact ⟨rfl, rfl, rfl, rfl, rfl, rfl, rfl, rfl, rfl⟩
  obtain ⟨j1, j2, j3, j4, j5, j6, j7, j8, j9⟩ := hj
  obtain ⟨v1, v2, v3, v4, v5, v6⟩ := j.leave_kept s.uptime
  generalize hkk : s.retaken p h l' x = k
  have hkj : k = j.toIsolated s.uptime ((s.port p).confirmedSet h ((s.port p).observe h).far) .residue x := by
    rw [← hkk, ← hpass]; rfl
  have hkf : k.state = .isolated ∧ k.reason = none ∧ k.sup.score = x ∧ k.sup.isoCause = some .residue ∧
      k.sup.probeTimer = some ⟨s.uptime, 10⟩ ∧ k.sup.probeSet = (s.port p).confirmedSet h ((s.port p).observe h).far := by
    rw [hkj]; exact ⟨rfl, j.leave_reason j5 _, rfl, rfl, rfl, rfl⟩
  have hkept : k.far = (j.leave s.uptime).far ∧ k.map = (j.leave s.uptime).map ∧ k.polarity = (j.leave s.uptime).polarity ∧
      k.expWidth = (j.leave s.uptime).expWidth ∧ k.grant = (j.leave s.uptime).grant ∧
      k.attempts = (j.leave s.uptime).attempts ∧ k.quiet = (j.leave s.uptime).quiet ∧
      k.checkEntry = (j.leave s.uptime).checkEntry := by
    rw [hkj]; exact ⟨rfl, rfl, rfl, rfl, rfl, rfl, rfl, rfl⟩
  obtain ⟨k1, k2, k3, k4, k5, k6⟩ := hkf
  obtain ⟨e1, e2, e3, e4, e5, e6, e7, e8⟩ := hkept
  have a : s.Does (s.setResidue p h none) p h [] none [] := State.does_modPos id rfl
  have hls : (s.setResidue p h none).link p h = old := by
    rw [State.setResidue, State.link_modPos, if_pos ⟨rfl, rfl⟩, ← ho]; rfl
  have b := State.does_ruled hls k .residue (f .residue)
    [((s.port p).observe h).notice .isolated none, .isolated .residue x]
  have hpos := (s.setResidue p h none).pos_ruled p h old k .residue (f .residue)
    [((s.port p).observe h).notice .isolated none, .isolated .residue x]
  have hsnap : (s.setResidue p h none).snapOf p h old (some k) .residue =
      if old.map (fun l => l.state) = some .isolated then none
      else some (s.entryRecord p h (old.map fun l => l.state) k .residue) := by
    rw [State.setResidue, State.snapOf_modPos, State.snapOf_isolated s p h .residue hup k1, k4]; rfl
  have m := a.andThen b (by rw [hls, ho])
  rw [hsnap, k1, k2, State.moved_congr a.uptime] at m
  have hent : s.verdictEntries p h k f = if old.map (fun l => l.state) = some .isolated ∧ (old.bind fun l => l.reason) = none
      then [] else [s.moved h (old.map fun l => l.state) (some .isolated) (f .residue)] := by
    unfold State.verdictEntries; rw [hc, hr, ho]
  have hcap : s.verdictCapture p h k = if old.map (fun l => l.state) = some .isolated then none
      else some (s.entryRecord p h (old.map fun l => l.state) k .residue) := by
    unfold State.verdictCapture; rw [hc, hr, ho]
  have hlk := (s.setResidue p h none).link_ruled p h old k .residue (f .residue)
    [((s.port p).observe h).notice .isolated none, .isolated .residue x]
  have hfield : ((s.setResidue p h none).pos p h).context = (s.pos p h).context ∧
      ((s.setResidue p h none).pos p h).residue = none := by
    rw [State.setResidue, State.pos_modPos, if_pos ⟨rfl, rfl⟩]; exact ⟨rfl, rfl⟩
  refine ⟨⟨_, k, rfl, hlk, ?_, ?_, ?_, ?_, ?_, ?_, ?_, ?_⟩, ⟨k, hlk, fun q c => ?_, fun c => absurd k1 c⟩, ?_⟩
  · rw [e1, v1, j1]
  · rw [e2, v2, j2]
  · rw [e3, v3, j3]
  · rw [e4, v4, j4]
  · rw [e6, v6, j7, hk.attempts]
  · rw [hc, hr]
    exact ⟨k1, k2, by rw [e5, v5, j6, hk.grant], k3, k4, k5, k6, by rw [hpos]; exact hfield.2⟩
  · rw [hpos, State.observe_setResidue, hfield.1]; rfl
  · rw [hent, hcap]; exact m.acts
  · rw [e7, e8]; exact Link.leave_check (j8.trans q) (j9.trans c) s.uptime
  · rw [m.queue, hc, hr, if_neg (fun c => nomatch c.2), State.verdictNotices, hc, hr]; rfl

/-! ### The verdict -/

/-- R67 to R70: the verdict of a link that is not held in place by it. -/
theorem State.judged_giveVerdict (ho : s.link p h = old) (hv : holds old = false) (hk : l.Left l') {hist : Option Reason}
    (hf : ∀ r, hist.getD r = f r) : s.JudgedFrom (s.giveVerdict p h old l' hist) p h l l' f [] := by
  have hup : old.map (fun l => l.state) ≠ some .up := by
    cases old with
    | none => simp
    | some x => intro c; simp [holds, Option.some.inj c, LinkState.holding] at hv
  unfold State.giveVerdict
  dsimp only
  cases hc : s.checks p h ((s.port p).observe h) none with
  | some r =>
    dsimp only
    rw [hf]
    exact State.judged_blocked ho hup hk hc
  | none =>
    cases hr : (s.pos p h).residue with
    | none =>
      dsimp only
      rw [hf]
      exact State.judged_verified ho hv hk hc hr rfl
    | some x =>
      dsimp only
      rw [hf]
      have j := State.judged_residue (L := []) (f := f) ho hup hk hc hr
      rw [← s.enterIsolated_eq] at j
      exact j
end

section
variable {s t : State} {p : Port} {h : Half} {l k : Link}

/-! ### The end of a recovery -/

/-- R66: the table of checks reads the port's records and the links of the other positions. -/
theorem State.checks_of_others (ho : s.OthersKept t p h) (o : Obs) (w : Option Nat) : t.checks p h o w = s.checks p h o w := by
  have key {α : Type} (f : PortUnit → α) (hf : ∀ q, f q.bare = f q) : f (t.port p) = f (s.port p) :=
    State.view_of_bare hf ho.bare p
  have hstale : t.staleTag p h = s.staleTag p h := by
    have htag : t.bare.planTag = s.bare.planTag := congrArg (fun u : State => u.planTag) ho.bare
    replace htag : t.planTag = s.planTag := htag
    unfold State.staleTag
    rw [htag, key (fun q => q.markedSet h) fun q => q.markedSet_bare h]
    exact congrArg _ (funext fun r => by rw [key (fun q => (q.rel h r).heard) fun q => by rw [PortUnit.rel_bare]; rfl])
  have hdup (f : FarId) : t.duplicate p h f = s.duplicate p h f := State.duplicate_of_others ho f
  unfold State.checks
  simp only [hstale, hdup, key (fun q => q.plan) fun _ => rfl, key (fun q => q.planForm) fun _ => rfl,
    key (fun q => q.desc) fun _ => rfl, key (fun q => q.span h) fun q => q.span_bare h,
    key (fun q => q.expectation h) fun q => q.expectation_bare h]

theorem State.ruled_setLink (s : State) (p : Port) (h : Half) (x old : Option Link) (k : Link) (down hist : Reason)
    (L : List Detail) : (s.setLink p h x).ruled p h old k down hist L = s.ruled p h old k down hist L := by
  have hobs : ((s.setLink p h x).port p).observe h = (s.port p).observe h :=
    State.view_of_bare (f := fun q => q.observe h) (fun q => q.observe_bare h) (s.bare_setLink p h x) p
  have hctx (o : Obs) : (s.setLink p h x).verdictContext p h o = (s.verdictContext p h o).setLink p h x := by
    rw [State.verdictContext_eq, State.verdictContext_eq, State.setLink, State.setLink, State.modPos_modPos, State.modPos_modPos]
  rw [State.ruled, State.ruled, hobs, hctx, State.moveLink_setLink]

/-- A change of link state reads no more than state and reason of a link that is not UP. -/
theorem State.moveLink_old (hs : k.state = l.state) (hr : k.reason = l.reason) (hup : l.state ≠ .up) (s : State) (p : Port)
    (h : Half) (new : Link) (down hist : Reason) :
    s.moveLink p h (some k) (some new) down hist = s.moveLink p h (some l) (some new) down hist := by
  have hmap : (some k).map (fun l => l.state) = (some l).map (fun l => l.state) := congrArg some hs
  have hn : ¬ ((some l).map (fun l => l.state) = some .up ∧ new.state ≠ .up) := fun c => hup (Option.some.inj c.1)
  have hsnap : s.snapOf p h (some k) (some new) down = s.snapOf p h (some l) (some new) down := by
    rw [State.snapOf_some, State.snapOf_some, hmap, if_neg hn, if_neg hn]
  have hchange : changesHistory (some k) (some new) = changesHistory (some l) (some new) := by
    unfold changesHistory
    rw [hmap, Option.bind_some, hr, ← Option.bind_some (a := l) (f := fun l : Link => l.reason)]
  have hleaves : leavesUp (some k) (some new) = leavesUp (some l) (some new) := by rw [leavesUp, leavesUp, hs]
  have hholds : holds (some k) = holds (some l) := congrArg LinkState.holding hs
  unfold State.moveLink State.storeMove
  rw [hsnap, hchange, hleaves, hmap, hholds]

theorem State.ruled_old (hs : k.state = l.state) (hr : k.reason = l.reason) (hup : l.state ≠ .up) (s : State) (p : Port)
    (h : Half) (new : Link) (down hist : Reason) (L : List Detail) :
    s.ruled p h (some k) new down hist L = s.ruled p h (some l) new down hist L := by
  rw [State.ruled, State.moveLink_old hs hr hup, State.ruled]

theorem ite_ne_pass {c : Prop} [Decidable c] {r : Reason} {x : Option Reason} (hr : r ≠ .pass) (hx : x ≠ some .pass) :
    (if c then some r else x) ≠ some .pass := by
  split
  · exact fun e => hr (Option.some.inj e)
  · exact hx

theorem State.checks_ne_pass {o : Obs} {w : Option Nat} : s.checks p h o w ≠ some .pass := by
  unfold State.checks
  refine ite_ne_pass (by decide) (ite_ne_pass (by decide) ?_)
  cases o.far with
  | none => exact fun e => nomatch e
  | some f =>
    refine ite_ne_pass (by decide) (ite_ne_pass (by decide) ?_)
    cases (s.port p).expectation h with
    | none => exact fun e => nomatch e
    | some e =>
      exact ite_ne_pass (by decide) (ite_ne_pass (by decide) (ite_ne_pass (by decide) (ite_ne_pass (by decide)
        (ite_ne_pass (by decide) (ite_ne_pass (by decide) (fun e => nomatch e))))))

section
variable (hl : s.link p h = some l)
include hl

theorem State.endRecovery_failed {r : Reason} (hc : s.checks p h ((s.port p).observe h) none = some r) :
    s.endRecovery p h = s.ruled p h (some l) ((l.leave s.uptime).failed ((s.port p).observe h) r) r r
      [((s.port p).observe h).notice .blocked (some r)] := by
  rw [State.endRecovery, State.withLink_of_link hl]
  dsimp only
  rw [hc]
  rfl

theorem State.endRecovery_passed (hc : s.checks p h ((s.port p).observe h) none = none) (hr : (s.pos p h).residue = none) :
    s.endRecovery p h = (s.ruled p h (some l) (s.verified p h (l.leave s.uptime)) .recovered .recovered
      [((s.port p).observe h).notice .verified none, .recovered ((s.port p).observe h).far]).startTest p h := by
  rw [State.endRecovery, State.withLink_of_link hl]
  dsimp only
  rw [hc, hr]
  rfl

theorem State.endRecovery_retaken {x : Nat} (hc : s.checks p h ((s.port p).observe h) none = none)
    (hr : (s.pos p h).residue = some x) :
    s.endRecovery p h = (s.setResidue p h none).ruled p h (some l) (s.retaken p h (l.leave s.uptime) x) .residue .residue
      [((s.port p).observe h).notice .isolated none, .isolated .residue x] := by
  rw [State.endRecovery, State.withLink_of_link hl]
  dsimp only
  rw [hc, hr]
  exact s.enterIsolated_eq p h (l.leave s.uptime) x .residue (some l)
end

/-- R137: the verdict of the link `l` that ends a recovery, at its record `k` after the last probe. -/
theorem State.judged_endRecovery (hl : s.link p h = some l) (hs : l.state = .isolated) (hks : k.state = .isolated)
    (hkr : k.reason = l.reason) {l' : Link} (hk : l'.Left (k.leave s.uptime)) (ht : t = s.setLink p h (some k)) :
    s.JudgedFrom (t.endRecovery p h) p h l' (k.leave s.uptime) recoveryReason [.recovered ((s.port p).observe h).far] := by
  have hup : l.state ≠ .up := by simp [hs]
  have hst : k.state = l.state := hks.trans hs.symm
  have hold : (some l).map (fun l => l.state) ≠ some .up := by simp [hs]
  have hb : t.bare = s.bare := by rw [ht]; exact s.bare_setLink p h _
  have hobs : (t.port p).observe h = (s.port p).observe h :=
    State.view_of_bare (f := fun q => q.observe h) (fun q => q.observe_bare h) hb p
  have hconf (f : Option FarId) : (t.port p).confirmedSet h f = (s.port p).confirmedSet h f :=
    State.view_of_bare (f := fun q => q.confirmedSet h f) (fun q => q.confirmedSet_bare h f) hb p
  have hchk : t.checks p h ((t.port p).observe h) none = s.checks p h ((s.port p).observe h) none := by
    rw [hobs, ht]; exact State.checks_of_others (s.others_modPos p h _) _ _
  have hres : (t.pos p h).residue = (s.pos p h).residue := by rw [ht, State.setLink, State.pos_modPos, if_pos ⟨rfl, rfl⟩]
  have hlt : t.link p h = some k := by rw [ht, State.link_setLink_self]
  have hu : t.uptime = s.uptime := State.uptime_of_bare hb
  have hruled (x : Link) (down hist : Reason) (M : List Detail) :
      t.ruled p h (some k) x down hist M = s.ruled p h (some l) x down hist M := by
    rw [ht, State.ruled_setLink, State.ruled_old hst hkr hup]
  cases hc : s.checks p h ((s.port p).observe h) none with
  | some r =>
    have j := State.judged_blocked (f := recoveryReason) (L := [.recovered ((s.port p).observe h).far]) hl hold hk hc
    rw [show recoveryReason r = r from if_neg fun c => State.checks_ne_pass (c ▸ hc)] at j
    rw [State.endRecovery_failed hlt (hchk.trans hc), hobs, hu, hruled]
    exact j
  | none =>
    cases hr : (s.pos p h).residue with
    | none =>
      have j := State.judged_verified (f := recoveryReason) (L := [.recovered ((s.port p).observe h).far]) (down := .recovered)
        hl (by simp [holds, hs, LinkState.holding]) hk hc hr rfl
      have hv : t.verified p h (k.leave s.uptime) = s.verified p h (k.leave s.uptime) := by
        unfold State.verified
        rw [hobs, ht]
        rfl
      rw [State.endRecovery_passed hlt (hchk.trans hc) (hres.trans hr), hobs, hu, hv, hruled]
      exact j
    | some x =>
      have j := State.judged_residue (f := recoveryReason) (L := [.recovered ((s.port p).observe h).far]) hl hold hk hc hr
      have hre : t.retaken p h (k.leave s.uptime) x = s.retaken p h (k.leave s.uptime) x := by
        unfold State.retaken
        rw [hobs, hconf, hu, ht]
        rfl
      have hset : t.setResidue p h none = (s.setResidue p h none).setLink p h (some k) := by
        rw [ht, State.setResidue, State.setResidue, State.setLink, State.setLink, State.modPos_modPos, State.modPos_modPos]
      rw [State.endRecovery_retaken hlt (hchk.trans hc) (hres.trans hr), hobs, hu, hre, hset, State.ruled_setLink,
        State.ruled_old hst hkr hup]
      exact j
end

/-- Settles O45. -/
theorem checkingEndsWithVerdict : Obligations.CheckingEndsWithVerdict := by
  intro p h i s l hl hi
  refine ⟨fun hc hq => ?_, fun hs hq hc => ?_⟩
  · rcases hi with rfl | rfl
    · exact congrArg Host.Outcome.next ((State.withLink_of_link hl _).trans (if_neg (by rw [hq]; exact Bool.false_ne_true)))
    · exact congrArg Host.Outcome.next ((State.withLink_of_link hl _).trans (if_neg (by rw [hc]; exact Bool.false_ne_true)))
  · have he : exec i s = .next (s.endChecking p h) := by
      rcases hi with rfl | rfl
      · exact congrArg Host.Outcome.next ((State.withLink_of_link hl _).trans (if_pos hq))
      · exact congrArg Host.Outcome.next ((State.withLink_of_link hl _).trans (if_pos hc))
    have j := State.judged_giveVerdict (f := id) hl (by simp [holds, hs, LinkState.holding]) (l.left_leave s.uptime)
      (hist := none) fun _ => rfl
    have hend : s.endChecking p h = s.giveVerdict p h (some l) (l.leave s.uptime) none := by
      rw [State.endChecking, State.withLink_of_link hl, if_pos hs]
    obtain ⟨k, hk, hf, -⟩ := j.record
    have hleft : (l.leave s.uptime).quiet = none ∧ (l.leave s.uptime).checkEntry = none := by
      unfold Link.leave; rw [hs]; exact ⟨rfl, rfl⟩
    obtain ⟨h1, h2⟩ := hf hleft.1 hleft.2
    refine ⟨_, k, he, ?_, h1, h2, ?_, ?_⟩ <;> rw [hend]
    · exact hk
    · exact j.judged
    · rw [j.queue, ite_self]; rfl

end Sys2Proof.Machine

/-! PROOF. The recovery probe and TAG: O43 and O10 (R54, R67 to R70, R77, R136, R137). -/

namespace Sys2Proof.Machine

open Sys2Proof

/-- R136: when a probe is clean. -/
theorem PortUnit.probeClean_iff (q : PortUnit) (h : Half) (l : Link) : q.probeClean h l = true ↔
    l.sup.probeDirty = false ∧ l.sup.probeChange = false ∧
      ∀ r ∈ LaneSet.members l.sup.probeSet, (q.rel h r).confirmedWith l.far = true := by
  rw [PortUnit.probeClean, Bool.and_eq_true, Bool.and_eq_true, Bool.not_eq_true', Bool.not_eq_true', List.all_eq_true, and_assoc]

/-- Settles O43. -/
theorem probeLowersScore : Obligations.ProbeLowersScore := by
  intro p h s l clean o hl
  refine ⟨fun hs => ?_, fun hs ht ho hclean => ?_⟩
  · exact congrArg Host.Outcome.next ((State.withLink_of_link hl _).trans (if_neg fun c => hs c.1))
  have hpc : (s.port p).probeClean h l = clean := by
    rw [Bool.eq_iff_iff, PortUnit.probeClean_iff, hclean]
  have he : exec (.probeTimerExpiry p h) s = .next (
      if clean && (l.probed s.uptime clean).sup.score == 0 then
        (s.setLink p h (some (l.probed s.uptime clean))).endRecovery p h
      else s.setLink p h (some (l.probed s.uptime clean))) := by
    rw [← hpc]
    exact congrArg Host.Outcome.next (((State.withLink_of_link hl _).trans (if_pos ⟨hs, ht⟩)).trans (State.withLink_of_link hl _))
  refine ⟨fun hc => ?_, fun hc h1 => ?_⟩
  · rw [he, if_neg]
    · rfl
    · rintro c
      rw [Bool.and_eq_true, beq_iff_eq] at c
      obtain ⟨rfl, c⟩ := c
      have c : l.sup.score - 1 = 0 := c
      rcases hc with hc | hc
      · cases hc
      · omega
  · have hscore : (l.probed s.uptime true).sup.score = 0 := by
      show l.sup.score - 1 = 0
      rw [h1]
    have hks : (l.probed s.uptime true).state = .isolated := hs
    have hleft : ({ l with sup := { l.sup with score := 0 } } : Link).Left ((l.probed s.uptime true).leave s.uptime) := by
      obtain ⟨ha, hg, hsc⟩ := (l.probed s.uptime true).left_leave s.uptime
      exact ⟨ha, hg, hsc.trans hscore⟩
    have j := State.judged_endRecovery hl hs hks rfl hleft rfl
    obtain ⟨k, hk, -, hsup⟩ := j.record
    have hend : ((l.probed s.uptime true).leave s.uptime).sup.isoCause = none ∧
        ((l.probed s.uptime true).leave s.uptime).sup.probeTimer = none := by
      unfold Link.leave; rw [hks]; exact ⟨rfl, rfl⟩
    refine ⟨_, k, ?_, hk, j.judged, fun hn => ?_, ?_⟩
    · rw [he, hc, hscore]; rfl
    · obtain ⟨e1, e2⟩ := hsup hn
      exact ⟨e1.trans hend.1, e2.trans hend.2⟩
    · rw [j.queue, ho]
      split <;> rfl

/-! ### TAG -/

theorem State.Judged.acts {s t : State} {p : Port} {h : Half} {l : Link} {f : Reason → Reason} (j : s.Judged t p h l f) :
    ∃ own cap, s.ActsAt t p h own cap := by
  obtain ⟨_, k, -, -, -, -, -, -, -, -, -, a⟩ := j
  exact ⟨_, _, a⟩

section
variable {s : State} {p : Port} {h : Half} {l : Link}

theorem State.retag_judged (hl : s.link p h = some l) (hs : l.state = .blocked) (hr : l.reason ≠ some .trainFailed) :
    s.JudgedFrom (s.retag p h) p h l (l.leave s.uptime) id [] := by
  rw [State.retag, State.withLink_of_link hl, if_pos ⟨hs, hr⟩]
  exact State.judged_giveVerdict hl (by simp [holds, hs, LinkState.holding]) (l.left_leave s.uptime) fun _ => rfl

theorem State.retag_other (hn : ∀ l, s.link p h = some l → ¬ (l.state = .blocked ∧ l.reason ≠ some .trainFailed)) :
    s.retag p h = s := by
  cases hl : s.link p h with
  | none => rw [State.retag, State.withLink_of_none hl]
  | some l => rw [State.retag, State.withLink_of_link hl, if_neg (hn l hl)]

/-- R54: a re-evaluation changes no other link. -/
theorem State.retag_kept (s : State) (p : Port) (h : Half) : (s.retag p h).bare = s.bare ∧
    ∀ p' h', ¬ (p' = p ∧ h' = h) → (s.retag p h).link p' h' = s.link p' h' := by
  by_cases hc : ∃ l, s.link p h = some l ∧ l.state = .blocked ∧ l.reason ≠ some .trainFailed
  · obtain ⟨l, hl, hs, hr⟩ := hc
    obtain ⟨_, _, a⟩ := (State.retag_judged hl hs hr).judged.acts
    have hd : s.departs (s.retag p h) p h = false := by
      rw [State.departs, hl]; simp [holds, hs, LinkState.holding]
    refine ⟨a.others.bare, fun p' h' hn => ?_⟩
    have e := a.peers p' h' hn
    rw [hd] at e
    exact congrArg Position.link e
  · rw [State.retag_other fun l hl c => hc ⟨l, hl, c⟩]
    exact ⟨rfl, fun _ _ _ => rfl⟩

/-- The links re-evaluated in the order of a list. -/
def State.retagged (s : State) (L : List (Port × Half)) : State := L.foldl (fun t x => t.retag x.1 x.2) s

theorem State.retagged_append (s : State) (L M : List (Port × Half)) : s.retagged (L ++ M) = (s.retagged L).retagged M :=
  List.foldl_append

theorem State.retagged_kept (L : List (Port × Half)) (s : State) : (s.retagged L).bare = s.bare ∧
    ∀ p h, (p, h) ∉ L → (s.retagged L).link p h = s.link p h := by
  induction L generalizing s with
  | nil => exact ⟨rfl, fun _ _ _ => rfl⟩
  | cons x L ih =>
    obtain ⟨hb, hl⟩ := ih (s.retag x.1 x.2)
    obtain ⟨hb', hl'⟩ := s.retag_kept x.1 x.2
    refine ⟨hb.trans hb', fun p h hn => ?_⟩
    rw [List.mem_cons, not_or] at hn
    exact (hl p h hn.2).trans (hl' p h fun c => hn.1 (Prod.ext c.1 c.2))

theorem nodup_allPositions : allPositions.Nodup :=
  List.nodup_flatMap.mpr ⟨fun p _ => by simp, nodup_allPorts.imp fun hne x hx hy => by
    rcases List.mem_pair.mp hx with rfl | rfl <;> rcases List.mem_pair.mp hy with h | h <;> cases h <;> exact hne rfl⟩

theorem take_drop_of_nodup {α : Type} {l : List α} (hl : l.Nodup) {n : Nat} {x : α} (hn : l[n]? = some x) :
    l.take (n + 1) = l.take n ++ [x] ∧ x ∉ l.take n ∧ x ∉ l.drop (n + 1) := by
  obtain ⟨hlt, hx⟩ := List.getElem?_eq_some_iff.mp hn
  have hsplit : l = l.take n ++ x :: l.drop (n + 1) := by rw [← hx, List.getElem_cons_drop, List.take_append_drop]
  obtain ⟨-, hright, hdis⟩ := List.nodup_append.mp (hsplit ▸ hl)
  exact ⟨by rw [← hx, List.take_append_getElem], fun c => hdis x c x (.head _) rfl, (List.nodup_cons.mp hright).1⟩

/-- The positions before and after the one of number `n`. -/
theorem allPositions_split {n : Nat} (p : Port) (h : Half) (hn : n = 2 * p.val + (if h = .A then 0 else 1)) :
    allPositions.take (n + 1) = allPositions.take n ++ [(p, h)] ∧ (p, h) ∉ allPositions.take n ∧
      (p, h) ∉ allPositions.drop (n + 1) := by
  refine take_drop_of_nodup nodup_allPositions ?_
  subst hn
  cases h <;> (revert p; decide)
end

/-- Settles O10. -/
theorem tagReevaluatesBlockedLinks : Obligations.TagReevaluatesBlockedLinks := by
  intro tag value s hidle
  refine ⟨fun hv => ?_, fun hv => ?_⟩
  · exact exec_of_ok (i := .planTag tag value) rfl rfl hidle (if_pos hv)
  have hans : answer (.planTag tag value) s =
      .ok (s.after ((({ s with planTag := value } : State).event).retagged allPositions)) (byte value) := if_neg hv
  generalize hs0 : ({ s with planTag := value } : State).event = s0 at hans
  have hlink (p : Port) (h : Half) : s0.link p h = s.link p h := by rw [← hs0]; rfl
  have hall : s0.retagged (allPositions.take 32) = s0.retagged allPositions := rfl
  refine ⟨fun n => s0.retagged (allPositions.take n), s.after (s0.retagged allPositions),
    exec_of_ok (i := .planTag tag value) rfl rfl hidle hans, rfl, rfl, ?_, ?_⟩
  · have hb := (State.retagged_kept allPositions s0).1
    generalize s0.retagged allPositions = t at hb
    rw [← hs0] at hb
    exact congrArg (fun t : State => { t with eventLoss := s.eventLoss }) hb
  · intro n p h hn
    obtain ⟨hsucc, hbefore, hafter⟩ := allPositions_split p h hn
    generalize hu : s0.retagged (allPositions.take n) = u
    have hul : u.link p h = s.link p h := by rw [← hu, (State.retagged_kept _ s0).2 p h hbefore, hlink]
    have hnext : s0.retagged (allPositions.take (n + 1)) = u.retag p h := by rw [hsucc, State.retagged_append, hu]; rfl
    have hrest : s0.retagged allPositions = (u.retag p h).retagged (allPositions.drop (n + 1)) := by
      rw [← hnext, ← State.retagged_append, List.take_append_drop]
    dsimp only
    rw [hu, hnext]
    refine ⟨hul, ?_, fun hl => ?_, fun l hl hc => ?_, fun l hl hb hr => ?_⟩
    · have hrun (t : State) : (s.after t).link p h = t.link p h := rfl
      rw [hrun, hrest, (State.retagged_kept _ _).2 p h hafter]
    · exact State.retag_other fun l c => by rw [hul, hl] at c; cases c
    · exact State.retag_other fun k c => by rw [hul, hl] at c; cases c; exact hc
    · have j := State.retag_judged (hul.trans hl) hb hr
      exact ⟨j.judged, by rw [j.queue, ite_self]; rfl⟩

end Sys2Proof.Machine

/-! SUPPORT and PROOF. The end of the survey: O34 (R58 to R61, R67 to R69, R109). -/

namespace Sys2Proof.Machine

open Sys2Proof

/-! ### The port as its survey ends -/

theorem PortUnit.lanes_assigned (q : PortUnit) : q.assigned.lanes = Vector.ofFn fun i : Fin 8 =>
    { q.lane i with preset := q.autoList.headD 0, best := none, delay := 0, active := false } := by
  refine Vector.ext fun i hi => ?_
  rw [Vector.getElem_ofFn]
  exact q.lane_assigned ⟨i, hi⟩

theorem PortUnit.assigned_append (q : PortUnit) (e : HistEntry) : (q.append e).assigned = q.assigned.append e := by
  unfold PortUnit.append
  by_cases hc : q.history.length < 8
  · rw [if_pos hc, if_pos (show q.assigned.history.length < 8 from hc)]; rfl
  · rw [if_neg hc, if_neg (show ¬ q.assigned.history.length < 8 from hc)]; rfl

/-- R61: the port as it enters ASSIGNED. -/
def PortUnit.surveyed (q : PortUnit) : PortUnit :=
  { q with
    state := .assigned, windowTimer := none, settleTimer := none
    lanes := Vector.ofFn fun i : Fin 8 =>
      { q.lane i with preset := q.autoList.headD 0, best := none, delay := 0, active := false } }

theorem PortUnit.surveyed_eq (q : PortUnit) : ({ q with state := .assigned } : PortUnit).assigned = q.surveyed := by
  rw [PortUnit.assigned_eq, PortUnit.lanes_assigned]; rfl

section
variable {s t u : State} {p : Port} {h : Half} {l : Link} {own : List HistEntry} {cap : Option SnapRecord}

/-- R61: the state as the links of the port are created. -/
def State.surveyed (s : State) (p : Port) : State :=
  (s.setPort p ((s.port p).surveyed.append ⟨s.uptime, .port .survey .assigned, .surveyEnd⟩)).event

theorem State.endSurvey_surveyed (hs : (s.port p).state = .survey) : s.endSurvey p = s.after
    (if (s.port p).isSplit then ((s.surveyed p).createLink p .A).createLink p .B else (s.surveyed p).createLink p .A) := by
  have ht : (s.portTo p .assigned .surveyEnd).modPort p PortUnit.assigned =
      s.setPort p ((s.port p).surveyed.append ⟨s.uptime, .port .survey .assigned, .surveyEnd⟩) := by
    rw [State.portTo_eq, State.modPort, State.setPort_setPort, State.port_setPort_self, PortUnit.assigned_append,
      PortUnit.surveyed_eq, hs]
  rw [State.endSurvey_eq, ht]
  rfl

theorem State.pos_surveyed (s : State) (p : Port) (h : Half) : (s.surveyed p).pos p h = (s.port p).pos h := by
  show ((s.setPort p _).port p).pos h = _
  rw [State.port_setPort_self, PortUnit.pos_append]
  cases h <;> rfl

theorem State.port_surveyed (s : State) (p : Port) {p' : Port} (hp : p' ≠ p) : (s.surveyed p).port p' = s.port p' :=
  s.port_setPort_of_ne _ hp.symm

/-- R61: a link created has its first verdict. -/
theorem State.judged_createLink (hn : s.link p h = none) : s.JudgedFrom (s.createLink p h) p h {} {} id [] :=
  State.judged_giveVerdict hn rfl ⟨rfl, rfl, rfl⟩ fun _ => rfl

/-- R72: a link created releases none. -/
theorem State.departs_none (hn : s.link p h = none) (t : State) : s.departs t p h = false := by
  rw [State.departs, hn]; rfl

/-- R60: a removal of the port that comes next falls together with the end of its survey. -/
theorem State.removalWaits_sample {rest : List Instr} (ha : (s.port p).accepted = true) (hp : (s.port p).presN = .high)
    (hc : (s.port p).debounceCount ≠ 0) (hd : s.timing.debounce ≠ .none) (hq : s.pending = .presenceSample p :: rest) :
    s.removalWaits p = true := by
  unfold State.removalWaits
  have hfirst : (s.pending.find? fun i => (eventPort i).all fun x => x == p) = some (.presenceSample p) := by
    rw [hq]
    exact List.find?_cons_of_pos (p := fun i => (eventPort i).all fun x => x == p) (beq_self_eq_true p)
  rw [hfirst]
  simp [State.removes, ha, hp, hc, hd]

/-- R60: with the removal waiting, the link created is not live. -/
theorem State.Judged.not_live (j : s.Judged t p h l id) (hn : s.link p h = none) (hw : s.removalWaits p = true) :
    ∃ k, t.link p h = some k ∧ k.live = false := by
  obtain ⟨_, k, -, hk, -, -, -, -, -, hm, -, -⟩ := j
  refine ⟨k, hk, ?_⟩
  rw [hn, State.noStart_none, hw] at hm
  split at hm
  · rw [Link.live, hm.1]; rfl
  · rw [Link.live, hm.1, if_neg fun c => nomatch c.2.2]; rfl
  · rw [Link.live, hm.1]; rfl

/-- From `s` to `t` every port but `p` stays as it is. -/
def State.PortsStay (s t : State) (p : Port) : Prop :=
  ∀ p', p' ≠ p → (t.port p').bare = (s.port p').bare ∧ (t.port p').lanes = (s.port p').lanes ∧
    (∀ h, t.pos p' h = s.pos p' h) ∧ s.Appended t p' []

theorem State.portsStay_of_port (h : ∀ p', p' ≠ p → t.port p' = s.port p') : s.PortsStay t p := fun p' hp => by
  have e := h p' hp
  exact ⟨by rw [e], by rw [e], fun _ => by rw [State.pos, e, State.pos], by rw [State.Appended, e]; exact ⟨rfl, rfl⟩⟩

theorem State.PortsStay.trans (k : s.PortsStay t p) (m : t.PortsStay u p) : s.PortsStay u p := fun p' hp => by
  obtain ⟨b1, l1, q1, a1⟩ := k p' hp
  obtain ⟨b2, l2, q2, a2⟩ := m p' hp
  exact ⟨b2.trans b1, l2.trans l1, fun h => (q2 h).trans (q1 h), a1.trans a2⟩

/-- What the creation of a link keeps. -/
theorem State.ActsAt.kept (m : s.ActsAt t p h own cap) (hd : s.departs t p h = false) :
    t.rest = s.rest ∧ (∀ h', h' ≠ h → t.pos p h' = s.pos p h') ∧ s.PortsStay t p := by
  have hpos (p' : Port) (h' : Half) (hn : ¬ (p' = p ∧ h' = h)) : t.pos p' h' = s.pos p' h' := by
    rw [m.peers p' h' hn, hd]; rfl
  refine ⟨State.rest_of_bare m.others.bare, fun h' hn => hpos p h' fun c => hn c.2, fun p' hp => ⟨State.bare_port m.others.bare p',
    ?_, fun h' => hpos p' h' fun c => hp c.1, ?_⟩⟩
  · exact Vector.ext fun i hi => m.others.lanes p' ⟨i, hi⟩ fun c => hp c.1
  · have := m.histories p'
    rwa [if_neg hp, hd] at this

theorem State.PortsStay.kept (k : s.PortsStay t p) (hd : s.portDeparts t p = false) : s.PortsKept t p := fun p' hp => by
  obtain ⟨hb, hl, hpos, ha⟩ := k p' hp
  rw [hd]
  exact ⟨hb, hl, hpos, ha⟩

/-- The port whose survey ended, with the removal waiting. -/
theorem State.removalWaits_surveyed {rest : List Instr} (ha : (s.port p).accepted = true) (hp : (s.port p).presN = .high)
    (hc : (s.port p).debounceCount ≠ 0) (hd : s.timing.debounce ≠ .none) (hq : s.pending = .presenceSample p :: rest) :
    (s.surveyed p).removalWaits p = true := by
  have hport : (s.surveyed p).port p = (s.port p).surveyed.append ⟨s.uptime, .port .survey .assigned, .surveyEnd⟩ :=
    s.port_setPort_self p _
  refine State.removalWaits_sample ?_ ?_ ?_ hd hq
  all_goals rw [hport, PortUnit.append_eq]
  · exact ha
  · exact hp
  · exact hc
end

theorem PortUnit.settled_iff (q : PortUnit) :
    q.settled = true ↔ ∀ i, q.inSpan i = true → (q.lane i).rx.status = .confirmed := by
  have hall : ∀ i : Lane, i ∈ allLanes := List.mem_finRange
  simp only [PortUnit.settled, List.all_eq_true, hall, forall_const, Bool.or_eq_true, Bool.not_eq_true', beq_iff_eq,
    ← Bool.not_eq_true, or_iff_not_imp_left, not_not]

/-- Settles O34. -/
theorem surveyEnds : Obligations.SurveyEnds := by
  rintro p s q rfl
  have hwindow : exec (.surveyWindowExpiry p) s = .next (if (s.port p).state = .survey ∧
    (s.port p).windowTimer.isSome = true then s.endSurvey p else s) := rfl
  have hsettle : exec (.settleExpiry p) s = .next (if (s.port p).state = .survey ∧ (s.port p).settleTimer.isSome = true then
      if (s.port p).settled then s.endSurvey p else s.modPort p fun q => { q with settleTimer := none } else s) := rfl
  refine ⟨fun hs => ?_, fun hs ht hn => ?_, fun hs hw ht hall => ?_, fun hs hw hn => ?_⟩
  · rw [hwindow, hsettle, if_neg fun c => hs c.1, if_neg fun c => hs c.1]
    exact ⟨rfl, rfl⟩
  · rw [hsettle, if_pos ⟨hs, ht⟩, if_neg]
    · rfl
    · rw [PortUnit.settled_iff]
      obtain ⟨i, hi, hc⟩ := hn
      exact fun c => hc (c i hi)
  · rw [hsettle, hwindow, if_pos ⟨hs, ht⟩, if_pos (show _ ∧ _ from ⟨hs, hw⟩), if_pos ((PortUnit.settled_iff _).mpr hall)]
  · rw [hwindow, if_pos ⟨hs, hw⟩, State.endSurvey_surveyed hs]
    have hvn (h : Half) : (s.surveyed p).link p h = none := (congrArg Position.link (s.pos_surveyed p h)).trans (hn h)
    have hvp := State.portsStay_of_port (p := p) fun p' hp => s.port_surveyed p hp
    have hwaits := fun rest ha hp hc hd hq => State.removalWaits_surveyed (s := s) (p := p) (rest := rest) ha hp hc hd hq
    have hrest : (s.surveyed p).rest = ({ s with eventLoss := some s.noticeLoss } : State).rest := rfl
    have hv : s.surveyed p = (s.setPort p ((s.port p).surveyed.append ⟨s.uptime, .port .survey .assigned, .surveyEnd⟩)).event :=
      rfl
    generalize s.surveyed p = v at hvn hvp hwaits hrest hv
    have jA := State.judged_createLink (hvn .A)
    have qA := jA.queue
    rw [ite_self] at qA
    generalize v.createLink p .A = a at jA qA
    obtain ⟨_, _, mA⟩ := jA.judged.acts
    obtain ⟨rA, posA, stayA⟩ := mA.kept (State.departs_none (hvn .A) a)
    have hB : a.link p .B = none := (congrArg Position.link (posA .B nofun)).trans (hvn .B)
    have hquiet (t : State) : s.portDeparts t p = false := by
      rw [State.portDeparts, State.departs_none (hn .A), State.departs_none (hn .B)]; rfl
    have hend {b : State} (r : b.rest = v.rest) (k : v.PortsStay b p) : s.PortsKept (s.after b) p ∧ (s.after b).rest = s.rest :=
      ⟨State.PortsStay.kept (t := s.after b) (hvp.trans k) (hquiet _),
        congrArg (fun u : State => { u with eventLoss := s.eventLoss }) (r.trans hrest)⟩
    by_cases hsplit : (s.port p).isSplit = true
    · rw [if_pos hsplit]
      have jB := State.judged_createLink hB
      have qB := jB.queue
      rw [ite_self] at qB
      generalize a.createLink p .B = b at jB qB
      obtain ⟨_, _, mB⟩ := jB.judged.acts
      obtain ⟨rB, posB, stayB⟩ := mB.kept (State.departs_none hB b)
      refine ⟨v, a, b, _, rfl, rfl, hv, jA.judged, qA, fun _ => ⟨jB.judged, qB⟩, fun c => Bool.noConfusion (hsplit.symm.trans c),
        fun rest ha hp hc hd hq h k hk => ?_, hend (rB.trans rA) (stayA.trans stayB)⟩
      have w := hwaits rest ha hp hc hd hq
      cases h with
      | A =>
        obtain ⟨k', e, hl⟩ := jA.judged.not_live (hvn .A) w
        exact Option.some.inj ((((congrArg Position.link (posB .A nofun)).trans e).symm.trans hk)) ▸ hl
      | B =>
        obtain ⟨k', e, hl⟩ := jB.judged.not_live hB ((State.removalWaits_of_bare p mA.others.bare).trans w)
        exact Option.some.inj (e.symm.trans hk) ▸ hl
    · rw [if_neg hsplit]
      refine ⟨v, a, a, _, rfl, rfl, hv, jA.judged, qA, fun c => absurd c hsplit, fun _ => ⟨rfl, hB⟩,
        fun rest ha hp hc hd hq h k hk => ?_, hend rA stayA⟩
      cases h with
      | A =>
        obtain ⟨k', e, hl⟩ := jA.judged.not_live (hvn .A) (hwaits rest ha hp hc hd hq)
        exact Option.some.inj (e.symm.trans hk) ▸ hl
      | B => exact nomatch hB.symm.trans hk

end Sys2Proof.Machine

/-! SUPPORT and PROOF. The plan edit that keeps the form: O20 (R50 to R52, R69, R72, R151). -/

namespace Sys2Proof.Machine

open Sys2Proof

set_option Elab.async false

section
variable {s t u : State} {p : Port} {h : Half} {l k : Link} {o : Obs}

/-- R70: with no context kept, a verdict leaves the position as it is. -/
theorem State.verdictContext_self (hc : (s.pos p h).context = none) (o : Obs) : s.verdictContext p h o = s := by
  have ho : o.keptContext none = none := by unfold Obs.keptContext; cases o.far <;> rfl
  have hq : (s.port p).setPos h { s.pos p h with context := o.keptContext (s.pos p h).context } = s.port p := by
    rw [hc, ho, ← hc]
    cases h <;> rfl
  rw [State.verdictContext_eq]
  exact (congrArg (s.setPort p) hq).trans (s.setPort_self p)

/-- R151, R152: the capture of a link blocked from another state. -/
theorem State.snapOf_block (hs : l.state ≠ .blocked) (hk : k.state = .blocked) (down : Reason) :
    s.snapOf p h (some l) (some k) down = some (s.lostRecord p h l k down (k.reason.getD down)) := by
  unfold State.lostRecord
  by_cases hu : l.state = .up
  · rw [if_pos hu, State.snapOf_up s p h down hu (by simp [hk])]
  · rw [if_neg hu, State.snapOf_blocked s p h down (by simpa using hu) hk, if_neg (by simpa using hs)]
    rfl


/-- R52: a holding link blocked by the verdict of a plan edit. -/
theorem State.does_reevaluated (hl : s.link p h = some l) (hb : l.state ≠ .blocked) {r : Reason}
    (hk : k.state = .blocked ∧ k.reason = some r) (L : List Detail) :
    s.Does (s.ruled p h (some l) k .planChange .planChange L) p h [s.moved h (some l.state) (some .blocked) .planChange]
      (some (s.lostRecord p h l k .planChange r)) L := by
  have m := State.does_ruled hl k .planChange .planChange L
  rw [State.snapOf_block hb hk.1, hk.2, if_neg fun c => hb (Option.some.inj (c.1.trans (congrArg some hk.1))), hk.1] at m
  exact m

theorem State.reevaluateHolder_failed {w : Option Nat} (ho : o = (s.port p).observe h)
    (hw : w = (if l.state = .up then some (groupWidth l.agree.active) else none)) {r : Reason}
    (hc : s.checks p h o w = some r) : s.reevaluateHolder p h l =
      s.ruled p h (some l) ((l.leave s.uptime).failed o r) .planChange .planChange
        (o.notice .blocked (some r) :: if l.live then [l.downNotice .planChange] else []) := by
  subst ho hw
  unfold State.reevaluateHolder
  dsimp only
  rw [hc]
  dsimp only
  cases l.live <;> rfl

theorem State.reevaluateHolder_passed {w : Option Nat} (ho : o = (s.port p).observe h)
    (hw : w = (if l.state = .up then some (groupWidth l.agree.active) else none)) (hn : (s.pos p h).context = none)
    (hs : l.state = .verified ∨ l.live = true)
    (hc : s.checks p h o w = none) (hu : u = (s.setLink p h (some (s.passed p h o l))).postLink p h (o.notice l.state none)) :
    s.reevaluateHolder p h l = (match l.state, l.training.stage with
      | .verified, _ => u.startTest p h
      | .up, _ => u.upProtocol p h
      | .training, some .deskew => u.deskewDrop restartByTest p h
      | .training, some .align => u.alignRun restartByTest p h
      | _, _ => u) := by
  subst ho hw hu
  unfold State.reevaluateHolder
  dsimp only
  rw [hc, State.verdictContext_self hn]
  dsimp only
  generalize (s.setLink p h (some (s.passed p h ((s.port p).observe h) l))).postLink p h
    (((s.port p).observe h).notice l.state none) = u
  rw [Link.live_iff] at hs
  rcases hs with e | e | e
  · rw [e]
  · rw [e]
    rcases l.training.stage with _ | _ | _ | _ <;> rfl
  · rw [e]

/-- R50 to R52: the re-evaluation of a link at a position without a retained context. -/
theorem State.reevaluated (s : State) (p : Port) (h : Half) (hn : (s.pos p h).context = none) :
    s.Reevaluated (s.reevaluate p h) p h := by
  refine ⟨fun hl => State.withLink_of_none hl _, fun l o w hl ho hw => ?_⟩
  have hre := State.withLink_of_link hl fun l => match l.state with
    | .checking => s
    | .isolated => s
    | .blocked => s.giveVerdict p h (some l)
        { l.leave s.uptime with attempts := if l.reason = some .trainFailed then 0 else l.attempts } (some .planChange)
    | _ => s.reevaluateHolder p h l
  change s.reevaluate p h = _ at hre
  have hholder (c : l.state = .verified ∨ l.live = true) : s.reevaluate p h = s.reevaluateHolder p h l := by
    rw [Link.live_iff] at c
    rw [hre]
    rcases c with e | e | e <;> rw [e]
  refine ⟨?_, fun hb => ?_, fun hs r hc => ?_, fun hs hc u hu => ?_⟩
  · rintro (e | e) <;> rw [hre, e]
  · rw [hre, hb]
    obtain ⟨-, hg, hsc⟩ := l.left_leave s.uptime
    have j := State.judged_giveVerdict (f := planReason)
      (l := { l with attempts := if l.reason = some .trainFailed then 0 else l.attempts })
      (l' := { l.leave s.uptime with attempts := if l.reason = some .trainFailed then 0 else l.attempts })
      (hist := some .planChange) hl (by simp [holds, hb, LinkState.holding]) ⟨rfl, hg, hsc⟩ fun _ => rfl
    exact ⟨j.judged, by rw [j.queue, ite_self]; rfl⟩
  · have hb : l.state ≠ .blocked := by
      rw [Link.live_iff] at hs
      rcases hs with e | e | e <;> rw [e] <;> nofun
    rw [hholder hs, State.reevaluateHolder_failed ho hw hc]
    obtain ⟨ha, -, -⟩ := l.left_leave s.uptime
    have m := State.does_reevaluated hl hb (k := (l.leave s.uptime).failed o r) ⟨rfl, rfl⟩
      (o.notice .blocked (some r) :: if l.live then [l.downNotice .planChange] else [])
    refine ⟨⟨_, s.link_ruled .., rfl, rfl, rfl, rfl, rfl, rfl, rfl, ha, rfl, l.leave_active s.uptime, m.acts⟩, m.queue.trans ?_⟩
    cases l.live <;> rfl
  · exact (hholder hs).trans (State.reevaluateHolder_passed ho hw hn hs hc hu)
end

/-- Settles O20. -/
theorem planEditReevaluatesLinks : Obligations.PlanEditReevaluatesLinks := by
  intro i s p entry hidle hed hne hst hform
  obtain ⟨ha, hr, hw⟩ := answer_of_edits hed
  rw [if_neg hne] at ha
  have hedit : s.editPlan p entry = s.after (((s.edited p entry).event.reevaluate p .A).reevaluate p .B) := by
    have ht : (s.dropContexts p).modPort p (fun q => { q with plan := entry }) = s.edited p entry := by
      rw [State.dropContexts, State.modPort_modPort]; rfl
    unfold State.editPlan
    dsimp only
    rw [ht, if_neg (not_not.mpr hst), if_neg (not_not.mpr hform)]
    rfl
  have hport : (s.edited p entry).event.port p = { s.port p with
      plan := entry, posA := { (s.port p).posA with context := none }, posB := { (s.port p).posB with context := none } } :=
    s.port_modPort_self p fun q =>
      { q with plan := entry, posA := { q.posA with context := none }, posB := { q.posB with context := none } }
  have hrest : (s.edited p entry).event.rest = ({ s with eventLoss := some s.noticeLoss } : State).rest := rfl
  generalize (s.edited p entry).event = v at hedit hport hrest
  have hA := v.reevaluated p .A (by rw [State.pos, hport]; rfl)
  have kA := (v.keeps_reevaluate p .A).others
  generalize v.reevaluate p .A = u at hedit hA kA
  have hB : (u.pos p .B).context = none := by
    have hv : (v.pos p .B).context = none := by rw [State.pos, hport]; rfl
    rcases kA.positions p .B (by simp) with e | ⟨_, -, -, -, e⟩ <;> rw [e]
    · exact hv
    · exact hv
  have hB := u.reevaluated p .B hB
  have kB := (u.keeps_reevaluate p .B).others
  generalize u.reevaluate p .B = w at hedit hB kB
  rw [hedit] at ha
  have hb : (w.port p).bare = (v.port p).bare := (State.bare_port kB.bare p).trans (State.bare_port kA.bare p)
  have hwr : w.rest = v.rest := (State.rest_of_bare kB.bare).trans (State.rest_of_bare kA.bare)
  refine ⟨u, w, _, exec_of_ok hr hw hidle ha, hA, hB, rfl, ?_, ?_, ?_, ?_⟩
  · show (w.port p).bare.plan = entry
    rw [hb]; exact congrArg PortUnit.plan hport
  · exact (PortUnit.state_of_bare hb).trans ((congrArg PortUnit.state hport).trans hst)
  · exact (PortUnit.desc_of_bare hb).trans (by rw [hport])
  · exact congrArg (fun u : State => { u with eventLoss := s.eventLoss }) (hwr.trans hrest)

end Sys2Proof.Machine

/-! SUPPORT. A run of the agreement protocol (R85 to R88, R92, R116). -/

namespace Sys2Proof.Machine

open Sys2Proof

section
variable {q : PortUnit} {h : Half} {l k : Link} {g a b : Group}

theorem has_candidates (r : Nat) : LaneSet.has (q.candidates h l) r = true ↔ LaneSet.has (q.usable h l) r = true ∧
    LaneSet.has (l.mapping.set (q.span h) (q.farUsable h l)) r = true ∧
    (l.state = .up → LaneSet.has (groupLanes l.agree.active) r = true) := by
  unfold PortUnit.candidates
  dsimp only
  by_cases hu : l.state = .up
  · rw [if_pos hu, has_and, has_and, Bool.and_eq_true, Bool.and_eq_true, and_assoc]
    exact and_congr_right fun _ => and_congr_right fun _ => ⟨fun c _ => c, fun c => c hu⟩
  · rw [if_neg hu, has_and, Bool.and_eq_true]
    exact and_congr_right fun _ => (and_iff_left fun c => absurd c hu).symm

theorem PortUnit.selected_eq_some : q.selected h l = some g ↔
    select (q.span h) (q.candidates h l) = some g ∧ q.minWidth h ≤ g.width := by
  unfold PortUnit.selected
  split
  · next x hx =>
    rw [hx, Option.ite_none_left_eq_some, Nat.not_lt, Option.some.injEq]
    exact ⟨fun ⟨h1, h2⟩ => ⟨h2, h2 ▸ h1⟩, fun ⟨h1, h2⟩ => ⟨h1 ▸ h2, h1⟩⟩
  · next hx => rw [hx]; exact iff_of_false nofun nofun

/-- R85: the group the selection rule gives. -/
theorem PortUnit.selects_iff : q.Selects h l g ↔ q.selected h l = some g := by
  rw [PortUnit.selected_eq_some]
  constructor
  · rintro ⟨S, hS, hw, hr⟩
    obtain rfl : S = q.candidates h l := eq_of_has_eq fun r => Bool.eq_iff_iff.mpr ((hr r).trans (has_candidates r).symm)
    exact ⟨hS, hw⟩
  · rintro ⟨hS, hw⟩
    exact ⟨_, hS, hw, has_candidates⟩

/-- R90: while UP the group selected lies inside the active group. -/
theorem PortUnit.Selects.inside (hg : q.Selects h l g) (hs : l.state = .up) (ha : l.agree.active = some a) (r : Nat)
    (hr : LaneSet.has g.lanes r = true) : LaneSet.has a.lanes r = true := by
  obtain ⟨S, hS, -, hin⟩ := hg
  have := ((hin r).mp ((within_iff _ _).mp (select_some hS).2 r hr)).2.2 hs
  rwa [ha] at this

/-- R86: the junior's test. -/
theorem PortUnit.juniorTest_iff : q.juniorTest h l = some g ↔ q.JuniorTakes h l g := by
  unfold PortUnit.juniorTest PortUnit.JuniorTakes PortUnit.farProposal
  cases hq : q.reference h l with
  | none => exact iff_of_false nofun fun ⟨_, _, c, _⟩ => nomatch c
  | some k =>
    cases hp : k.proposal with
    | none =>
      rw [Option.bind_some, hp]
      refine iff_of_false nofun ?_
      rintro ⟨k', heard, hk', hh, -⟩
      obtain rfl := Option.some.inj hk'
      exact nomatch hp.symm.trans hh
    | some heard =>
      rw [Option.bind_some, hp]
      have hup (c : Group) : (l.state != .up || LaneSet.within c.lanes (groupLanes l.agree.active)) = true ↔
          (l.state = .up → ∀ r, LaneSet.has c.lanes r = true → LaneSet.has (groupLanes l.agree.active) r = true) := by
        rw [Bool.or_eq_true, bne_iff_ne, within_iff, ← imp_iff_not_or]
      dsimp only
      cases hm : l.mapping.group (q.span h) heard with
      | none =>
        refine iff_of_false nofun ?_
        rintro ⟨k', heard', hk', hh, -, hm', -⟩
        obtain rfl := Option.some.inj hk'
        obtain rfl := Option.some.inj (hp.symm.trans hh)
        exact nomatch hm.symm.trans hm'
      | some c =>
        dsimp only
        rw [Option.ite_none_right_eq_some, Option.some.injEq, Bool.and_eq_true, Bool.and_eq_true, Bool.and_eq_true, hup,
          within_iff, decide_eq_true_eq, List.contains_iff_mem]
        constructor
        · rintro ⟨⟨⟨⟨h1, h2⟩, h3⟩, h4⟩, rfl⟩
          exact ⟨k, heard, rfl, hp, h1, hm, h2, h3, h4⟩
        · rintro ⟨k', heard', hk', hh, h1, hm', h2, h3, h4⟩
          obtain rfl := Option.some.inj hk'
          obtain rfl := Option.some.inj (hp.symm.trans hh)
          obtain rfl := Option.some.inj (hm.symm.trans hm')
          exact ⟨⟨⟨⟨h1, h2⟩, h3⟩, h4⟩, rfl⟩

theorem PortUnit.agrees_junior (hr : l.agree.role = some .junior) (g : Group) : q.Agrees h l g (l.juniorSteps (q.juniorTest h l)) := by
  cases ht : q.juniorTest h l with
  | some g' =>
    have huniq := PortUnit.juniorTest_iff.mp ht
    refine ⟨rfl, fun _ => ⟨fun g'' hg => ?_, fun hn => absurd huniq (hn g')⟩, fun r hr' hne => ?_⟩
    · obtain rfl := Option.some.inj (ht.symm.trans (PortUnit.juniorTest_iff.mpr hg))
      exact ⟨rfl, rfl, rfl⟩
    · exact absurd (Option.some.inj (hr'.symm.trans hr)) hne
  | none =>
    refine ⟨?_, fun _ => ⟨fun g'' hg => (nomatch ht.symm.trans (PortUnit.juniorTest_iff.mpr hg)), fun _ => ?_⟩, fun r hr' hne =>
      absurd (Option.some.inj (hr'.symm.trans hr)) hne⟩
    all_goals
      unfold Link.juniorSteps
      dsimp only
    · split <;> rfl
    · by_cases hu : l.state = .up
      · rw [if_pos hu, if_pos hu]; exact ⟨rfl, rfl, rfl⟩
      · rw [if_neg hu, if_neg hu]; exact ⟨rfl, rfl, rfl⟩

theorem PortUnit.agrees_senior {x : Role} (hr : l.agree.role = some x) (hx : x ≠ .junior) (g : Group) :
    q.Agrees h l g (l.seniorSteps g (q.farProposal h l) (q.farAccept h l)) := by
  refine ⟨rfl, fun c => absurd (Option.some.inj (hr.symm.trans c)) hx, fun r hr' _ => ?_⟩
  obtain rfl := Option.some.inj (hr.symm.trans hr')
  have hadopt : (q.farProposal h l == some g && (q.farAccept h l || l.agree.role == some .self)) = true ↔
      q.farProposal h l = some g ∧ (q.farAccept h l = true ∨ x = .self) := by
    rw [Bool.and_eq_true, Bool.or_eq_true, beq_iff_eq, beq_iff_eq, hr, Option.some.injEq]
  unfold Link.seniorSteps
  dsimp only
  refine ⟨rfl, fun hp hacc => ?_, fun hn => ?_⟩
  · rw [hadopt.mpr ⟨hp, hacc⟩]; exact ⟨rfl, rfl⟩
  · rw [Bool.eq_false_iff.mpr fun c => hn (hadopt.mp c)]
    refine ⟨rfl, ?_⟩
    rw [Bool.false_or, Bool.and_eq_true, beq_iff_eq]

/-- R85 to R87: a run of the protocol in which a group is selected. -/
theorem PortUnit.agrees (hg : q.Selects h l g) (hr : l.agree.role ≠ none) : ∃ k, q.runProtocol h l = some k ∧ q.Agrees h l g k := by
  unfold PortUnit.runProtocol
  rw [PortUnit.selects_iff.mp hg]
  cases hx : l.agree.role with
  | none => exact absurd hx hr
  | some x =>
    cases x with
    | junior => exact ⟨_, rfl, PortUnit.agrees_junior hx g⟩
    | senior => exact ⟨_, rfl, PortUnit.agrees_senior hx nofun g⟩
    | self => exact ⟨_, rfl, PortUnit.agrees_senior hx nofun g⟩

/-- R88: the narrow condition ends the run. -/
theorem PortUnit.runProtocol_narrow (hn : ∀ g, ¬ q.Selects h l g) : q.runProtocol h l = none := by
  unfold PortUnit.runProtocol
  rw [Option.eq_none_iff_forall_ne_some.mpr fun g c => hn g (PortUnit.selects_iff.mpr c)]

/-- R90: the group held after a run at an UP link lies inside the one held before it. -/
theorem PortUnit.Agrees.inside (m : q.Agrees h l g k) (hg : q.Selects h l g) (hs : l.state = .up) (hr : l.agree.role ≠ none)
    (ha : l.agree.active = some a) : ∃ b, k.agree.active = some b ∧ ∀ r, LaneSet.has b.lanes r = true → LaneSet.has a.lanes r = true := by
  obtain ⟨-, hj, hsen⟩ := m
  by_cases hx : l.agree.role = some .junior
  · by_cases ht : ∃ g', q.JuniorTakes h l g'
    · obtain ⟨g', hg'⟩ := ht
      refine ⟨g', ((hj hx).1 g' hg').2.2, ?_⟩
      obtain ⟨_, _, -, -, -, -, -, -, hin⟩ := hg'
      rw [ha] at hin
      exact hin hs
    · obtain ⟨-, -, e⟩ := (hj hx).2 (not_exists.mp ht)
      rw [if_pos hs, ha] at e
      exact ⟨a, e, fun _ => id⟩
  · obtain ⟨x, hx'⟩ := Option.ne_none_iff_exists'.mp hr
    obtain ⟨-, hadopt, hkeep⟩ := hsen x hx' fun c => hx (c ▸ hx')
    by_cases hc : q.farProposal h l = some g ∧ (q.farAccept h l = true ∨ x = .self)
    · exact ⟨g, (hadopt hc.1 hc.2).2, hg.inside hs ha⟩
    · exact ⟨a, (hkeep hc).1.trans ha, fun _ => id⟩

/-! ### The pending regroup (R92) -/

theorem PortUnit.regroupPending_junior (hr : l.agree.role = some .junior) : q.regroupPending h l = true ↔
    l.agree.accept = false ∨ q.farAccept h l = false ∨ q.farProposal h l ≠ l.agree.active := by
  unfold PortUnit.regroupPending
  rw [hr]
  dsimp only
  rw [Bool.or_eq_true, Bool.or_eq_true, Bool.not_eq_true', Bool.not_eq_true', bne_iff_ne, or_assoc]

theorem PortUnit.regroupPending_senior (hr : l.agree.role = some .senior ∨ l.agree.role = some .self) :
    q.regroupPending h l = true ↔ l.agree.proposal = none ∨ l.agree.proposal ≠ l.agree.active := by
  have hb : (l.agree.proposal.isNone || l.agree.proposal != l.agree.active) = true ↔
      l.agree.proposal = none ∨ l.agree.proposal ≠ l.agree.active := by
    rw [Bool.or_eq_true, Option.isNone_iff_eq_none, bne_iff_ne]
  unfold PortUnit.regroupPending
  rcases hr with e | e <;> rw [e] <;> exact hb

/-- R92: what is pending reads the agreement and the observations alone. -/
theorem PortUnit.regroupPending_congr (hrole : k.agree.role = l.agree.role) (hacc : k.agree.accept = l.agree.accept)
    (hprop : k.agree.proposal = l.agree.proposal) (hact : k.agree.active = l.agree.active)
    (hfar : q.farProposal h k = q.farProposal h l ∧ q.farAccept h k = q.farAccept h l) :
    q.regroupPending h k = q.regroupPending h l := by
  unfold PortUnit.regroupPending
  rw [hrole, hacc, hprop, hact, hfar.1, hfar.2]
end

end Sys2Proof.Machine

/-! SUPPORT and PROOF. The end of ALIGN: entry to UP, or a counted failure (R88, R116, R117, R122, R127). -/

namespace Sys2Proof.Machine

open Sys2Proof

section
variable {s t : State} {p : Port} {h : Half} {l k : Link} {g : Group}

/-! ### The score and the regroup fields of a link -/

/-- R127: the link record with its score set. -/
def Link.scored (l : Link) (w n : Nat) : Link := { l with sup := { l.sup with score := n, level := some (levelOf w n) } }

theorem State.setScore_of_link (hl : s.link p h = some l) (n : Nat) : s.setScore p h n =
    if healthNotice (l.sup.level.getD .good) (levelOf s.timing.warning n) then
      (s.setLink p h (some (l.scored s.timing.warning n))).postLink p h
        (.health (l.sup.level.getD .good) (levelOf s.timing.warning n) n)
    else s.setLink p h (some (l.scored s.timing.warning n)) := by
  rw [State.setScore, State.withLink_of_link hl]
  dsimp only
  rw [State.modLink_eq_setLink hl]
  rfl

theorem State.port_setScore (hl : s.link p h = some l) (n : Nat) :
    (s.setScore p h n).port p = (s.setLink p h (some (l.scored s.timing.warning n))).port p := by
  rw [State.setScore_of_link hl]
  split
  · exact State.port_postLink ..
  · rfl

theorem State.does_setScore (hl : s.link p h = some l) (n : Nat) : s.Does (s.setScore p h n) p h [] none
    (if healthNotice (l.sup.level.getD .good) (levelOf s.timing.warning n) then
      [.health (l.sup.level.getD .good) (levelOf s.timing.warning n) n] else []) := by
  have a := (State.movesOn_setLink (k := l.scored s.timing.warning n) hl rfl).does
  rw [State.setScore_of_link hl]
  split
  · exact a.postLink _
  · exact a

/-- R92: the link record with its regroup fields as a pending regroup, or none, makes them. -/
def Link.inRegroup (l : Link) (pending : Bool) (now : Uptime) (timeout : Nat) : Link :=
  { l with agree := { l.agree with
    regroupStart := if pending then some (l.agree.regroupStart.getD now) else none
    regroupTimer := if pending then (if l.agree.regroupStart.isSome then l.agree.regroupTimer else some ⟨now, timeout⟩)
      else none } }

theorem State.updateRegroup_of_link (hl : s.link p h = some l) : s.updateRegroup p h =
    s.setLink p h (some (l.inRegroup ((s.port p).regroupPending h l) s.uptime s.timing.timeout)) := by
  rw [State.updateRegroup, State.modLink_eq_setLink hl]
  refine congrArg (fun x => s.setLink p h (some x)) ?_
  unfold Link.inRegroup
  cases (s.port p).regroupPending h l
  · rfl
  · dsimp only
    cases hs : l.agree.regroupStart with
    | none => rfl
    | some x =>
      show l = { l with agree := { l.agree with regroupStart := some x, regroupTimer := l.agree.regroupTimer } }
      rw [← hs]

theorem State.regroupOf_inRegroup {b : Bool} (hb : (s.port p).regroupPending h k = b) (l' : Link)
    (h1 : l'.agree.regroupStart = l.agree.regroupStart) (h2 : l'.agree.regroupTimer = l.agree.regroupTimer) :
    s.RegroupOf p h l k (l'.inRegroup b s.uptime s.timing.timeout) := by
  unfold State.RegroupOf Link.inRegroup
  rw [hb, h1, h2]
  refine ⟨fun e => ?_, fun e hn => ?_, fun e hs => ?_⟩ <;> rw [e]
  · exact ⟨rfl, rfl⟩
  · rw [hn]; exact ⟨rfl, rfl⟩
  · obtain ⟨x, hx⟩ := Option.isSome_iff_exists.mp hs
    rw [hx]; exact ⟨rfl, rfl⟩

/-! ### Entry to UP -/

/-- R116: the test for the entry. -/
theorem PortUnit.alignDone_iff {q : PortUnit} : q.alignDone h l = true ↔ q.Ready h l := by
  unfold PortUnit.alignDone PortUnit.Ready
  rw [Bool.and_eq_true, Bool.and_eq_true, Bool.or_eq_true, bne_iff_ne, and_assoc]
  refine and_congr_right fun _ => and_congr_right fun _ => ?_
  cases q.reference h l with
  | none => exact ⟨fun c e => (c.elim (fun d => (d e).elim) (fun d => nomatch d)), fun c => .inl fun e => (nomatch c e)⟩
  | some k =>
    rw [beq_iff_eq, ← imp_iff_not_or]
    exact imp_congr_right fun _ => ⟨fun e => ⟨k, rfl, e⟩, fun ⟨_, e, hp⟩ => Option.some.inj e ▸ hp⟩

/-- R122: the context of the position after the adoption. -/
theorem State.does_storeContext (s : State) (p : Port) (h : Half) (far : Option FarId) (g : Group) :
    s.Does (s.storeContext p h far g) p h [] none [] ∧ (s.storeContext p h far g).link p h = s.link p h ∧
      (∀ i, ((s.storeContext p h far g).port p).lane i = (s.port p).lane i) ∧
      ∀ f, far = some f → ((s.storeContext p h far g).pos p h).context = some ((s.port p).contextOf h f g) := by
  cases far with
  | none => exact ⟨.refl s p h, rfl, fun _ => rfl, nofun⟩
  | some f =>
    refine ⟨State.does_modPos (f := fun x => { x with context := some ((s.port p).contextOf h f g) }) id rfl, ?_, fun i => State.lane_modPos .., fun f' e => ?_⟩
    · rw [State.storeContext, State.link_modPos, if_pos ⟨rfl, rfl⟩]; rfl
    · obtain rfl := Option.some.inj e
      rw [State.storeContext, State.pos_modPos, if_pos ⟨rfl, rfl⟩]

/-- R117, R122: the part and the link `l` it holds as it enters UP, before its level and its regroup fields. -/
theorem State.does_entersUp (hl : s.link p h = some l) (hs : l.state = .training) (rt : Option Timer) :
    ∀ t, t = (((s.modPort p fun q => q.applyGroup h g.lanes l.align.skew).storeContext p h l.far g).moveLink p h (some l)
        (some (l.toUp rt)) .trained .trained).postLink p h (.linkUp g l.map) →
    s.Does t p h [s.moved h (some .training) (some .up) .trained] none [.linkUp g l.map] ∧
      t.link p h = some (l.toUp rt) ∧
      (∀ i, (s.port p).ofHalf h i = true → ((t.port p).lane i).active = LaneSet.has g.lanes (relLane h i) ∧
        ((t.port p).lane i).delay = deskewDelay l.align.skew g.lanes (relLane h i)) ∧
      ∀ f, l.far = some f → (t.pos p h).context = some ((s.port p).contextOf h f g) := by
  intro t ht
  have a := State.does_applyGroup s p h g.lanes l.align.skew
  have ha := fun i hi => State.lane_applyGroup s p h g.lanes l.align.skew (i := i) hi
  have hpre : ∀ f, ((s.modPort p fun q => q.applyGroup h g.lanes l.align.skew).port p).contextOf h f g =
      (s.port p).contextOf h f g := fun f => by
    rw [State.port_modPort_self]
    unfold PortUnit.contextOf PortUnit.applyGroup PortUnit.rel
    refine congrArg (fun v => (⟨f, g, laneVector v⟩ : Context)) (funext fun r => ?_)
    rw [PortUnit.lane_mapHalf]
    by_cases hh : (s.port p).ofHalf h (physLane h r) = true
    · rw [if_pos hh]
    · rw [if_neg hh]
  have hl1 : (s.modPort p fun q => q.applyGroup h g.lanes l.align.skew).link p h = some l := by
    rw [State.link_applyGroup, hl]
  generalize s.modPort p (fun q => q.applyGroup h g.lanes l.align.skew) = s1 at *
  obtain ⟨b, hl2, hlane, hctx⟩ := State.does_storeContext s1 p h l.far g
  generalize s1.storeContext p h l.far g = s2 at *
  have hk : (l.toUp rt).state = .up := rfl
  generalize l.toUp rt = k at *
  have hl2' : s2.link p h = some l := hl2.trans hl1
  have m := State.does_move_link (k := k) hl2' (by simp [hs, hk]) .trained .trained
  rw [s2.snapOf_quiet p h .trained (by simp [hs]) (by simp [hk]) (by simp [hk]), hs, hk] at m
  have ab := a.quietly b (by rw [hl2]) (.inl rfl)
  have abm := (ab.andThen m (by rw [hl2', hl])).postLink (.linkUp g l.map)
  rw [State.moved_congr ab.uptime, ← ht] at abm
  refine ⟨abm, ht ▸ State.link_movePosted .., fun i hi => ?_, fun f hf => ?_⟩
  · have : (t.port p).lane i = (s1.port p).lane i := by
      rw [ht, State.postLink, State.port_post, State.lane_moveLink, if_neg (by simp [leavesUp, hs])]
      exact hlane i
    rw [this]
    exact ha i hi
  · rw [ht, State.pos, State.port_postLink, ← State.pos, State.pos_moveLink]
    exact (hctx f hf).trans (congrArg some (hpre f))

/-- R117: the link of `s`, in ALIGN, becomes `l` and enters UP. -/
theorem State.comesUp_enterUp (hl0 : s.link p h = some k) (hk : k.state = .training) (hs : l.state = .training)
    (hg : l.agree.active = some g) : s.ComesUp ((s.setLink p h (some l)).enterUp p h) p h l g := by
  have m := State.movesOn_setLink hl0 (hs.trans hk.symm)
  have hl := m.link
  obtain ⟨a', hlt, hlane', hctx'⟩ := State.does_entersUp (g := g) hl hs s.recheckTimer _ rfl
  have hport : ∀ i, ((s.setLink p h (some l)).port p).lane i = (s.port p).lane i := fun i => State.lane_modPos ..
  have hctx : ∀ f, ((s.setLink p h (some l)).port p).contextOf h f g = (s.port p).contextOf h f g := fun f => by
    unfold PortUnit.contextOf PortUnit.rel
    simp only [hport]
  have hlane := fun i hi => hlane' i ((PortUnit.ofHalf_of_bare (State.bare_port m.does.bare p) h i).trans hi)
  simp only [hctx] at hctx'
  have a := m.does.andThen a' (by rw [hl, hl0]; exact congrArg LinkState.holding (hs.trans hk.symm))
  rw [State.enterUp, State.withLink_of_link hl, hg]
  dsimp only
  rw [show (s.setLink p h (some l)).recheckTimer = s.recheckTimer from rfl]
  generalize State.postLink _ p h (.linkUp g l.map) = t at *
  have ht : t.timing = s.timing := (congrArg (fun x : State => x.timing) a.bare :)
  have b := State.does_setScore hlt l.sup.score
  have hp := State.port_setScore hlt l.sup.score
  have hlu : (t.setScore p h l.sup.score).link p h = some ((l.toUp s.recheckTimer).scored t.timing.warning l.sup.score) :=
    State.link_setScore hlt l.sup.score
  generalize t.setScore p h l.sup.score = u at *
  have hu : u.timing = s.timing := (congrArg (fun x : State => x.timing) b.bare :).trans ht
  rw [ht] at b hp hlu
  have c := State.movesOn_setLink hlu (k := ((l.toUp s.recheckTimer).scored s.timing.warning l.sup.score).inRegroup
    ((s.port p).regroupPending h l) s.uptime s.timing.timeout) rfl
  have hpend : (u.port p).regroupPending h ((l.toUp s.recheckTimer).scored s.timing.warning l.sup.score) =
      (s.port p).regroupPending h l :=
    State.view_of_bare (f := fun q => q.regroupPending h l) (fun q => q.regroupPending_bare h l) (b.bare.trans a.bare) p
  rw [State.updateRegroup_of_link hlu, show (u.port p).regroupPending h _ = _ from hpend, hu, b.uptime, a.uptime]
  have d := (a.quietly b (by rw [hlu, hlt]; rfl) (.inl rfl)).quietly c.does (by rw [c.link, hlu]; rfl) (.inl rfl)
  refine ⟨⟨_, c.link, rfl, rfl, rfl, rfl, hg, rfl, rfl, rfl, rfl, rfl, ?_, rfl, rfl, rfl, rfl, rfl, rfl, rfl,
    State.regroupOf_inRegroup rfl _ rfl rfl⟩, fun i hi => ?_, 
    fun f hf => ⟨(s.port p).contextOf h f g, ?_, rfl, rfl, fun r => ?_⟩, ?_, d.acts⟩
  · show s.recheckTimer = _
    unfold State.recheckTimer State.timer
    cases s.timing.recheck <;> rfl
  · rw [(c.lanes i).1, (c.lanes i).2, hp, State.setLink, State.lane_modPos]
    exact hlane i hi
  · rw [c.context, State.pos, hp, ← State.pos, State.setLink, State.pos_modPos, if_pos ⟨rfl, rfl⟩]
    exact hctx' f hf
  · exact laneVector_getElem _ r
  · rw [d.queue]
    show (s.filed p h (_ ++ ite (healthNotice (l.sup.level.getD .good) _ = true) _ _ ++ _)).queue = _
    split <;> rfl

/-! ### The run -/

/-- R116: the test for the entry to UP at the link `k`. -/
theorem State.aligns_test (hl : s.link p h = some l) (hs : l.state = .training) (hk : k.state = .training) :
    s.Aligns ((s.setLink p h (some k)).alignTest p h) p h k := by
  have hb := (State.movesOn_setLink hl (hk.trans hs.symm)).does.bare
  have hlk : (s.setLink p h (some k)).link p h = some k := State.link_setLink_self ..
  rw [State.alignTest, State.withLink_of_link hlk,
    State.view_of_bare (f := fun q => q.alignDone h k) (fun q => q.alignDone_bare h k) hb]
  refine ⟨fun g hr hg => ?_, fun hn => ?_⟩
  · rw [if_pos (PortUnit.alignDone_iff.mpr hr)]
    exact State.comesUp_enterUp hl hs hk hg
  · rw [if_neg fun c => hn (PortUnit.alignDone_iff.mp c)]
end

/-- Settles O49. -/
theorem alignReachesUp : Obligations.AlignReachesUp := by
  intro p h s t l hl hs _ hrole
  refine ⟨fun ht => ⟨fun hn => ?_, fun g hg => ?_⟩, fun ht => ?_⟩
  · rw [ht, State.alignRun, State.withLink_of_link hl, PortUnit.runProtocol_narrow hn]
    exact State.fails_countFailure hl hs .tooNarrow
  · obtain ⟨k, hk, hag⟩ := PortUnit.agrees hg hrole
    rw [ht, State.alignRun, State.withLink_of_link hl, hk]
    exact ⟨k, hag, State.aligns_test hl hs ((PortUnit.runProtocol_state hk).trans hs)⟩
  · have a := State.aligns_test hl hs hs
    rwa [State.setLink_self hl, ← ht] at a

end Sys2Proof.Machine

/-! SUPPORT and PROOF. A run of the protocol at an UP link (R85 to R92, R100, R129). -/

namespace Sys2Proof.Machine

open Sys2Proof

set_option Elab.async false

section
variable {s t : State} {p : Port} {h : Half} {l k k' : Link} {a b g : Group}

/-! ### What is done within an event -/

theorem State.ActsAt.after {own : List HistEntry} {cap : Option SnapRecord} (m : s.event.ActsAt t p h own cap) :
    s.ActsAt (s.after t) p h own cap := by
  obtain ⟨⟨hb, hpos, hl, hh⟩, hp, ha, hs⟩ := m
  exact ⟨⟨congrArg (fun t : State => { t with eventLoss := s.eventLoss }) hb, hpos, hl, hh⟩, hp, ha, hs⟩

theorem State.sameFile_event (s : State) : s.SameFile s.event := ⟨rfl, rfl, rfl, rfl, rfl⟩

theorem State.GoesDown.after {reason : Reason} (m : s.event.GoesDown t p h l reason) :
    s.GoesDown (s.after t) p h l reason := by
  obtain ⟨hk, hr, hq, ha⟩ := m
  exact ⟨hk, hr, hq.trans (s.sameFile_event.post _ _ _).queue, ha.after⟩

/-! ### The run -/

/-- R90 to R92, R100: from `s` to `t` the UP link `l`, which held the group `a`, has run the protocol to `k`, which holds
`b`, and has become `k'`. -/
structure State.Regroups (s t : State) (p : Port) (h : Half) (l k : Link) (a b : Group) (k' : Link) : Prop where
  does : s.Does t p h [] none (if b = a then [] else [.widthChange b (l.agree.shed ||| (a.lanes &&& ~~~ b.lanes))])
  link : t.link p h = some k'
  record : k' = (if b = a then k else k.shedTo a b).inRegroup ((s.port p).regroupPending h k) s.uptime s.timing.timeout
  same : b = a → (t.port p).lanes = (s.port p).lanes
  applied : b ≠ a → ∀ i, (s.port p).ofHalf h i = true →
    ((t.port p).lane i).active = LaneSet.has b.lanes (relLane h i) ∧
    ((t.port p).lane i).delay = deskewDelay l.align.skew b.lanes (relLane h i)

theorem State.Regroups.after (m : s.event.Regroups t p h l k a b k') : s.Regroups (s.after t) p h l k a b k' :=
  ⟨m.does.after, m.link, m.record, m.same, m.applied⟩

/-- R90: the adoption of another group while UP. -/
theorem State.does_adoptUp (hl : s.link p h = some l) (hk : k.state = l.state) :
    s.Does (s.adoptUp p h k a b) p h [] none [.widthChange b (k.agree.shed ||| (a.lanes &&& ~~~ b.lanes))] ∧
      (s.adoptUp p h k a b).link p h = some (k.shedTo a b) ∧
      ∀ i, (s.port p).ofHalf h i = true →
        (((s.adoptUp p h k a b).port p).lane i).active = LaneSet.has b.lanes (relLane h i) ∧
        (((s.adoptUp p h k a b).port p).lane i).delay = deskewDelay k.align.skew b.lanes (relLane h i) := by
  have m := State.movesOn_setLink (k := k.shedTo a b) hl hk
  unfold State.adoptUp
  generalize s.setLink p h (some (k.shedTo a b)) = u at *
  refine ⟨(m.does.quietly (State.does_applyGroup ..) (by rw [State.link_applyGroup]) (.inl rfl)).postLink _, ?_,
    fun i hi => ?_⟩
  · rw [State.link_postLink, State.link_applyGroup, m.link]
  · rw [State.port_postLink]
    exact State.lane_applyGroup u p h _ _ ((PortUnit.ofHalf_of_bare (State.bare_port m.does.bare p) h i).trans hi)

/-- R90 to R92: a run that is not narrow. -/
theorem State.regroups_upRun (hl : s.link p h = some l) (hk : k.state = l.state) (hrun : (s.port p).runProtocol h l = some k)
    (ha : l.agree.active = some a) (hb : k.agree.active = some b) (hshed : k.agree.shed = l.agree.shed)
    (hskew : k.align.skew = l.align.skew) (reason : Reason) : ∃ k', s.Regroups (s.upRun p h reason) p h l k a b k' := by
  rw [State.upRun_of_link hl, hrun]
  dsimp only
  have hpend (k1 : Link) (e : (s.port p).regroupPending h k1 = (s.port p).regroupPending h k) (u : State)
      (hu : u.bare = s.bare) : (u.port p).regroupPending h k1 = (s.port p).regroupPending h k :=
    (State.view_of_bare (f := fun q => q.regroupPending h k1) (fun q => q.regroupPending_bare h k1) hu p).trans e
  unfold State.regroup
  rw [ha, hb]
  dsimp only
  by_cases e : b = a
  · rw [if_pos e.symm]
    have m := State.movesOn_setLink hl hk
    rw [State.updateRegroup_of_link m.link, hpend k rfl _ m.does.bare, State.setLink_setLink]
    have m' := State.movesOn_setLink (k := k.inRegroup ((s.port p).regroupPending h k) s.uptime s.timing.timeout) hl hk
    refine ⟨_, by rw [if_pos e]; exact m'.does, m'.link, by rw [if_pos e], fun _ => ?_, fun c => absurd e c⟩
    rw [State.setLink, State.modPos, State.port_modPort_self]
    cases h <;> rfl
  · rw [if_neg fun c => e c.symm]
    obtain ⟨m, hlu, hlane⟩ := State.does_adoptUp (a := a) (b := b) hl hk
    generalize s.adoptUp p h k a b = u at *
    rw [State.updateRegroup_of_link hlu, hpend (k.shedTo a b) rfl u m.bare, m.uptime,
      show u.timing = s.timing from (congrArg (fun x : State => x.timing) m.bare :)]
    have m' := State.movesOn_setLink (k := (k.shedTo a b).inRegroup ((s.port p).regroupPending h k) s.uptime s.timing.timeout)
      hlu rfl
    refine ⟨_, ?_, m'.link, by rw [if_neg e], fun c => absurd c e, fun _ i hi => ?_⟩
    · rw [if_neg e, ← hshed]
      exact m.quietly m'.does (by rw [m'.link, hlu]; rfl) (.inl rfl)
    · rw [(m'.lanes i).1, (m'.lanes i).2, ← hskew]
      exact hlane i hi

theorem State.recheckTest_down (hl : s.link p h = some l) (hs : l.state ≠ .up) : s.recheckTest p h = s := by
  rw [State.recheckTest, State.withLink_of_link hl, if_neg fun c => hs c.1]

theorem PortUnit.Agrees.kept {q : PortUnit} (m : q.Agrees h l g k) : k.state = l.state ∧ k.agree.shed = l.agree.shed ∧
    k.align = l.align ∧ k.agree.regroupStart = l.agree.regroupStart ∧ k.agree.regroupTimer = l.agree.regroupTimer := by
  rw [m.1]
  exact ⟨rfl, rfl, rfl, rfl, rfl⟩

/-- R88, R129: a narrow run takes the link down; the other kind is `State.regroups_upRun`. -/
theorem State.upRun_outcome (hl : s.link p h = some l) (hs : l.state = .up) (hr : l.agree.role ≠ none)
    (ha : l.agree.active = some a) (reason : Reason) :
    ((∀ g, ¬ (s.port p).Selects h l g) → s.GoesDown (s.upRun p h reason) p h l reason) ∧
    ∀ g, (s.port p).Selects h l g → ∃ k b k', (s.port p).Agrees h l g k ∧ k.agree.active = some b ∧
      (∀ r, LaneSet.has b.lanes r = true → LaneSet.has a.lanes r = true) ∧
      s.Regroups (s.upRun p h reason) p h l k a b k' := by
  refine ⟨fun hn => ?_, fun g hg => ?_⟩
  · rw [State.upRun_of_link hl, PortUnit.runProtocol_narrow hn]
    exact State.goesDown_loseLanes hl hs reason
  · obtain ⟨k, hk, m⟩ := PortUnit.agrees hg hr
    obtain ⟨b, hb, hin⟩ := m.inside hg hs hr ha
    obtain ⟨h1, h2, h3, -⟩ := m.kept
    obtain ⟨k', m'⟩ := State.regroups_upRun hl h1 hk ha hb h2 (by rw [h3]) reason
    exact ⟨k, b, k', m, hb, hin, m'⟩

/-- R89: where no recheck is in flight, the protocol at an UP link is its run. -/
theorem State.upProtocol_idle (hl : s.link p h = some l) (hs : l.state = .up) (hr : l.agree.role ≠ none)
    (ha : l.agree.active = some a) (hi : l.align.recheckState = .idle) :
    s.upProtocol p h = s.after (s.event.upRun p h .laneLoss) := by
  obtain ⟨h1, h2⟩ := State.upRun_outcome (s := s.event) hl hs hr ha .laneLoss
  refine congrArg s.after ?_
  by_cases hg : ∃ g, (s.port p).Selects h l g
  · obtain ⟨g, hg⟩ := hg
    obtain ⟨k, b, k', m, -, -, m'⟩ := h2 g hg
    refine State.recheckTest_idle m'.link ?_
    rw [m'.record, ← hi, ← m.kept.2.2.1]
    split <;> rfl
  · obtain ⟨⟨k, hk, hks, -⟩, -⟩ := h1 (not_exists.mp hg)
    exact State.recheckTest_down hk (by rw [hks]; exact nofun)
end

/-- Settles O50. -/
theorem upGroupIsRegrouped : Obligations.UpGroupIsRegrouped := by
  refine ⟨fun q h l => ⟨PortUnit.regroupPending_junior, PortUnit.regroupPending_senior⟩, fun p h s => rfl,
    fun p h s t l a reason hl hs hr ha ht => ?_⟩
  have hout : ((∀ g, ¬ (s.port p).Selects h l g) → s.GoesDown t p h l reason) ∧
      ∀ g, (s.port p).Selects h l g → ∃ k b k', (s.port p).Agrees h l g k ∧ k.agree.active = some b ∧
        (∀ r, LaneSet.has b.lanes r = true → LaneSet.has a.lanes r = true) ∧ s.Regroups t p h l k a b k' := by
    rcases ht with rfl | ⟨rfl, hi, rfl⟩
    · exact State.upRun_outcome hl hs hr ha reason
    · rw [State.upProtocol_idle hl hs hr ha hi]
      obtain ⟨h1, h2⟩ := State.upRun_outcome (s := s.event) hl hs hr ha .laneLoss
      refine ⟨fun hn => (h1 hn).after, fun g hg => ?_⟩
      obtain ⟨k, b, k', m, hb, hin, m'⟩ := h2 g hg
      exact ⟨k, b, k', m, hb, hin, m'.after⟩
  refine ⟨hout.1, fun g hg => ?_⟩
  obtain ⟨k, b, k', m, hb, hin, m'⟩ := hout.2 g hg
  obtain ⟨h1, h2, h3, h4, h5⟩ := m.kept
  have hrec := m'.record
  have hq := m'.does.queue
  refine ⟨k, k', b, m, m'.link, ?_, ?_, m'.does.acts, hb, hin, fun e => ?_, fun e => ?_⟩
  · rw [hrec]; split <;> rfl
  · rw [hrec]
    split
    · exact State.regroupOf_inRegroup rfl _ h4 h5
    · exact State.regroupOf_inRegroup rfl _ h4 h5
  · rw [if_pos e] at hrec hq
    exact ⟨hrec ▸ h2, by rw [hrec, ← h3]; rfl, hq, m'.same e⟩
  · rw [if_neg e] at hrec hq
    have hshed : k'.agree.shed = l.agree.shed ||| (a.lanes &&& ~~~ b.lanes) := by rw [hrec, ← h2]; rfl
    exact ⟨hshed, by rw [hrec, ← h3]; rfl, m'.applied e, by rw [hshed]; exact hq⟩

end Sys2Proof.Machine

/-! SUPPORT and PROOF. The health score: a judged interval, and the isolation at 255 (R126, R127, R133, R135). -/

namespace Sys2Proof.Machine

open Sys2Proof

/-! ### A report of violations -/

section
variable {s t u : State} {p : Port} {h h' : Half} {l k : Link} {counts : Vector Nat 8}

/-- R72: a link that does not wait is not released. -/
theorem State.OthersKept.pos (m : s.OthersKept t p h') (hne : h ≠ h') (hl : s.link p h = some l) (hs : l.state ≠ .blocked) :
    t.pos p h = s.pos p h := by
  rcases m.positions p h fun c => hne c.2 with e | ⟨l', hl', hb, -⟩
  · exact e
  · exact absurd hb (Option.some.inj (hl.symm.trans hl') ▸ hs)

theorem State.OthersKept.lane (m : s.OthersKept t p h') (hne : h ≠ h') {i : Lane} (hi : (s.port p).ofHalf h i = true) :
    (t.port p).lane i = (s.port p).lane i := by
  refine m.lanes p i fun c => hne ?_
  have h1 := (Bool.and_eq_true ..).mp hi
  have h2 := (Bool.and_eq_true ..).mp c.2
  exact (beq_iff_eq.mp h1.2).symm.trans (beq_iff_eq.mp h2.2)

theorem State.judgeInterval_idle (hn : ∀ l, s.link p h = some l → l.state ≠ .up) : s.judgeInterval p h counts = s := by
  cases hl : s.link p h with
  | none => rw [State.judgeInterval, State.withLink_of_none hl]
  | some l => rw [State.judgeInterval, State.withLink_of_link hl, if_pos (hn l hl)]

theorem State.OthersKept.not_up (m : s.OthersKept t p h') (hne : h ≠ h') (hn : ∀ l, s.link p h = some l → l.state ≠ .up) :
    ∀ l, t.link p h = some l → l.state ≠ .up := fun l hl => by
  rcases m.positions p h fun c => hne c.2 with e | ⟨l', -, -, -, e⟩
  · exact hn l (by rw [State.link, ← e]; exact hl)
  · rw [State.link, e] at hl
    obtain rfl := Option.some.inj hl
    exact nofun

/-- R126: a report is judged at the link of each half; what the other half's link does leaves this one alone, and is
nothing where that link is not UP. -/
theorem State.exec_violations (s : State) (p : Port) (h : Half) (counts : Vector Nat 8) : ∃ (h' : Half) (u t : State),
    h ≠ h' ∧ exec (.violations p counts) s = .next t ∧ s.OthersKept u p h' ∧ (u.judgeInterval p h counts).OthersKept t p h' ∧
      ((∀ h' l', h' ≠ h → s.link p h' = some l' → l'.state ≠ .up) → u = s ∧ t = u.judgeInterval p h counts) := by
  cases h with
  | A =>
    refine ⟨.B, s, _, nofun, rfl, .refl s p .B, State.others_judgeInterval _ p .B counts, fun hn => ⟨rfl, ?_⟩⟩
    exact State.judgeInterval_idle ((s.others_judgeInterval p .A counts).not_up nofun fun l => hn .B l nofun)
  | B =>
    refine ⟨.A, s.judgeInterval p .A counts, _, nofun, rfl, s.others_judgeInterval p .A counts, .refl _ p .A, fun hn => ⟨?_, rfl⟩⟩
    exact State.judgeInterval_idle fun l => hn .A l nofun

/-! ### A judged interval -/

/-- R126: the sum of the violations reported of the active lanes. -/
def Link.violationSum (l : Link) (h : Half) (counts : Vector Nat 8) : Nat :=
  ((LaneSet.members (groupLanes l.agree.active)).map fun r => counts[physLane h r]).sum

/-- R126: the interval is dirty. -/
def Link.Dirty (l : Link) (h : Half) (counts : Vector Nat 8) : Prop :=
  ∃ r ∈ LaneSet.members (groupLanes l.agree.active), 0 < counts[physLane h r]

theorem Link.dirty_iff : ((activeCounts h (groupLanes l.agree.active) counts).any fun c => decide (0 < c)) = true ↔
    l.Dirty h counts := by
  unfold activeCounts Link.Dirty
  rw [List.any_map, List.any_eq_true]
  exact exists_congr fun r => and_congr_right fun _ => decide_eq_true_iff

/-- R126: the link record with the violations of an interval counted. -/
def Link.counted (l : Link) (h : Half) (counts : Vector Nat 8) : Link :=
  { l with sup := { l.sup with violations := min 4294967295 (l.sup.violations + l.violationSum h counts) } }

theorem State.judgeInterval_dirty (hl : s.link p h = some l) (hs : l.state = .up) (hj : l.sup.judging = true)
    (hd : l.Dirty h counts) : s.judgeInterval p h counts =
      (s.setLink p h (some (l.counted h counts))).scoreTo p h (min 255 (l.sup.score + 8)) := by
  rw [State.judgeInterval, State.withLink_of_link hl, if_neg (not_not_intro hs), hj]
  dsimp only
  rw [if_neg nofun, if_pos (Link.dirty_iff.mpr hd), State.modLink_eq_setLink hl]
  rfl

theorem State.judgeInterval_clean (hl : s.link p h = some l) (hs : l.state = .up) (hj : l.sup.judging = true)
    (hd : ¬ l.Dirty h counts) : s.judgeInterval p h counts =
      (s.setLink p h (some (l.counted h counts))).scoreTo p h (l.sup.score - 1) := by
  rw [State.judgeInterval, State.withLink_of_link hl, if_neg (not_not_intro hs), hj]
  dsimp only
  rw [if_neg nofun, if_neg fun c => hd (Link.dirty_iff.mp c), State.modLink_eq_setLink hl]
  rfl

theorem healthNotice_iff (old new : HealthLevel) :
    healthNotice old new = true ↔ old.rank < new.rank ∨ (new = .good ∧ old ≠ .good) := by
  rw [healthNotice, Bool.or_eq_true, Bool.and_eq_true, decide_eq_true_iff, beq_iff_eq, bne_iff_ne]

/-- R127: the score of the link record `l`, whose level is `old`, set below 255. -/
theorem State.scoreTo_below (s : State) (p : Port) (h : Half) {old : HealthLevel} (ho : l.sup.level = some old) {n : Nat}
    (hn : n < 255) : (s.setLink p h (some l)).scoreTo p h n =
      if old.rank < (levelOf s.timing.warning n).rank ∨ (levelOf s.timing.warning n = .good ∧ old ≠ .good) then
        (s.setLink p h (some (l.scored s.timing.warning n))).postLink p h (.health old (levelOf s.timing.warning n) n)
      else s.setLink p h (some (l.scored s.timing.warning n)) := by
  rw [State.scoreTo, if_neg (Nat.not_le.mpr hn), State.setScore_of_link (State.link_setLink_self ..), ho, State.setLink_setLink]
  exact ite_congr (propext (healthNotice_iff ..)) (fun _ => rfl) fun _ => rfl
end

/-- Settles O40. -/
theorem intervalMovesScore : Obligations.IntervalMovesScore := by
  intro p h counts s l k old new score hl hs ho
  obtain ⟨h', u, t, hne, ht, hu, hv, hquiet⟩ := s.exec_violations p h counts
  have hul : u.link p h = some l := (congrArg Position.link (hu.pos hne hl (by rw [hs]; nofun))).trans hl
  have htl (k : Link) (hk : (u.judgeInterval p h counts).link p h = some k) (hks : k.state = .up) : t.link p h = some k :=
    (congrArg Position.link (hv.pos hne hk (by rw [hks]; nofun))).trans hk
  refine ⟨fun hj hk => ⟨t, ht, ?_⟩, fun hj hscore hlt hnew hk => ⟨t, ht, ?_⟩⟩
  · have e : u.judgeInterval p h counts = u.setLink p h (some k) := by
      rw [State.judgeInterval, State.withLink_of_link hul, if_neg (not_not_intro hs), hj, State.modLink_eq_setLink hul, hk]
      rfl
    refine ⟨htl k (by rw [e, State.link_setLink_self]) (by rw [hk]; exact hs), fun hn => ?_⟩
    obtain ⟨rfl, h2⟩ := hquiet hn
    rw [h2, e]
  · have e : u.judgeInterval p h counts = (u.setLink p h (some (l.counted h counts))).scoreTo p h score := by
      by_cases hd : l.Dirty h counts
      · rw [show score = l.sup.score + 8 from hscore.trans (if_pos hd)] at hlt ⊢
        rw [State.judgeInterval_dirty hul hs hj hd, Nat.min_eq_right (Nat.le_of_lt hlt)]
      · rw [show score = l.sup.score - 1 from hscore.trans (if_neg hd), State.judgeInterval_clean hul hs hj hd]
    have htiming : u.timing = s.timing := (congrArg (fun x : State => x.timing) hu.bare :)
    have hk' : (l.counted h counts).scored s.timing.warning score = k := by rw [hk, hnew]; rfl
    rw [State.scoreTo_below (l := l.counted h counts) u p h ho hlt, htiming, hk', show levelOf s.timing.warning score = new from hnew.symm] at e
    refine ⟨htl k ?_ (by rw [hk]; exact hs), fun hn => ?_⟩
    · rw [e]
      split
      · rw [State.link_postLink, State.link_setLink_self]
      · exact State.link_setLink_self ..
    · obtain ⟨rfl, h2⟩ := hquiet hn
      rw [h2, e]

end Sys2Proof.Machine

/-! SUPPORT and PROOF. The isolation at score 255 (R133, R135). -/

namespace Sys2Proof.Machine

open Sys2Proof

section
variable {s t u : State} {p : Port} {h : Half} {l k : Link}

/-- R133, R135: from `s` to `t` the UP link `l` has been isolated by its score, as `k`. -/
structure State.HealthIsolates (s t : State) (p : Port) (h : Half) (l k : Link) : Prop where
  does : s.Does t p h [s.moved h (some .up) (some .isolated) .health] (some (s.upRecord p h l .health 255 l.far))
    [.linkDown .health .up (groupWidth l.agree.active), .isolated .health 127]
  link : t.link p h = some k
  record : ∃ x, k = ({ l with sup := x } : Link).toIsolated s.uptime (groupLanes l.agree.active ||| (s.port p).usable h l)
    .health 127
  released : t.Released p h (s.port p)

/-- R133: the score of the link, held with the supervision fields `x`, has reached 255. -/
theorem State.healthIsolates (hl : s.link p h = some l) (hs : l.state = .up) (x : Supervision) :
    ∃ k, s.HealthIsolates ((s.setLink p h (some { l with sup := x })).isolateByHealth p h) p h l k := by
  generalize hold : ({ l with sup := { x with score := 255 } } : Link) = old
  have hus : old.state = .up ∧ old.agree = l.agree ∧ old.sup.score = 255 := by rw [← hold]; exact ⟨hs, rfl, rfl⟩
  obtain ⟨hus, hagree, hscore⟩ := hus
  have m := State.movesOn_setLink hl (hus.trans hs.symm)
  have hview (l' : Link) (e : (s.port p).usable h l' = (s.port p).usable h l) (y : Option Link) :
      ((s.setLink p h y).port p).usable h l' = (s.port p).usable h l := by
    rw [State.setLink, State.modPos, State.port_modPort_self, ← e, ← PortUnit.usable_bare, PortUnit.bare_setPos,
      PortUnit.usable_bare]
  generalize hk : old.toIsolated s.uptime (groupLanes l.agree.active ||| (s.port p).usable h l) .health 127 = k
  have heq : (s.setLink p h (some { l with sup := x })).isolateByHealth p h =
      (s.setLink p h (some old)).enterIsolated p h (some old) k .health .health fun u => u.filed p h [l.downNotice .health] := by
    rw [State.isolateByHealth, State.withLink_of_link (State.link_setLink_self ..)]
    dsimp only
    rw [hview { l with sup := x } rfl, State.enterIsolated, State.enterIsolated, State.moveLink_setLink, State.moveLink_setLink, ← hk, ← hold]
    rfl
  have hks : k.state = .isolated ∧ k.sup.isoCause.getD .health = .health ∧ k.sup.score = 127 ∧ k.far = l.far := by
    rw [← hk]
    exact ⟨rfl, rfl, rfl, (old.leave_kept s.uptime).1.trans (by rw [← hold])⟩
  obtain ⟨hks, hcause, hk127, hfar⟩ := hks
  have d := State.does_enterIsolated m.link (by simp [hus]) hks .health .health [l.downNotice .health]
  have hpos := (s.setLink p h (some old)).pos_enterIsolated p h (some old) k .health .health [l.downNotice .health]
  have hrel := (State.released_moveLink (s := s.setLink p h (some old)) (p := p) (h := h) hus (k := k) (by simp [hks])
    .health .health)
  rw [State.snapOf_up _ p h .health hus (by simp [hks]), hscore, hfar, hcause, hk127, Option.map_some, hus] at d
  rw [heq]
  generalize ht : (s.setLink p h (some old)).enterIsolated p h (some old) k .health .health _ = t at *
  refine ⟨k, ?_, by rw [State.link, hpos], ⟨{ x with score := 255 }, by rw [← hk, hold]⟩, fun i hi => ?_⟩
  · have a := m.does.andThen d (by rw [m.link, hl]; exact congrArg LinkState.holding (hus.trans hs.symm))
    have hcap : (s.setLink p h (some old)).upRecord p h old .health 255 l.far = s.upRecord p h l .health 255 l.far := by
      unfold State.upRecord
      rw [hview old (by rw [← hold]; rfl), hagree]
      rfl
    have hdown : l.downNotice .health = .linkDown .health .up (groupWidth l.agree.active) := by
      rw [Link.downNotice, hs, if_pos rfl]
    rw [hcap, hdown] at a
    exact a
  · have e : t.port p = ((s.setLink p h (some old)).moveLink p h (some old) (some k) .health .health).port p := by
      rw [← ht, State.enterIsolated, State.port_postLink, State.port_filed]
    rw [e]
    exact hrel i ((PortUnit.ofHalf_of_bare (State.bare_port m.does.bare p) h i).trans hi)

/-- R133, R135: the record of a link isolated by its score. -/
theorem State.HealthIsolates.fields (m : s.HealthIsolates t p h l k) (hs : l.state = .up) :
    k.state = .isolated ∧ k.sup.isoCause = some .health ∧ k.sup.score = 127 ∧ k.sup.level = none ∧
      k.sup.probeTimer = some ⟨s.uptime, 10⟩ ∧ k.agree.active = none ∧ k.marks = {} ∧
      k.sup.probeSet = groupLanes l.agree.active ||| (s.port p).usable h l := by
  obtain ⟨x, hk⟩ := m.record
  rw [hk, Link.toIsolated, Link.leave_of_live (l := { l with sup := x }) (Link.live_iff.mpr (.inr hs))]
  exact ⟨rfl, rfl, rfl, rfl, rfl, rfl, rfl, rfl⟩

/-- R128, R133: a lock loss on an active lane that takes the score to 255. -/
theorem State.lockLostAt_isolates {r : Nat} (hl : s.link p h = some l) (hs : l.state = .up)
    (ha : LaneSet.has (groupLanes l.agree.active) r = true) (hn : 223 ≤ l.sup.score) : ∃ x,
    s.lockLostAt p h r = (s.setLink p h (some { l with sup := x })).isolateByHealth p h := by
  refine ⟨{ l.sup with lockLosses := satAdd 65535 l.sup.lockLosses 1 }, ?_⟩
  rw [State.lockLostAt]
  dsimp only
  rw [State.modLink_eq_setLink hl, State.withLink_of_link (State.link_setLink_self ..), if_neg (not_not_intro hs)]
  exact if_pos (by rw [ha]; exact decide_eq_true (show 255 ≤ min 255 (l.sup.score + 32) by omega))

/-- R133, R135: the isolation, seen from the state `s` in which the event began, `u` in which this link was acted on and
`t` in which the event ended. -/
theorem State.HealthIsolates.seen {v : State} (hus : u.pos p h = s.pos p h)
    (hub : u.bare = s.bare) (m : u.HealthIsolates v p h l k) (htv : t.pos p h = v.pos p h)
    (hlane : ∀ i, (s.port p).ofHalf h i = true → (t.port p).lane i = (v.port p).lane i) :
    t.link p h = some k ∧
      (∃ loss, (t.pos p h).snap = (s.pos p h).snap.attempt { s.upRecord p h l .health 255 l.far with noticeLoss := loss }) ∧
      ∀ lane, (s.port p).ofHalf h lane = true → ((t.port p).lane lane).active = false ∧ ((t.port p).lane lane).delay = 0 := by
  have hview := State.view_of_bare (f := fun q => q.usable h l) (fun q => q.usable_bare h l) hub p
  refine ⟨(congrArg Position.link htv).trans m.link, ⟨u.noticeLoss, ?_⟩, fun i hi => ?_⟩
  · rw [htv, m.does.acts.snap, hus, State.upRecord, State.upRecord, hview, State.uptime_of_bare hub]
    rfl
  · rw [hlane i hi]
    exact m.released i ((PortUnit.ofHalf_of_bare (State.bare_port hub p) h i).trans hi)
end

/-- Settles O41. -/
theorem healthIsolatesLink : Obligations.HealthIsolatesLink := by
  intro p h i s l hl hs hi
  have hnb : l.state ≠ .blocked := by rw [hs]; nofun
  obtain ⟨u, v, t, k, ht, hub, m, hpu, hpt, hlane, hquiet⟩ : ∃ (u v t : State) (k : Link), exec i s = .next t ∧
      u.bare = s.bare ∧ u.HealthIsolates v p h l k ∧ u.pos p h = s.pos p h ∧ t.pos p h = v.pos p h ∧
      (∀ i, (s.port p).ofHalf h i = true → (t.port p).lane i = (v.port p).lane i) ∧
      ((∀ h' l', h' ≠ h → s.link p h' = some l' → l'.state ≠ .up) → u = s ∧ t = v) := by
    rcases hi with ⟨counts, rfl, hj, hn, hd⟩ | ⟨lane, rfl, hp, rfl, ha, hn⟩
    · obtain ⟨h', u, t, hne, ht, hu, hv, hquiet⟩ := s.exec_violations p h counts
      have hpu := hu.pos hne hl hnb
      have hul : u.link p h = some l := (congrArg Position.link hpu).trans hl
      rw [State.judgeInterval_dirty hul hs hj hd, State.scoreTo, if_pos (by omega)] at hv hquiet
      obtain ⟨k, m⟩ := State.healthIsolates hul hs (l.counted h counts).sup
      have hvb := hu.bare
      refine ⟨u, _, t, k, ht, hvb, m, hpu, hv.pos hne m.link ?_, fun i hi => hv.lane hne ?_, hquiet⟩
      · rw [(m.fields hs).1]; nofun
      · exact (PortUnit.ofHalf_of_bare (State.bare_port (m.does.bare.trans hvb) p) h i).trans hi
    · obtain ⟨x, hx⟩ := State.lockLostAt_isolates hl hs ha hn
      obtain ⟨k, m⟩ := State.healthIsolates hl hs x
      exact ⟨s, _, _, k, congrArg Host.Outcome.next ((if_pos hp).trans hx), rfl, m, rfl, rfl, fun _ _ => rfl, fun _ => ⟨rfl, rfl⟩⟩
  obtain ⟨f1, f2, f3, f4, f5, f6, f7, f8⟩ := m.fields hs
  obtain ⟨g1, g2, g3⟩ := m.seen hpu hub hpt hlane
  refine ⟨t, k, ht, g1, f1, f2, f3, f4, f5.trans (by rw [State.uptime_of_bare hub]), f6, f7, f8.trans ?_, g2, g3, fun hn => ?_⟩
  · rw [State.view_of_bare (f := fun q => q.usable h l) (fun q => q.usable_bare h l) hub]
  · obtain ⟨rfl, rfl⟩ := hquiet hn
    exact ⟨m.does.queue, m.does.acts⟩
end Sys2Proof.Machine

/-! SUPPORT and PROOF. What the protocol and the recheck leave of an UP link, and the lock loss (R128, R142). -/

namespace Sys2Proof.Machine

open Sys2Proof

set_option Elab.async false

section
variable {s t u : State} {p : Port} {h : Half} {l k : Link}

/-- R129, R142: from `s` to `t` the UP link `l` has stayed UP, or has gone down to CHECKING with LANE_LOSS or SKEW_DRIFT. -/
def State.Settles (s t : State) (p : Port) (h : Half) (l : Link) : Prop :=
  ∃ k notes, t.link p h = some k ∧ k.sup.score = l.sup.score ∧ k.sup.lockLosses = l.sup.lockLosses ∧
    ((k.state = .up ∧ k.marks.lockLost = l.marks.lockLost ∧ s.Does t p h [] none notes) ∨
      (k.state = .checking ∧ k.marks = {} ∧ k.checkEntry = some s.uptime ∧ ∃ r : SnapRecord,
        r.left = some .up ∧ (r.reason = .laneLoss ∨ r.reason = .skewDrift) ∧ r.score = k.sup.score ∧
        s.Does t p h [s.moved h (some .up) (some .checking) r.reason] (some r) notes))

theorem State.Settles.after (m : s.event.Settles t p h l) : s.Settles (s.after t) p h l := by
  obtain ⟨k, notes, hk, h1, h2, ⟨h3, h4, d⟩ | ⟨h3, h4, h5, r, h6, h7, h8, d⟩⟩ := m
  · exact ⟨k, notes, hk, h1, h2, .inl ⟨h3, h4, d.after⟩⟩
  · exact ⟨k, notes, hk, h1, h2, .inr ⟨h3, h4, h5, r, h6, h7, h8, d.after⟩⟩

/-- What becomes of the link `l`, once it has become `k` in place. -/
theorem State.Settles.of_does {notes : List Detail} (d : s.Does u p h [] none notes) (hl : s.link p h = some l)
    (hk : u.link p h = some k) (hs : k.state = l.state) (m : u.Settles t p h k) (hsc : k.sup.score = l.sup.score)
    (hll : k.sup.lockLosses = l.sup.lockLosses) (hm : k.marks.lockLost = l.marks.lockLost) : s.Settles t p h l := by
  have hh : holds (u.link p h) = holds (s.link p h) := by rw [hk, hl]; exact congrArg LinkState.holding hs
  obtain ⟨k', notes', hk', h1, h2, ⟨h3, h4, d'⟩ | ⟨h3, h4, h5, r, h6, h7, h8, d'⟩⟩ := m
  · exact ⟨k', _, hk', h1.trans hsc, h2.trans hll, .inl ⟨h3, h4.trans hm, d.andThen d' hh⟩⟩
  · rw [State.moved_congr d.uptime] at d'
    exact ⟨k', _, hk', h1.trans hsc, h2.trans hll, .inr ⟨h3, h4, h5.trans (congrArg some d.uptime), r, h6, h7, h8, d.andThen d' hh⟩⟩

theorem State.settles_loseLanes (hl : s.link p h = some l) (hs : l.state = .up) {reason : Reason}
    (hr : reason = .laneLoss ∨ reason = .skewDrift) : s.Settles (s.loseLanes p h reason) p h l := by
  have hlive : l.live = true := Link.live_iff.mpr (.inr hs)
  have d := State.does_linkDown hl hlive (k := l.toChecking s.uptime) (.inl rfl) reason reason
  rw [if_pos hs, hs] at d
  rw [State.loseLanes, State.withLink_of_link hl]
  have hf : (l.toChecking s.uptime).sup.score = l.sup.score ∧ (l.toChecking s.uptime).sup.lockLosses = l.sup.lockLosses ∧
      (l.toChecking s.uptime).marks = {} := by
    rw [Link.toChecking, Link.leave_of_live hlive]; exact ⟨rfl, rfl, rfl⟩
  exact ⟨_, _, State.link_linkDown .., hf.1, hf.2.1, .inr ⟨rfl, hf.2.2, rfl,
    s.upRecord p h l reason l.sup.score (l.toChecking s.uptime).far, rfl, hr, hf.1.symm, d⟩⟩

theorem State.does_regroup (hl : s.link p h = some l) (hk : k.state = l.state) : ∃ notes,
    s.Does (s.regroup p h l k) p h [] none notes := by
  unfold State.regroup
  split
  · split
    · exact ⟨_, (State.movesOn_setLink hl hk).does⟩
    · exact ⟨_, (State.does_adoptUp hl hk).1⟩
  · exact ⟨_, (State.movesOn_setLink hl hk).does⟩

/-- R89 to R92: a run of the protocol. -/
theorem State.settles_upRun (hl : s.link p h = some l) (hs : l.state = .up) {reason : Reason}
    (hr : reason = .laneLoss ∨ reason = .skewDrift) : s.Settles (s.upRun p h reason) p h l := by
  rw [State.upRun_of_link hl]
  cases hk : (s.port p).runProtocol h l with
  | none => exact State.settles_loseLanes hl hs hr
  | some k =>
    have hkl := PortUnit.runProtocol_agree hk
    have hkf : k.state = l.state ∧ k.sup = l.sup ∧ k.marks = l.marks := by rw [hkl]; exact ⟨rfl, rfl, rfl⟩
    obtain ⟨notes, d⟩ := State.does_regroup hl hkf.1
    have hlu := s.link_regroup p h l k
    have hf : (l.regrouped k).state = l.state ∧ (l.regrouped k).sup = l.sup ∧ (l.regrouped k).marks = l.marks := by
      unfold Link.regrouped
      split
      · split <;> exact hkf
      · exact hkf
    generalize l.regrouped k = k' at hlu hf
    obtain ⟨h1, h2, h3⟩ := hf
    dsimp only
    rw [State.updateRegroup_of_link hlu]
    generalize s.regroup p h l k = v at *
    have m := State.movesOn_setLink (k := k'.inRegroup ((v.port p).regroupPending h k') v.uptime v.timing.timeout) hlu rfl
    exact ⟨_, _, m.link, congrArg (·.score) h2, congrArg (·.lockLosses) h2, .inl ⟨h1.trans hs, congrArg (·.lockLost) h3,
      d.quietly m.does (by rw [m.link, hlu]; rfl) (.inl rfl)⟩⟩

/-- R104, R105: the end of a recheck, where it has ended. -/
theorem State.settles_recheckTest (hl : s.link p h = some l) (hs : l.state = .up) : s.Settles (s.recheckTest p h) p h l := by
  by_cases hc : l.align.recheckState = .collecting ∧ l.align.recheck.complete = true
  · rw [State.recheckTest_complete hl hs hc.1 hc.2]
    generalize alignment l.align.recheck.stamped = r
    have m := State.movesOn_setLink (k := l.rechecked s.uptime r) hl rfl
    split
    · have d := m.does.quietly (State.does_applyGroup _ p h (groupLanes l.agree.active) r.skew)
        (by rw [State.link_applyGroup]) (.inl rfl)
      exact ⟨_, _, (State.link_applyGroup ..).trans m.link, rfl, rfl, .inl ⟨hs, rfl, d⟩⟩
    · exact .of_does m.does hl m.link rfl (State.settles_upRun m.link hs (.inr rfl)) rfl rfl rfl
  · rw [State.recheckTest, State.withLink_of_link hl, if_neg fun c => hc c.2]
    exact ⟨l, _, hl, rfl, rfl, .inl ⟨hs, rfl, .refl s p h⟩⟩

/-- R89: the protocol at an UP link. -/
theorem State.settles_upProtocol (hl : s.link p h = some l) (hs : l.state = .up) : s.Settles (s.upProtocol p h) p h l := by
  refine State.Settles.after (s := s) (t := (s.event.upRun p h .laneLoss).recheckTest p h) ?_
  have m := State.settles_upRun (s := s.event) hl hs (reason := .laneLoss) (.inl rfl)
  obtain ⟨k, notes, hk, h1, h2, ⟨h3, h4, d⟩ | ⟨h3, -⟩⟩ := id m
  · exact .of_does d hl hk (h3.trans hs.symm) (State.settles_recheckTest hk h3) h1 h2 h4
  · rw [State.recheckTest_down hk (by rw [h3]; nofun)]
    exact m

/-- R128: the lock loss at an UP link that is not isolated by it: the link as the protocol finds it. -/
theorem State.lockLostAt_marks (hl : s.link p h = some l) (hs : l.state = .up) {r : Nat} (hr : r < 8)
    (hn : LaneSet.has (groupLanes l.agree.active) r = true → l.sup.score < 223) : ∃ (u : State) (k : Link) (notes : List Detail),
      s.lockLostAt p h r = s.after (u.upProtocol p h) ∧ s.event.Does u p h [] none notes ∧ u.link p h = some k ∧ k.state = .up ∧
      k.sup.lockLosses = min 65535 (l.sup.lockLosses + 1) ∧ LaneSet.has k.marks.lockLost r = true ∧
      k.sup.score = (if LaneSet.has (groupLanes l.agree.active) r then l.sup.score + 32 else l.sup.score) := by
  have hmark (k : Link) (now : Uptime) : LaneSet.has ((k.abandonRecheck now r).markLockLost r).marks.lockLost r = true := by
    show LaneSet.has (_ ||| laneBit r true) r = true
    rw [has_or, show LaneSet.has (laneBit r true) r = true from (has_laneBit hr ..).trans (by simp), Bool.or_true]
  have habandon (k : Link) (now : Uptime) : ((k.abandonRecheck now r).markLockLost r).state = k.state ∧
      ((k.abandonRecheck now r).markLockLost r).sup = k.sup := by
    unfold Link.abandonRecheck
    split <;> exact ⟨rfl, rfl⟩
  generalize hk : ({ l with sup := { l.sup with lockLosses := satAdd 65535 l.sup.lockLosses 1 } } : Link) = k
  have hkf : k.state = .up ∧ k.sup.lockLosses = min 65535 (l.sup.lockLosses + 1) ∧ k.sup.score = l.sup.score ∧
      k.agree = l.agree := by rw [← hk]; exact ⟨hs, rfl, rfl, rfl⟩
  obtain ⟨hks, hkl, hksc, hka⟩ := hkf
  have m := (State.movesOn_setLink (s := s.event) hl (hks.trans hs.symm))
  have heq : s.lockLostAt p h r = s.after (State.upProtocol (State.modLink
      (if LaneSet.has (groupLanes l.agree.active) r then (s.event.setLink p h (some k)).setScore p h (min 255 (l.sup.score + 32))
        else s.event.setLink p h (some k)) p h fun k => (k.abandonRecheck s.uptime r).markLockLost r) p h) := by
    have hif : ¬ (LaneSet.has (groupLanes l.agree.active) r && decide (255 ≤ satAdd 255 l.sup.score 32)) = true := fun c => by
      obtain ⟨c1, c2⟩ := (Bool.and_eq_true ..).mp c
      have := hn c1
      have : 255 ≤ min 255 (l.sup.score + 32) := of_decide_eq_true c2
      omega
    rw [State.lockLostAt]
    dsimp only
    rw [State.modLink_eq_setLink hl, hk, State.withLink_of_link (State.link_setLink_self ..), if_neg (not_not_intro hks), hka,
      hksc, if_neg hif]
    rfl
  rw [heq]
  generalize s.event.setLink p h (some k) = v at *
  by_cases ha : LaneSet.has (groupLanes l.agree.active) r = true
  · rw [if_pos ha, if_pos ha, Nat.min_eq_right (by have := hn ha; omega)]
    have d := State.does_setScore m.link (l.sup.score + 32)
    have hlw := State.link_setScore m.link (l.sup.score + 32)
    generalize hk2 : ({ k with sup := { k.sup with
      score := l.sup.score + 32, level := some (levelOf v.timing.warning (l.sup.score + 32)) } } : Link) = k2 at hlw
    have hk2f : k2.state = .up ∧ k2.sup.lockLosses = k.sup.lockLosses ∧ k2.sup.score = l.sup.score + 32 := by
      rw [← hk2]; exact ⟨hks, rfl, rfl⟩
    generalize v.setScore p h (l.sup.score + 32) = w at *
    obtain ⟨e1, e2⟩ := habandon k2 s.uptime
    have m' := State.movesOn_modLink (f := fun k => (k.abandonRecheck s.uptime r).markLockLost r) hlw e1
    refine ⟨_, _, _, rfl, (m.does.quietly d ?_ (.inl rfl)).quietly m'.does ?_ (.inl rfl), m'.link, e1.trans hk2f.1, ?_,
      hmark .., ?_⟩
    · rw [hlw, m.link]; exact congrArg LinkState.holding (hk2f.1.trans hks.symm)
    · rw [m'.link, hlw]; exact congrArg LinkState.holding e1
    · rw [e2, hk2f.2.1, hkl]
    · rw [e2, hk2f.2.2]
  · rw [if_neg ha, if_neg ha]
    obtain ⟨e1, e2⟩ := habandon k s.uptime
    have m' := State.movesOn_modLink (f := fun k => (k.abandonRecheck s.uptime r).markLockLost r) m.link e1
    exact ⟨_, _, _, rfl, (m.trans m').does, m'.link, e1.trans hks, by rw [e2, hkl], hmark .., by rw [e2, hksc]⟩
end

/-- Settles O42. -/
theorem lockLossMarksLane : Obligations.LockLossMarksLane := by
  rintro p i s h l hp rfl hl
  refine ⟨fun hs => ?_, fun hs hn => ?_⟩
  · refine congrArg Host.Outcome.next ((if_pos hp).trans ?_)
    rw [State.lockLostAt]
    dsimp only
    rw [State.modLink_eq_setLink hl, State.withLink_of_link (State.link_setLink_self ..), if_pos hs]
    rfl
  · have hr : relLane ((s.port p).laneHalf i) i < 8 := Nat.lt_of_le_of_lt (Nat.sub_le ..) i.isLt
    obtain ⟨u, k, notes, heq, d, hk, hks, h1, h2, h3⟩ := State.lockLostAt_marks hl hs hr hn
    have hh : holds (u.link p ((s.port p).laneHalf i)) = holds (s.event.link p ((s.port p).laneHalf i)) := by
      rw [hk, show s.event.link p _ = some l from hl]; exact congrArg LinkState.holding (hks.trans hs.symm)
    obtain ⟨k', notes', hk', g1, g2, ⟨g3, g4, d'⟩ | ⟨g3, g4, g5, r, g6, g7, g8, d'⟩⟩ := State.settles_upProtocol hk hks
    · exact ⟨_, k', congrArg Host.Outcome.next ((if_pos hp).trans heq), hk', g2.trans h1, g1.trans h3,
        .inl ⟨g3, g4 ▸ h2, (d.andThen d' hh).after.acts⟩⟩
    · rw [State.moved_congr d.uptime] at d'
      exact ⟨_, k', congrArg Host.Outcome.next ((if_pos hp).trans heq), hk', g2.trans h1, g1.trans h3,
        .inr ⟨g3, g4, g5.trans (congrArg some d.uptime), r, g6, g7, g8, (d.andThen d' hh).after.acts⟩⟩

end Sys2Proof.Machine
